-- ==== Sys2Proof/Word.lean ====
section
/-! DEFINITION. The word types of the part: octets, times, addresses and counters, and the shape of a
sparse table of numbered records. -/

namespace Sys2Proof

/-- One octet of a frame, tag, record or image (00 Conventions). -/
abbrev Octet := BitVec 8

/-- A Station Time: microseconds, wrapping after 2^32 (00 Conventions). -/
abbrev Time := BitVec 32

/-- A 48-bit station, source or destination address, first octet most significant. -/
abbrev Address := BitVec 48

/-- A 32-bit wrapping counter (00 Conventions). -/
abbrev Count32 := BitVec 32

/-- One 4-octet Value of a management request or reply (09 9.2). -/
abbrev Value := BitVec 32

/-- A table of records by number. A number that is not listed is FREE (R28, R38, R113). Canonical
form: numbers strictly rising (`Tbl.wf` in Machine/Tables.lean). -/
abbrev Tbl (α : Type) := List (Nat × α)

end Sys2Proof
end

