-- ==== Sys2Proof/Config.lean ====
section
/-! DEFINITION. What the spec leaves open, as constants without a body: nothing in Lean can evaluate
one or prove a value of it. Each is named in a row of notes/assumptions. -/

namespace Sys2Proof

/-- Nanoseconds since the last whole microsecond at the moment a transmission is cut off, read modulo
1,000: the spec counts Station Time in whole microseconds and does not say how many octets of an
aborted frame have gone out within the current one (R5, log 10). The argument is the number of
uses before this one. -/
opaque Config.subMicrosecond : Nat → Nat

/-- Whether a time left with a part below one microsecond is rounded up when READ returns it in
microseconds (object 0x0042, log 22). -/
opaque Config.roundsUp : Nat → Bool

/-- What READ returns as the time left on the received-pause timer while that timer is stopped
(object 0x0042, log 22). -/
opaque Config.stoppedTimerReads : Value

/-- Whether the tests on an image's records are made in the order of R14's list of conditions or in that
of its table of failures, where the two report different offsets (log 21). -/
opaque Config.imageTestsAsListed : Bool

/-- Whether a WRITE of a classifier entry with Count 0 is served as a write of no item or answered
BAD-REQUEST (R174, log 20). -/
opaque Config.classifierWriteOfNothing : Bool

end Sys2Proof
end

