-- ==== Sys2Proof/Syntax.lean ====
section
/-! DEFINITION. The commands of the part, one constructor for each row of spec/opcode_table.json, and
the types of their operands. The table gives its rows no bits and no operand fields; the operands
are what each event or request brings to the part (log 1). -/

namespace Sys2Proof

/-- The two uplinks, and with them path 1 and path 2, Network 1 and Network 2 (00 Block diagram). -/
inductive Uplink where
  | u1 | u2
  deriving DecidableEq, Repr

/-- The three frame ports. -/
inductive Port where
  | u1 | u2 | b
  deriving DecidableEq, Repr

/-- The traffic classes: 0 General, 1 Stream, 2 Timing, 3 Event, 4 Presence. -/
inductive TClass where
  | general | stream | timing | event | presence
  deriving DecidableEq, Repr

/-- The levels of the strap pins (R186). A speed strap is true for 1,000 Mb/s. -/
structure Straps where
  bay1000       : Bool
  imagePresent  : Bool
  addressStrap  : BitVec 4
  u1Speed1000   : Bool
  u2Speed1000   : Bool
  pairGeneral   : Bool
  bayPause      : Bool
  deriving DecidableEq, Repr

/-- The five fault kinds (08 8.1). -/
inductive FaultKind where
  | entryCheck | originCheck | blockCheck | handleCheck | imageCheck
  deriving DecidableEq, Repr

/-- A fault report on its way to the Fault Unit (R160). -/
structure FaultReport where
  kind     : FaultKind
  location : Nat
  port     : Option Port
  cls      : Option TClass
  deriving DecidableEq, Repr

/-- A management request as the Management Agent is handed it (01 1.5), less its Code. `values` are the
complete 4-octet Values that stand in the frame, padding included. -/
structure Request where
  port    : Port
  source  : Address
  flags   : Octet
  token   : BitVec 16
  object  : BitVec 16
  index   : BitVec 16
  count   : Octet
  values  : List Value
  deriving DecidableEq, Repr

/-- The commands: spec/opcode_table.json, row by row. -/
inductive Instr where
  /-- CHIP_RESET (R185): RESET_N goes low, or power comes on. -/
  | chipReset
  /-- CHIP_RESET_RELEASE (R185): RESET_N goes high with the strap pins at these levels. -/
  | chipResetRelease (straps : Straps)
  /-- UPLINK_ARRIVAL (R17): a whole frame, FCS included, has been received on an uplink. -/
  | uplinkArrival (u : Uplink) (frame : List Octet)
  /-- BAY_ARRIVAL (R18): a whole frame, FCS included, has been received on B. -/
  | bayArrival (frame : List Octet)
  /-- LINK_STATE_DOWN (R109): the PHY's link indication of an uplink goes down. -/
  | linkStateDown (u : Uplink)
  /-- LINK_STATE_UP (R108): the PHY's link indication of an uplink goes up. -/
  | linkStateUp (u : Uplink)
  /-- PAUSE_REFRESH_TIMER_EXPIRY (R34). -/
  | pauseRefreshTimerExpiry
  /-- RECEIVED_PAUSE_TIMER_EXPIRY (R157). -/
  | receivedPauseTimerExpiry
  /-- TABLE_SCANNER_TIMER_EXPIRY (R56). -/
  | tableScannerTimerExpiry
  /-- PRESENCE_TIMER_EXPIRY (R100). -/
  | presenceTimerExpiry
  /-- NOTICE_TIMER_EXPIRY (R183). -/
  | noticeTimerExpiry
  /-- QUIET_TIMER_EXPIRY (R190). -/
  | quietTimerExpiry
  /-- LOAD_END (R188): the load's reading ends. `eeprom` is the octet at each address from 0 that the
  EEPROM acknowledges; it ends where the first octet is not acknowledged (R187, log 11). -/
  | loadEnd (eeprom : List Octet)
  /-- RELOAD_END (R192): a running RELOAD's reading ends. -/
  | reloadEnd (eeprom : List Octet)
  /-- UPLINK_TRANSMISSION_COMPLETE (R149). -/
  | uplinkTransmissionComplete (u : Uplink)
  /-- BAY_TRANSMISSION_COMPLETE (R155). -/
  | bayTransmissionComplete
  /-- PAUSE_FRAME_COMPLETE (R156). -/
  | pauseFrameComplete
  /-- FAULT_REPORT (R162): the Fault Unit takes one report. -/
  | faultReport (report : FaultReport)
  /-- READ (R173). -/
  | read (r : Request)
  /-- WRITE (R174). -/
  | write (r : Request)
  /-- ENTRY-READ (R55). -/
  | entryRead (r : Request)
  /-- ENTRY-PIN (R49). -/
  | entryPin (r : Request)
  /-- ENTRY-UNPIN (R52). -/
  | entryUnpin (r : Request)
  /-- ENTRY-REMOVE (R53). -/
  | entryRemove (r : Request)
  /-- ORIGIN-READ (R130). -/
  | originRead (r : Request)
  /-- ORIGIN-PIN (R128). -/
  | originPin (r : Request)
  /-- ORIGIN-REMOVE (R129). -/
  | originRemove (r : Request)
  /-- SLOT-STAGE (R142). -/
  | slotStage (r : Request)
  /-- SLOT-APPLY (R143). -/
  | slotApply (r : Request)
  /-- INJECT (R132). -/
  | inject (r : Request)
  /-- FAULT-ACK (R167). -/
  | faultAck (r : Request)
  /-- CLEAR-COUNTERS (R179). -/
  | clearCounters (r : Request)
  /-- FLUSH-TABLE (R54). -/
  | flushTable (r : Request)
  /-- RELOAD (R180). -/
  | reload (r : Request)
  /-- RESET with scope PORT-1 or PORT-2 in Index (R193), or with an undefined scope. -/
  | resetPort (r : Request)
  /-- RESET with scope ENGINE (R180): Index is 3. -/
  | resetEngine (r : Request)
  deriving DecidableEq, Repr

end Sys2Proof
end

