-- ==== Sys2Proof/WellFormed.lean ====
section
/-! DEFINITION. Which commands are well formed: what the world outside can really bring. The meanings
are total and do not rely on it. -/

namespace Sys2Proof

/-- The largest number of Values that fit in the longest frame: 1,522 octets less 14 of addresses and
Type, 9 of the fixed body and 4 of FCS (R1, 01 1.5). -/
def maxFrameValues : Nat := 373

/-- A request in a frame brings no more Values than the longest frame holds. -/
def Request.wf (r : Request) : Bool := r.values.length ≤ maxFrameValues

/-- The largest Location of each fault kind (08 8.1). -/
def FaultKind.maxLocation : FaultKind → Nat
  | .entryCheck  => 511
  | .originCheck => 63
  | .blockCheck  => 2047
  | .handleCheck => 1023
  | .imageCheck  => 4095

/-- The fields of a report fit its kind (08 8.1): the Location's range; BLOCK-CHECK carries Port and
Class; HANDLE-CHECK no Class; IMAGE-CHECK neither. -/
def FaultReport.wf (r : FaultReport) : Bool :=
  r.location ≤ r.kind.maxLocation &&
  match r.kind with
  | .entryCheck  => true
  | .originCheck => true
  | .blockCheck  => r.port.isSome && r.cls.isSome
  | .handleCheck => r.cls.isNone
  | .imageCheck  => r.port.isNone && r.cls.isNone

/-- Well-formed commands: an arrival has an octet (R16); the Loader reads at most 4,096 octets (R14);
a request's scope fits its row (R180). -/
def Instr.wf : Instr → Bool
  | .chipReset | .chipResetRelease _ => true
  | .uplinkArrival _ f => !f.isEmpty
  | .bayArrival f => !f.isEmpty
  | .linkStateDown _ | .linkStateUp _ => true
  | .pauseRefreshTimerExpiry | .receivedPauseTimerExpiry | .tableScannerTimerExpiry => true
  | .presenceTimerExpiry | .noticeTimerExpiry | .quietTimerExpiry => true
  | .loadEnd e => e.length ≤ 4096
  | .reloadEnd e => e.length ≤ 4096
  | .uplinkTransmissionComplete _ | .bayTransmissionComplete | .pauseFrameComplete => true
  | .faultReport r => r.wf
  | .read r | .write r | .entryRead r | .entryPin r | .entryUnpin r | .entryRemove r => r.wf
  | .originRead r | .originPin r | .originRemove r | .slotStage r | .slotApply r => r.wf
  | .inject r | .faultAck r | .clearCounters r | .flushTable r | .reload r => r.wf
  | .resetPort r => r.wf && r.index != 3
  | .resetEngine r => r.wf && r.index == 3

end Sys2Proof
end

