-- ==== Sys2Proof/Decode.lean ====
section
/-! DEFINITION. Reading a command from a word by the bits of spec/opcode_table.json. The part has no
instruction encoding: none of the table's 36 rows gives bits ("n_rows_with_fixed": 0 in
98_reader.md), so no word of any width spells a command. A management frame's octets are read by
Machine/Frames.lean inside the arrival that brings them. -/

namespace Sys2Proof

/-- The command that a word spells by the table's bits. No row of the table gives bits, so every word
of every width is rejected. -/
def decodeTableWord (_nbits _w : Nat) : Option Instr := none

end Sys2Proof
end

