-- ==== Sys2Proof/Machine/Settings.lean ====
section
/-! DEFINITION. The Settings store with the classifier (09 9.2, 02 2.2), and its defaults. -/

namespace Sys2Proof.Machine

/-- One value for each of the classes 0..3. -/
structure Per4 (α : Type) where
  general : α
  stream  : α
  timing  : α
  event   : α
  deriving DecidableEq, Repr

/-- Line Access (R171). -/
inductive LineAccess where
  | none | read | full
  deriving DecidableEq, Repr

/-- A classifier entry (R22). Bit p of `mask` is the flag of VLAN priority p. Class is 0..3. -/
structure ClassifierEntry where
  etherType : BitVec 16
  mask      : BitVec 8
  cls       : TClass
  paired    : Bool
  deriving DecidableEq, Repr

/-- The Settings store (R174). Times in the unit the table of 9.2 gives; a speed is true for
1,000 Mb/s; `stalePass` is Stale Policy PASS. -/
structure Settings where
  jumpLimit          : Nat
  windowHold         : Nat
  twinTimeout        : Nat
  missLimit          : Nat
  stalePass          : Bool
  skewLimit          : Nat
  suspectThreshold   : Nat
  sourceAge          : Nat
  originAge          : Nat
  presenceInterval   : Nat
  noticeSpacing      : Nat
  epochSeed          : Nat
  declaredInterval   : Per4 Nat
  residenceLimit     : Per4 Nat
  generalFloor       : Nat
  streamFloor        : Nat
  generalHandleFloor : Nat
  pauseOn            : Nat
  pauseOff           : Nat
  bayPause           : Bool
  honorPause         : Bool
  pairGeneral        : Bool
  passUntagged       : Bool
  lineAccess         : LineAccess
  u1Speed1000        : Bool
  u2Speed1000        : Bool
  tagMarker          : BitVec 16
  managementMarker   : BitVec 16
  presenceMarker     : BitVec 16
  presenceGroup      : Address
  noticeDestination  : Address
  classifier         : Vector ClassifierEntry 8
  deriving DecidableEq, Repr

/-- A classifier entry after reset: no priority set, so it matches no frame (R22). -/
def ClassifierEntry.disabled : ClassifierEntry :=
  { etherType := 0, mask := 0, cls := .general, paired := false }

/-- The classifier after chip reset and engine reset (R22). -/
def classifierAfterReset : Vector ClassifierEntry 8 := Vector.replicate 8 ClassifierEntry.disabled

/-- The defaults of the settings table of 9.2, the soft-strap defaults among them (R186), with the
classifier entries given. -/
def Settings.defaults (st : Straps) (cl : Vector ClassifierEntry 8) : Settings :=
  { jumpLimit          := 4096
    windowHold         := 500
    twinTimeout        := 20
    missLimit          := 8
    stalePass          := false
    skewLimit          := 2000
    suspectThreshold   := 4
    sourceAge          := 60
    originAge          := 300
    presenceInterval   := 100
    noticeSpacing      := 1
    epochSeed          := 0
    declaredInterval   := { general := 0, stream := 1, timing := 0, event := 0 }
    residenceLimit     := { general := 0, stream := 4, timing := 2, event := 10 }
    generalFloor       := 512
    streamFloor        := 128
    generalHandleFloor := 128
    pauseOn            := 256
    pauseOff           := 384
    bayPause           := st.bayPause
    honorPause         := true
    pairGeneral        := st.pairGeneral
    passUntagged       := true
    lineAccess         := .read
    u1Speed1000        := st.u1Speed1000
    u2Speed1000        := st.u2Speed1000
    tagMarker          := 0x8BE2
    managementMarker   := 0x8BE3
    presenceMarker     := 0x8BE4
    presenceGroup      := 0x01B5E0000001
    noticeDestination  := 0x01B5E0000002
    classifier         := cl }

end Sys2Proof.Machine
end

