-- ==== Sys2Proof/Machine/Slots.lean ====
section
/-! DEFINITION. The slot maps of the Uplink Egress and how one is built from three counts (R141). -/

namespace Sys2Proof.Machine

/-- The four class queues of an Uplink Egress, and what a slot names (07 7.1, 7.2). -/
inductive SlotClass where
  | event | timing | stream | general
  deriving DecidableEq, Repr

/-- Event, Timing and Stream counts of a map; General has the rest (R141). -/
structure SlotCounts where
  event  : Nat
  timing : Nat
  stream : Nat
  deriving DecidableEq, Repr

/-- The sum that R142 and R188 hold to at most 64. -/
def SlotCounts.sum (c : SlotCounts) : Nat := c.event + c.timing + c.stream

/-- General's count (R141). -/
def SlotCounts.general (c : SlotCounts) : Nat := 64 - c.sum

/-- The credits of the map construction (R141). -/
structure SlotCredits where
  event   : Int
  timing  : Int
  stream  : Int
  general : Int
  deriving DecidableEq, Repr

/-- Step 1 of R141: each class adds its count to its credit. -/
def SlotCredits.add (c : SlotCounts) (k : SlotCredits) : SlotCredits :=
  { event   := k.event + c.event
    timing  := k.timing + c.timing
    stream  := k.stream + c.stream
    general := k.general + c.general }

/-- Step 2 of R141: the largest credit wins, a tie going to the first of Event, Timing, Stream,
General. -/
def SlotCredits.winner (k : SlotCredits) : SlotClass :=
  if k.timing ≤ k.event ∧ k.stream ≤ k.event ∧ k.general ≤ k.event then .event
  else if k.stream ≤ k.timing ∧ k.general ≤ k.timing then .timing
  else if k.general ≤ k.stream then .stream
  else .general

/-- Step 3 of R141: the winner's credit is reduced by 64. -/
def SlotCredits.charge (k : SlotCredits) : SlotClass → SlotCredits
  | .event   => { k with event := k.event - 64 }
  | .timing  => { k with timing := k.timing - 64 }
  | .stream  => { k with stream := k.stream - 64 }
  | .general => { k with general := k.general - 64 }

/-- `n` further slots of a map, from the credits `k` (R141). -/
def buildSlots (c : SlotCounts) : Nat → SlotCredits → List SlotClass
  | 0, _ => []
  | n + 1, k =>
    (k.add c).winner :: buildSlots c n ((k.add c).charge (k.add c).winner)

/-- The 64-slot map of three counts (R141). -/
def buildMap (c : SlotCounts) : List SlotClass :=
  buildSlots c 64 { event := 0, timing := 0, stream := 0, general := 0 }

/-- The default counts (R144). -/
def SlotCounts.default : SlotCounts := { event := 8, timing := 4, stream := 20 }

end Sys2Proof.Machine
end

