-- ==== Sys2Proof/Machine/State.lean ====
section
/-! DEFINITION. The state of the part: plain data, every piece of state the spec names, each under the
block that owns it, and `State.reset`, the part as it is held in chip reset (R185, log 7). -/

namespace Sys2Proof.Machine

/-- A running timer holds the time left; `none` is a stopped timer. -/
abbrev Timer := Option Nat

/-- One value for each of the classes 0..4. -/
structure PerClass (α : Type) where
  general  : α
  stream   : α
  timing   : α
  event    : α
  presence : α
  deriving DecidableEq, Repr

/-! ### Frame Store (02 2.4, 2.6) -/

/-- What a block that is not free is (R28): held by a live handle, or quarantined. -/
inductive BlockOwner where
  | held (handle : Nat)
  | quarantined
  deriving DecidableEq, Repr

/-- A block that is not free. `check` is the difference (XOR) between the stored 16-bit code and the
code recomputed over the contents: 0 where they agree (log 6). -/
structure Block where
  owner : BlockOwner
  data  : List Octet
  check : BitVec 16
  deriving DecidableEq, Repr

/-- The optional Tag Fields of a handle (R29). Path is absent for a frame the part stamps (R121). -/
structure TagFields where
  seq      : BitVec 16
  path     : Option Uplink
  epoch    : BitVec 3
  cls      : TClass
  interval : BitVec 8
  deriving DecidableEq, Repr

/-- A handle that is not free (R29); `check` as in `Block` (log 6). -/
structure Handle where
  length      : Nat
  cls         : TClass
  arrival     : Time
  blocks      : List Nat
  refs        : Nat
  tag         : Option TagFields
  quarantined : Bool
  check       : BitVec 16
  deriving DecidableEq, Repr

/-- The Frame Store (R28): a block or handle that is not listed is free. -/
structure FrameStore where
  blocks          : Tbl Block
  handles         : Tbl Handle
  quarantineDrops : Count32
  internalDrops   : Count32
  deriving DecidableEq, Repr

/-! ### Ports (02 2.3, 2.5) -/

/-- The per-port counters (R27, R111, R159), in the order of objects 0x0010 to 0x0012. -/
structure PortCounters where
  framesReceived     : Count32
  fcsErrors          : Count32
  lengthErrors       : Count32
  bayTagged          : Count32
  pauseReceived      : Count32
  pauseDiscards      : Count32
  tagErrors          : Count32
  pathMismatch       : Count32
  ownPresence        : Count32
  ownOrigin          : Count32
  stationDiscards    : Count32
  untaggedDiscards   : Count32
  managementDiscards : Count32
  intakeDrops        : PerClass Count32
  pausesSent         : Count32
  framesSent         : Count32
  transmitAborts     : Count32
  pauseHolds         : Count32
  linkDowns          : Count32
  deriving DecidableEq, Repr

/-- The per-port counters after chip reset and engine reset (R27). -/
def PortCounters.zero : PortCounters :=
  { framesReceived := 0, fcsErrors := 0, lengthErrors := 0, bayTagged := 0, pauseReceived := 0,
    pauseDiscards := 0, tagErrors := 0, pathMismatch := 0, ownPresence := 0, ownOrigin := 0,
    stationDiscards := 0, untaggedDiscards := 0, managementDiscards := 0,
    intakeDrops := { general := 0, stream := 0, timing := 0, event := 0, presence := 0 },
    pausesSent := 0, framesSent := 0, transmitAborts := 0, pauseHolds := 0, linkDowns := 0 }

/-- The pause-emission state of the B Intake (02 2.5): times in µs. -/
structure PauseEmission where
  asserted : Bool
  refresh  : Timer
  pending  : Option (BitVec 16)
  deriving DecidableEq, Repr

/-! ### Source Table and Duplicate Filter (03, 04, 05) -/

/-- State of a Source Table entry that is not FREE (R38). -/
inductive EntryState where
  | active | pinned
  deriving DecidableEq, Repr

/-- Path State (05 5.1). -/
inductive PathState where
  | unseen | present | lost
  deriving DecidableEq, Repr

/-- The window of an entry (R67); bit k of `seen` is the flag at offset k. -/
structure Window where
  head       : BitVec 16
  seen       : BitVec 64
  epoch      : BitVec 3
  prevEpoch  : Option (BitVec 3)
  lastAccept : Time
  deriving DecidableEq, Repr

/-- The path fields of an entry (05 5.1). -/
structure PathRecord where
  state       : PathState
  lastArrival : Option Time
  missRun     : BitVec 8
  missing     : BitVec 16
  deriving DecidableEq, Repr

/-- A twin record (R77). -/
structure Twin where
  seq       : BitVec 16
  firstPath : Uplink
  firstTime : Time
  deriving DecidableEq, Repr

/-- Silence Limit in ms with its Silent flag (R60). -/
structure Silence where
  limit  : BitVec 16
  silent : Bool
  deriving DecidableEq, Repr

/-- A Source Table entry that is not FREE (03 3.1); `check` as in `Block` (log 6). The Skew Average is
in 1/8 µs. -/
structure Entry where
  addr             : Address
  cls              : TClass
  state            : EntryState
  window           : Option Window
  declaredInterval : BitVec 8
  path1            : PathRecord
  path2            : PathRecord
  twins            : List Twin
  skewAverage      : Option Int
  sampleCount      : BitVec 16
  skewAlarm        : Bool
  silence          : Option Silence
  peerStatus       : Option (BitVec 64)
  accepted         : BitVec 16
  repeats          : BitVec 16
  late             : BitVec 16
  stale            : BitVec 16
  resync           : BitVec 16
  samePath         : BitVec 16
  unmatched        : BitVec 16
  created          : Time
  lastUse          : Time
  check            : BitVec 16
  deriving DecidableEq, Repr

/-- The filter counters, in the order of object 0x0020 (R62, R87, R111). -/
structure FilterCounters where
  entriesCreated  : Count32
  replaced        : Count32
  agedOut         : Count32
  removed         : Count32
  path1Accepted   : Count32
  path2Accepted   : Count32
  path1Discarded  : Count32
  path2Discarded  : Count32
  stalePassed     : Count32
  staleEpochs     : Count32
  windowExpiries  : Count32
  twinOverflows   : Count32
  twinSlides      : Count32
  twinTimeouts    : Count32
  skewClamps      : Count32
  pathsLost       : Count32
  pathsRestored   : Count32
  bodyErrors      : Count32
  presenceBuilt   : Count32
  presenceSkipped : Count32
  deriving DecidableEq, Repr

/-- The filter counters after chip reset and engine reset (R63, R87, R111). -/
def FilterCounters.zero : FilterCounters :=
  { entriesCreated := 0, replaced := 0, agedOut := 0, removed := 0, path1Accepted := 0,
    path2Accepted := 0, path1Discarded := 0, path2Discarded := 0, stalePassed := 0,
    staleEpochs := 0, windowExpiries := 0, twinOverflows := 0, twinSlides := 0, twinTimeouts := 0,
    skewClamps := 0, pathsLost := 0, pathsRestored := 0, bodyErrors := 0, presenceBuilt := 0,
    presenceSkipped := 0 }

/-- The Duplicate Filter with the Source Table and the Table Scanner. The levels and summary counts
are registers, changed as R38, R46, R47 and R96 say (log 28). -/
structure Filter where
  entries      : Tbl Entry
  entriesInUse : Nat
  pinnedInUse  : Nat
  single1      : Nat
  single2      : Nat
  suspect1     : Bool
  suspect2     : Bool
  bucketCursor : Fin 128
  originCursor : Fin 64
  scanTimer    : Timer
  counters     : FilterCounters
  deriving DecidableEq, Repr

/-- The own-presence state of one uplink (05 5.5). -/
structure OwnPresence where
  joinedRaised   : Bool
  joinedLastSeen : Option Time
  loopRaised     : Bool
  loopLastSeen   : Option Time
  deriving DecidableEq, Repr

/-- The Presence Unit (05 5.3, 5.5). -/
structure PresenceUnit where
  timer : Timer
  own1  : OwnPresence
  own2  : OwnPresence
  deriving DecidableEq, Repr

/-! ### Pairing Unit (06) -/

/-- State of an Origin Table entry that is not FREE (R113). -/
inductive OriginState where
  | learned | pinned
  deriving DecidableEq, Repr

/-- An Origin Table entry that is not FREE (06 6.1); `check` as in `Block` (log 6). -/
structure OriginEntry where
  state    : OriginState
  addr     : Address
  epoch    : BitVec 3
  next     : PerClass (BitVec 16)
  lastSeen : Time
  check    : BitVec 16
  deriving DecidableEq, Repr

/-- Target of the Injection Control (06 6.5). -/
inductive InjectTarget where
  | u1 | u2 | both
  deriving DecidableEq, Repr

/-- Mode of the Injection Control. -/
inductive InjectMode where
  | off | once | continuous
  deriving DecidableEq, Repr

/-- Kind of the Injection Control. -/
inductive InjectKind where
  | omit | fcsCorrupt | seqOffset
  deriving DecidableEq, Repr

/-- The Injection Control (06 6.5); an absent `filter` is "any". -/
structure Injection where
  target : InjectTarget
  filter : Option TClass
  mode   : InjectMode
  kind   : InjectKind
  deriving DecidableEq, Repr

/-- The pairing counters, in R137's order. -/
structure PairingCounters where
  pairedFrames   : Count32
  proxyOverflow  : Count32
  unpairedFrames : Count32
  quietDrops     : Count32
  linkDownCopies : Count32
  noLinkDrops    : Count32
  originLearned  : Count32
  originAged     : Count32
  originRemoved  : Count32
  injectedCopies : Count32
  deriving DecidableEq, Repr

/-- The pairing counters after chip reset and engine reset (R137). -/
def PairingCounters.zero : PairingCounters :=
  { pairedFrames := 0, proxyOverflow := 0, unpairedFrames := 0, quietDrops := 0,
    linkDownCopies := 0, noLinkDrops := 0, originLearned := 0, originAged := 0, originRemoved := 0,
    injectedCopies := 0 }

/-- The Pairing Unit with the Origin Table (06). The levels are registers (log 28). -/
structure Pairing where
  entries          : Tbl OriginEntry
  originInUse      : Nat
  originPinned     : Nat
  epochCounter     : BitVec 3
  overflowSequence : BitVec 16
  overflowEpoch    : BitVec 3
  injection        : Injection
  counters         : PairingCounters
  deriving DecidableEq, Repr

/-! ### Egress (07) -/

/-- A queue entry (07 7.1). In the Bay Egress an entry names a handle alone: its other two fields are
false. -/
structure QueueEntry where
  handle     : Nat
  seqOffset  : Bool
  fcsCorrupt : Bool
  deriving DecidableEq, Repr

/-- A queue with its counters and its sticky Overflow flag (R139, R140, R159). -/
structure Queue where
  entries        : List QueueEntry
  drops          : Count32
  overflow       : Bool
  residenceDrops : Count32
  deriving DecidableEq, Repr

/-- A queue after chip reset and engine reset (R140). -/
def Queue.empty : Queue := { entries := [], drops := 0, overflow := false, residenceDrops := 0 }

/-- What a port is sending: the frame's octets, the time of one octet at the speed the transmission
started with, and the time left, both in ns (R148). -/
structure OnWire where
  octets  : List Octet
  octetNs : Nat
  left    : Nat
  deriving DecidableEq, Repr

/-- The transmit-in-progress record of an uplink (07 7.3). -/
structure UplinkTx where
  handle     : Nat
  queue      : SlotClass
  seqOffset  : Bool
  fcsCorrupt : Bool
  wire       : OnWire
  deriving DecidableEq, Repr

/-- An Uplink Egress (07, 05 5.6). `phy` is the PHY's link indication; `sent` is the model's own record
of the frames that have left the port, oldest first (log 10). -/
structure UplinkEgress where
  phy               : Bool
  linkUp            : Bool
  event             : Queue
  timing            : Queue
  stream            : Queue
  general           : Queue
  activeCounts      : SlotCounts
  activeMap         : List SlotClass
  stagedCounts      : SlotCounts
  stagedMap         : List SlotClass
  cursor            : Fin 64
  applyPending      : Bool
  tx                : Option UplinkTx
  flushDrops        : Count32
  fallThroughStarts : Count32
  sent              : List (List Octet)
  deriving DecidableEq, Repr

/-- An Uplink Egress after chip reset (R108, R140, R144, R152). -/
def UplinkEgress.reset : UplinkEgress :=
  { phy := false, linkUp := false, event := Queue.empty, timing := Queue.empty,
    stream := Queue.empty, general := Queue.empty, activeCounts := SlotCounts.default,
    activeMap := buildMap SlotCounts.default, stagedCounts := SlotCounts.default,
    stagedMap := buildMap SlotCounts.default, cursor := 0, applyPending := false, tx := none,
    flushDrops := 0, fallThroughStarts := 0, sent := [] }

/-- The five queues of the Bay Egress (07 7.4). -/
inductive BayQueue where
  | event | service | timing | stream | general
  deriving DecidableEq, Repr

/-- What the B transmitter is sending (R154, R156). -/
inductive BayTx where
  | frame (handle : Nat) (wire : OnWire)
  | pause (quanta : BitVec 16) (wire : OnWire)
  deriving DecidableEq, Repr

/-- The Bay Egress (07 7.4); `pauseTimer` is in ns; `sent` as in `UplinkEgress`. -/
structure BayEgress where
  event      : Queue
  service    : Queue
  timing     : Queue
  stream     : Queue
  general    : Queue
  tx         : Option BayTx
  held       : Bool
  pauseTimer : Timer
  sent       : List (List Octet)
  deriving DecidableEq, Repr

/-! ### Fault Unit (08) -/

/-- A Fault Record (R161). -/
structure FaultRecord where
  kind     : FaultKind
  time     : Time
  location : Nat
  port     : Option Port
  cls      : Option TClass
  deriving DecidableEq, Repr

/-- The Fault Counts, one per kind (R161). -/
structure FaultCounts where
  entryCheck  : Count32
  originCheck : Count32
  blockCheck  : Count32
  handleCheck : Count32
  imageCheck  : Count32
  deriving DecidableEq, Repr

/-- The Fault Unit (08 8.2). -/
structure FaultUnit where
  primary       : Option FaultRecord
  held          : Option FaultRecord
  excess        : BitVec 8
  selfResets    : BitVec 16
  counts        : FaultCounts
  resetAnnounce : Bool
  faultPin      : Bool
  deriving DecidableEq, Repr

/-! ### Notices (09 9.6) -/

/-- The event kinds (01 1.7). -/
inductive EventKind where
  | pathLost | pathRestored | skewHigh | skewNormal | networkSuspect | networkClear | sourceSilent
  | networksJoined | loop | linkDown | linkUp | fault | selfReset | slotApplied | ready
  deriving DecidableEq, Repr

/-- An event record (01 1.6). -/
structure EventRecord where
  kind   : EventKind
  whr    : Octet
  cls    : Octet
  detail : BitVec 24
  addr   : Address
  time   : Time
  deriving DecidableEq, Repr

/-- The Notice Queue (09 9.6); the timer in µs. -/
structure Notices where
  records        : List EventRecord
  dropped        : BitVec 8
  timer          : Timer
  noticesSent    : Count32
  eventsQueued   : Count32
  eventsLost     : Count32
  noticeRefusals : Count32
  repliesBuilt   : Count32
  deriving DecidableEq, Repr

/-! ### Loader (10) -/

/-- The part state (R190). -/
inductive PartState where
  | loading | quiet | run
  deriving DecidableEq, Repr

/-- Image status (R188, R189). -/
inductive ImageStatus where
  | applied | absent | bad
  deriving DecidableEq, Repr

/-- The Loader (10). -/
structure Loader where
  straps         : Straps
  part           : PartState
  quietTimer     : Timer
  reloadRunning  : Bool
  imageStatus    : ImageStatus
  recordsSkipped : BitVec 16
  stationAddress : Address
  ready          : Bool
  deriving DecidableEq, Repr

/-! ### The part -/

/-- The state of the part. `pending` is the queue of waiting commands (log 1), `reports` the fault
reports a block has found and the Fault Unit has not yet taken (R163, log 5), `freeUses` the
model's counter of uses of a free value (log 10). -/
structure State where
  resetN      : Bool
  stationTime : Time
  loader      : Loader
  settings    : Settings
  store       : FrameStore
  portU1      : PortCounters
  portU2      : PortCounters
  portB       : PortCounters
  pause       : PauseEmission
  filter      : Filter
  presence    : PresenceUnit
  pairing     : Pairing
  u1          : UplinkEgress
  u2          : UplinkEgress
  bay         : BayEgress
  faults      : FaultUnit
  notices     : Notices
  reports     : List FaultReport
  freeUses    : Nat
  pending     : List Instr
  deriving DecidableEq, Repr

/-- No command stops the machine with a fault: every failure the spec describes has an effect it
gives (a check mismatch is captured by the Fault Unit, a refused request is answered). -/
inductive Fault where
  deriving DecidableEq, Repr

/-- Why a command has no meaning. -/
inductive Refusal where
  /-- Raised by `exec` alone, for a row of the table that has no meaning yet (safe). No arm raises it. -/
  | notModelled (mnemonic : String)
  deriving DecidableEq, Repr

/-! ### Reset -/

/-- The strap latches before the first release from chip reset: the spec gives none (log 8). -/
def strapsBeforeRelease : Straps :=
  { bay1000 := false, imagePresent := false, addressStrap := 0, u1Speed1000 := false,
    u2Speed1000 := false, pairGeneral := false, bayPause := false }

/-- The default station address 02-B5-E0-00-00-0n (R186). -/
def defaultStationAddress (st : Straps) : Address := 0x02B5E0000000 + st.addressStrap.setWidth 48

/-- The part as it is held in chip reset, RESET_N low (R185, log 7). DESIGN CHOICE (log 35): Overflow Epoch
holds 0 until the end of LOADING draws it (R118, R138); the spec gives it no value before that. -/
def State.reset : State :=
  { resetN := false
    stationTime := 0
    loader :=
      { straps := strapsBeforeRelease, part := .loading, quietTimer := none, reloadRunning := false,
        imageStatus := .absent, recordsSkipped := 0,
        stationAddress := defaultStationAddress strapsBeforeRelease, ready := false }
    settings := Settings.defaults strapsBeforeRelease classifierAfterReset
    store := { blocks := [], handles := [], quarantineDrops := 0, internalDrops := 0 }
    portU1 := PortCounters.zero
    portU2 := PortCounters.zero
    portB := PortCounters.zero
    pause := { asserted := false, refresh := none, pending := none }
    filter :=
      { entries := [], entriesInUse := 0, pinnedInUse := 0, single1 := 0, single2 := 0,
        suspect1 := false, suspect2 := false, bucketCursor := 0, originCursor := 0,
        scanTimer := none, counters := FilterCounters.zero }
    presence :=
      { timer := none
        own1 := { joinedRaised := false, joinedLastSeen := none, loopRaised := false, loopLastSeen := none }
        own2 := { joinedRaised := false, joinedLastSeen := none, loopRaised := false, loopLastSeen := none } }
    pairing :=
      { entries := [], originInUse := 0, originPinned := 0, epochCounter := 0, overflowSequence := 0,
        overflowEpoch := 0,
        injection := { target := .u1, filter := none, mode := .off, kind := .omit },
        counters := PairingCounters.zero }
    u1 := UplinkEgress.reset
    u2 := UplinkEgress.reset
    bay :=
      { event := Queue.empty, service := Queue.empty, timing := Queue.empty, stream := Queue.empty,
        general := Queue.empty, tx := none, held := false, pauseTimer := none, sent := [] }
    faults :=
      { primary := none, held := none, excess := 0, selfResets := 0,
        counts := { entryCheck := 0, originCheck := 0, blockCheck := 0, handleCheck := 0, imageCheck := 0 },
        resetAnnounce := false, faultPin := false }
    notices :=
      { records := [], dropped := 0, timer := none, noticesSent := 0, eventsQueued := 0, eventsLost := 0,
        noticeRefusals := 0, repliesBuilt := 0 }
    reports := []
    freeUses := 0
    pending := [] }

end Sys2Proof.Machine
end

