-- ==== Sys2Proof/Machine/Tables.lean ====
section
/-! DEFINITION. Operations on a sparse table of numbered records: reading, writing, freeing, and
finding the lowest free number. They keep the canonical form `Tbl.wf` (Laws/Tables.lean). -/

namespace Sys2Proof.Machine

/-- The record of a number; `none` is a free number. -/
def Tbl.look {α : Type} : Tbl α → Nat → Option α
  | [], _ => none
  | (j, a) :: t, k => if j = k then some a else Tbl.look t k

/-- Write the record of a number, in the place of the number. -/
def Tbl.put {α : Type} : Tbl α → Nat → α → Tbl α
  | [], k, a => [(k, a)]
  | (j, b) :: t, k, a =>
    if k < j then (k, a) :: (j, b) :: t
    else if k = j then (k, a) :: t
    else (j, b) :: Tbl.put t k a

/-- Free a number. -/
def Tbl.del {α : Type} : Tbl α → Nat → Tbl α
  | [], _ => []
  | (j, b) :: t, k => if j = k then Tbl.del t k else (j, b) :: Tbl.del t k

/-- Whether a number is free. -/
def Tbl.free {α : Type} (t : Tbl α) (k : Nat) : Bool := (Tbl.look t k).isNone

/-- Change every record, numbers unchanged. -/
def Tbl.mapAll {α : Type} (f : α → α) (t : Tbl α) : Tbl α := t.map fun p => (p.1, f p.2)

/-- Keep the records a test holds of. -/
def Tbl.keep {α : Type} (f : α → Bool) (t : Tbl α) : Tbl α := t.filter fun p => f p.2

/-- How many records a test holds of. -/
def Tbl.count {α : Type} (f : α → Bool) (t : Tbl α) : Nat := t.countP fun p => f p.2

/-- Every number of the table is at least `k`. -/
def Tbl.above {α : Type} (k : Nat) : Tbl α → Bool
  | [] => true
  | (j, _) :: t => decide (k ≤ j) && Tbl.above k t

/-- The canonical form: numbers strictly rising. -/
def Tbl.wf {α : Type} : Tbl α → Bool
  | [] => true
  | (j, _) :: t => Tbl.above (j + 1) t && Tbl.wf t

/-- Every number of the table is below a bound. -/
def Tbl.below {α : Type} (n : Nat) : Tbl α → Bool
  | [] => true
  | (j, _) :: t => decide (j < n) && Tbl.below n t

/-- The lowest `need` free numbers from `k` on, looking at `fuel` numbers (R28). -/
def Tbl.lowestFree {α : Type} (t : Tbl α) : Nat → Nat → Nat → List Nat
  | 0, _, _ => []
  | _ + 1, _, 0 => []
  | fuel + 1, k, need + 1 =>
    if Tbl.free t k then k :: Tbl.lowestFree t fuel (k + 1) need
    else Tbl.lowestFree t fuel (k + 1) (need + 1)

/-- Write several records. -/
def Tbl.putAll {α : Type} : Tbl α → List (Nat × α) → Tbl α
  | t, [] => t
  | t, (k, a) :: l => Tbl.putAll (Tbl.put t k a) l

end Sys2Proof.Machine
end

