-- ==== Sys2Proof/Machine/Frames.lean ====
section
/-! DEFINITION. Octet layouts of chapter 1: FCS, the field walk of R2, pair tags, pause, presence,
management and notice frames, and the codes of 1.7. -/

namespace Sys2Proof.Machine

/-! ### Codes -/

/-- The other uplink, and the other path. -/
def other : Uplink → Uplink
  | .u1 => .u2
  | .u2 => .u1

/-- The path number of an uplink (R3). -/
def pathNumber : Uplink → Nat
  | .u1 => 1
  | .u2 => 2

/-- The uplink of a path number. -/
def uplinkOf : Nat → Option Uplink
  | 1 => some .u1
  | 2 => some .u2
  | _ => none

/-- The port of an uplink. -/
def uplinkPort : Uplink → Port
  | .u1 => .u1
  | .u2 => .u2

/-- Port numbers of fault records and events: 1 U1, 2 U2, 3 B (R160). -/
def portNumber : Port → Nat
  | .u1 => 1
  | .u2 => 2
  | .b  => 3

/-- The number of a class (01 1.2). -/
def classCode : TClass → Nat
  | .general  => 0
  | .stream   => 1
  | .timing   => 2
  | .event    => 3
  | .presence => 4

/-- The class of a number; 5, 6 and 7 are no class (R4). -/
def classOf : Nat → Option TClass
  | 0 => some .general
  | 1 => some .stream
  | 2 => some .timing
  | 3 => some .event
  | 4 => some .presence
  | _ => none

/-- Event kind codes (01 1.7). -/
def eventCode : EventKind → Octet
  | .pathLost       => 0x01
  | .pathRestored   => 0x02
  | .skewHigh       => 0x03
  | .skewNormal     => 0x04
  | .networkSuspect => 0x05
  | .networkClear   => 0x06
  | .sourceSilent   => 0x07
  | .networksJoined => 0x08
  | .loop           => 0x09
  | .linkDown       => 0x0A
  | .linkUp         => 0x0B
  | .fault          => 0x0C
  | .selfReset      => 0x0D
  | .slotApplied    => 0x0E
  | .ready          => 0x0F

/-- Fault kind codes (01 1.7). -/
def faultCode : FaultKind → Nat
  | .entryCheck  => 1
  | .originCheck => 2
  | .blockCheck  => 3
  | .handleCheck => 4
  | .imageCheck  => 5

/-- Part state codes (R8, object 0x0001). -/
def partCode : PartState → Nat
  | .loading => 0
  | .quiet   => 1
  | .run     => 2

/-- Image status codes (R13, object 0x0001). -/
def imageCode : ImageStatus → Nat
  | .applied => 0
  | .absent  => 1
  | .bad     => 2

/-! ### Octets -/

/-- A number as `n` octets, most significant first (00 Conventions). -/
def beOctets : Nat → Nat → List Octet
  | 0, _ => []
  | n + 1, x => BitVec.ofNat 8 (x >>> (8 * n)) :: beOctets n x

/-- The number that octets spell, most significant first. -/
def beNat : List Octet → Nat → Nat
  | [], a => a
  | o :: t, a => beNat t (a * 256 + o.toNat)

/-- The octets of a frame from `i` on, `n` of them. -/
def slice (f : List Octet) (i n : Nat) : List Octet := (f.drop i).take n

/-- The two octets at a position. -/
def u16At (f : List Octet) (i : Nat) : BitVec 16 := BitVec.ofNat 16 (beNat (slice f i 2) 0)

/-- The address at a position. -/
def addrAt (f : List Octet) (i : Nat) : Address := BitVec.ofNat 48 (beNat (slice f i 6) 0)

/-- The octet at a position. -/
def octetAt (f : List Octet) (i : Nat) : Octet := f.getD i 0

/-- The octets of an address, first octet first. -/
def addrOctets (a : Address) : List Octet := beOctets 6 a.toNat

/-- Multicast: bit 0 of the first octet is 1 (R2). -/
def isMulticast (a : Address) : Bool := a.getLsbD 40

/-! ### FCS (chapter 1, opening) -/

/-- One bit through the cyclic check with generator 0x04C11DB7. -/
def fcsBit (c : BitVec 32) (b : Bool) : BitVec 32 :=
  if c.msb != b then (c <<< 1) ^^^ 0x04C11DB7#32 else c <<< 1

/-- One octet, least-significant bit first. -/
def fcsOctet (c : BitVec 32) (o : Octet) : BitVec 32 :=
  [0, 1, 2, 3, 4, 5, 6, 7].foldl (fun c i => fcsBit c (o.getLsbD i)) c

/-- All octets. The match on the register's number only makes Lean's kernel evaluate it octet by octet;
both cases hand on the same register. -/
def fcsRun : List Octet → BitVec 32 → BitVec 32
  | [], c => c
  | o :: t, c =>
    match (fcsOctet c o).toNat with
    | 0 => fcsRun t 0#32
    | n + 1 => fcsRun t (BitVec.ofNat 32 (n + 1))

/-- The FCS register over octets: preset to all ones, the result complemented. -/
def fcsOf (f : List Octet) : BitVec 32 := ~~~ (fcsRun f (BitVec.allOnes 32))

/-- The four FCS octets: bits 31..24 first, bit 31 in bit 0 of its octet. -/
def fcsOctets (c : BitVec 32) : List Octet :=
  [(c.extractLsb' 24 8).reverse, (c.extractLsb' 16 8).reverse, (c.extractLsb' 8 8).reverse,
    (c.extractLsb' 0 8).reverse]

/-- Octets with their FCS behind them. -/
def withFcs (f : List Octet) : List Octet := f ++ fcsOctets (fcsOf f)

/-- Octets with the complement of their FCS behind them (R5). -/
def withBadFcs (f : List Octet) : List Octet := f ++ fcsOctets (~~~ (fcsOf f))

/-- A frame less its four FCS octets. -/
def lessFcs (f : List Octet) : List Octet := f.take (f.length - 4)

/-- Whether a frame's FCS matches. A frame of fewer than four octets has none that could (log 26). -/
def fcsGood (f : List Octet) : Bool := decide (4 ≤ f.length) && f == withFcs (lessFcs f)

/-- Octets with zeros behind them up to a length. -/
def padTo (n : Nat) (f : List Octet) : List Octet := f ++ List.replicate (n - f.length) 0

/-- A frame built in the part: padded so that with its FCS it has at least `n` octets (R6). -/
def sealFrame (n : Nat) (body : List Octet) : List Octet := withFcs (padTo (n - 4) body)

/-! ### Walking a frame (R2) -/

/-- What the walk of R2 finds: whether a pair tag stands at octet 12, the priority, and the type
position. -/
structure Walk where
  tagged   : Bool
  priority : Nat
  typePos  : Nat
  deriving DecidableEq, Repr

/-- Steps 2 and 3 of R2, from a position on. -/
def walkFrom (f : List Octet) (tagged : Bool) (i : Nat) : Walk :=
  if u16At f i = 0x8100 then
    { tagged := tagged, priority := (octetAt f (i + 2) >>> 5).toNat, typePos := i + 4 }
  else { tagged := tagged, priority := 0, typePos := i }

/-- The walk over an uplink frame (R2). -/
def walkUplink (marker : BitVec 16) (f : List Octet) : Walk :=
  if u16At f 12 = marker then walkFrom f true 18 else walkFrom f false 12

/-- The walk over a bay frame that is not bay-tagged (R2). -/
def walkBay (f : List Octet) : Walk := walkFrom f false 12

/-- The Type of a frame (R2). -/
def Walk.type (w : Walk) (f : List Octet) : BitVec 16 := u16At f w.typePos

/-- The body: the octets after the type position, FCS not included. -/
def Walk.body (w : Walk) (f : List Octet) : List Octet := (lessFcs f).drop (w.typePos + 2)

def destOf (f : List Octet) : Address := addrAt f 0
def sourceOf (f : List Octet) : Address := addrAt f 6

/-- A pause frame: Type 0x8808, opcode 0x0001, destination 01-80-C2-00-00-01 (R7). -/
def isPause (w : Walk) (f : List Octet) : Bool :=
  w.type f == 0x8808 && u16At f (w.typePos + 2) == 0x0001 && destOf f == 0x0180C2000001

/-- The quanta value of a pause frame (01 1.3). -/
def pauseQuanta (w : Walk) (f : List Octet) : BitVec 16 := u16At f (w.typePos + 4)

/-! ### The pair tag (R3, R4, R5) -/

/-- The tag of a tagged uplink frame, as it stands. -/
structure RawTag where
  seq      : BitVec 16
  path     : Nat
  epoch    : BitVec 3
  cls      : Nat
  interval : BitVec 8
  deriving DecidableEq, Repr

/-- The tag at octets 12..17 (01 1.2). -/
def readTag (f : List Octet) : RawTag :=
  { seq := u16At f 14
    path := ((octetAt f 16).extractLsb' 6 2).toNat
    epoch := (octetAt f 16).extractLsb' 3 3
    cls := ((octetAt f 16).extractLsb' 0 3).toNat
    interval := octetAt f 17 }

/-- A received tag that is valid in form: path and class named. -/
structure Tag where
  seq      : BitVec 16
  path     : Uplink
  epoch    : BitVec 3
  cls      : TClass
  interval : BitVec 8
  deriving DecidableEq, Repr

/-- A tag without a tag error (R4): Path 1 or 2, Class 0..4, and Class 4 only before the Presence
Marker. -/
def RawTag.valid (t : RawTag) (typeValue presenceMarker : BitVec 16) : Option Tag :=
  match uplinkOf t.path, classOf t.cls with
  | some p, some c =>
    if c = .presence ∧ typeValue ≠ presenceMarker then none
    else some { seq := t.seq, path := p, epoch := t.epoch, cls := c, interval := t.interval }
  | _, _ => none

/-- The six octets of a composed tag (R5). -/
def tagOctets (marker : BitVec 16) (t : TagFields) (seqOffset : Bool) (u : Uplink) : List Octet :=
  beOctets 2 marker.toNat ++
  beOctets 2 (t.seq + (if seqOffset then 1 else 0)).toNat ++
  [BitVec.ofNat 8 (pathNumber u * 64 + t.epoch.toNat * 8 + classCode t.cls), t.interval]

/-- The octets an uplink sends for a stored frame (R5, R148): with tag fields, the tag is inserted at
octet 12 and the FCS computed afresh, or complemented; without, the frame is sent as stored. -/
def uplinkOctets (marker : BitVec 16) (u : Uplink) (stored : List Octet) (tag : Option TagFields)
    (seqOffset fcsCorrupt : Bool) : List Octet :=
  match tag with
  | none => stored
  | some t =>
    let body := stored.take 12 ++ tagOctets marker t seqOffset u ++ (lessFcs stored).drop 12
    if fcsCorrupt then withBadFcs body else withFcs body

/-- The octets B sends for a stored frame (R6, R154): a stored tag is removed, the frame padded to 64
octets and its FCS computed afresh. -/
def bayOctets (stored : List Octet) (tagged : Bool) : List Octet :=
  if tagged then sealFrame 64 (stored.take 12 ++ (lessFcs stored).drop 18) else stored

/-- The octets of a cut-off transmission: the octets sent and the complement of their FCS (R5). -/
def abortedOctets (f : List Octet) (n : Nat) : List Octet := withBadFcs (f.take n)

/-! ### Pause and presence frames -/

/-- The pause frame the part emits (R7). -/
def pauseFrame (station : Address) (quanta : BitVec 16) : List Octet :=
  sealFrame 64 (beOctets 6 0x0180C2000001 ++ addrOctets station ++ beOctets 2 0x8808 ++
    beOctets 2 1 ++ beOctets 2 quanta.toNat)

/-- A presence frame as it is stored, without its tag (R8): 58 octets. -/
def presenceFrame (group station : Address) (marker : BitVec 16) (status : BitVec 64) : List Octet :=
  sealFrame 58 (addrOctets group ++ addrOctets station ++ beOctets 2 marker.toNat ++
    addrOctets station ++ beOctets 8 status.toNat ++ beOctets 8 status.toNat ++
    beOctets 8 status.toNat)

/-- Identity of a presence body (R9). -/
def presenceIdentity (w : Walk) (f : List Octet) : Address := addrAt f (w.typePos + 2)

/-- Status Copy k (0, 1, 2) of a presence body (R9). -/
def statusCopy (w : Walk) (f : List Octet) (k : Nat) : BitVec 64 :=
  BitVec.ofNat 64 (beNat (slice f (w.typePos + 8 + 8 * k) 8) 0)

/-- The copy that equals at least one other (R9, R104). -/
def majority (a b c : BitVec 64) : Option (BitVec 64) :=
  if a = b ∨ a = c then some a else if b = c then some b else none

/-! ### Management requests, replies and notices -/

/-- Status codes (01 1.7). -/
inductive Status where
  | ok | okClamped | badRequest | badObject | outOfRange | denied | notNow | tableFull | notFound
  deriving DecidableEq, Repr

def Status.code : Status → Octet
  | .ok         => 0x00
  | .okClamped  => 0x01
  | .badRequest => 0x02
  | .badObject  => 0x03
  | .outOfRange => 0x04
  | .denied     => 0x05
  | .notNow     => 0x06
  | .tableFull  => 0x07
  | .notFound   => 0x08

/-- The request kinds (01 1.7). -/
inductive ReqKind where
  | read | write | entryRead | entryPin | entryUnpin | entryRemove | originRead | originPin
  | originRemove | slotStage | slotApply | inject | faultAck | clearCounters | flushTable | reload
  | reset
  deriving DecidableEq, Repr

/-- Request codes (01 1.7). -/
def ReqKind.code : ReqKind → Octet
  | .read          => 0x01
  | .write         => 0x02
  | .entryRead     => 0x03
  | .entryPin      => 0x04
  | .entryUnpin    => 0x05
  | .entryRemove   => 0x06
  | .originRead    => 0x07
  | .originPin     => 0x08
  | .originRemove  => 0x09
  | .slotStage     => 0x0A
  | .slotApply     => 0x0B
  | .inject        => 0x0C
  | .faultAck      => 0x0D
  | .clearCounters => 0x0E
  | .flushTable    => 0x0F
  | .reload        => 0x10
  | .reset         => 0x11

/-- The kind of a request code; the others are not in the table of 1.7. -/
def ReqKind.ofCode (c : Octet) : Option ReqKind :=
  [ReqKind.read, .write, .entryRead, .entryPin, .entryUnpin, .entryRemove, .originRead, .originPin,
    .originRemove, .slotStage, .slotApply, .inject, .faultAck, .clearCounters, .flushTable, .reload,
    .reset].find? fun k => k.code == c

/-- The complete 4-octet Values at the front of octets. -/
def valuesOf : List Octet → List Value
  | a :: b :: c :: d :: t => BitVec.ofNat 32 (beNat [a, b, c, d] 0) :: valuesOf t
  | _ => []

/-- The Code of a request body. -/
def bodyCode (body : List Octet) : Octet := octetAt body 0

/-- The request a body spells (01 1.5). -/
def readRequest (port : Port) (source : Address) (body : List Octet) : Request :=
  { port := port
    source := source
    flags := octetAt body 1
    token := u16At body 2
    object := u16At body 4
    index := u16At body 6
    count := octetAt body 8
    values := valuesOf (body.drop 9) }

/-- A reply's octets, padded to a stored length of at least `n` (R10, R11). -/
def replyFrame (n : Nat) (dest station : Address) (marker : BitVec 16) (code : Octet)
    (status : Status) (token object index : BitVec 16) (values : List Value) : List Octet :=
  sealFrame n (addrOctets dest ++ addrOctets station ++ beOctets 2 marker.toNat ++
    [code + 0x80, status.code] ++ beOctets 2 token.toNat ++ beOctets 2 object.toNat ++
    beOctets 2 index.toNat ++ [BitVec.ofNat 8 values.length] ++
    values.flatMap fun v => beOctets 4 v.toNat)

/-- The 16 octets of an event record (01 1.6). -/
def eventOctets (e : EventRecord) : List Octet :=
  [eventCode e.kind, e.whr, e.cls] ++ beOctets 3 e.detail.toNat ++ addrOctets e.addr ++
    beOctets 4 e.time.toNat

/-- A notice frame (R12): 64 octets or more. -/
def noticeFrame (dest station : Address) (marker : BitVec 16) (dropped : BitVec 8)
    (records : List EventRecord) : List Octet :=
  sealFrame 64 (addrOctets dest ++ addrOctets station ++ beOctets 2 marker.toNat ++
    [0xC0, dropped, BitVec.ofNat 8 records.length] ++ records.flatMap eventOctets)

end Sys2Proof.Machine
end

