-- ==== Sys2Proof/Machine/Ops.lean ====
section
/-! DEFINITION. Named operations over the state that every block shares: one update per part of the
state, ages and saturating counts, raising an event, sending a fault report, and the Frame Store
(admission, references, quarantine) with the pause emission it drives. -/

namespace Sys2Proof.Machine

/-! ### Updates of one part of the state -/

def State.onLoader (s : State) (f : Loader → Loader) : State := { s with loader := f s.loader }
def State.onSettings (s : State) (f : Settings → Settings) : State := { s with settings := f s.settings }
def State.onStore (s : State) (f : FrameStore → FrameStore) : State := { s with store := f s.store }
def State.onPause (s : State) (f : PauseEmission → PauseEmission) : State := { s with pause := f s.pause }
def State.onFilter (s : State) (f : Filter → Filter) : State := { s with filter := f s.filter }
def State.onPresence (s : State) (f : PresenceUnit → PresenceUnit) : State :=
  { s with presence := f s.presence }
def State.onPairing (s : State) (f : Pairing → Pairing) : State := { s with pairing := f s.pairing }
def State.onBay (s : State) (f : BayEgress → BayEgress) : State := { s with bay := f s.bay }
def State.onFaults (s : State) (f : FaultUnit → FaultUnit) : State := { s with faults := f s.faults }
def State.onNotices (s : State) (f : Notices → Notices) : State := { s with notices := f s.notices }

/-- The counters of a port. -/
def State.port (s : State) : Port → PortCounters
  | .u1 => s.portU1
  | .u2 => s.portU2
  | .b  => s.portB

def State.onPort (s : State) (p : Port) (f : PortCounters → PortCounters) : State :=
  match p with
  | .u1 => { s with portU1 := f s.portU1 }
  | .u2 => { s with portU2 := f s.portU2 }
  | .b  => { s with portB := f s.portB }

/-- The egress of an uplink. -/
def State.uplink (s : State) : Uplink → UplinkEgress
  | .u1 => s.u1
  | .u2 => s.u2

def State.onUplink (s : State) (u : Uplink) (f : UplinkEgress → UplinkEgress) : State :=
  match u with
  | .u1 => { s with u1 := f s.u1 }
  | .u2 => { s with u2 := f s.u2 }

/-- The value of one class. -/
def PerClass.get {α : Type} (p : PerClass α) : TClass → α
  | .general  => p.general
  | .stream   => p.stream
  | .timing   => p.timing
  | .event    => p.event
  | .presence => p.presence

def PerClass.set {α : Type} (p : PerClass α) (c : TClass) (a : α) : PerClass α :=
  match c with
  | .general  => { p with general := a }
  | .stream   => { p with stream := a }
  | .timing   => { p with timing := a }
  | .event    => { p with event := a }
  | .presence => { p with presence := a }

/-- The Declared Interval of a stamped frame (R121): the setting of its class, or the Presence Interval
for a presence frame. -/
def Settings.intervalOf (st : Settings) : TClass → Nat
  | .general  => st.declaredInterval.general
  | .stream   => st.declaredInterval.stream
  | .timing   => st.declaredInterval.timing
  | .event    => st.declaredInterval.event
  | .presence => st.presenceInterval

/-! ### Time and saturating counts -/

/-- Elapsed time since a stored time, in µs: (now − then) mod 2^32 (00 Conventions). -/
def age (now t : Time) : Nat := (now - t).toNat

/-- A saturating counter's increment (00 Conventions). -/
def satInc {w : Nat} (x : BitVec w) : BitVec w := if x = BitVec.allOnes w then x else x + 1

/-- The part forwards, screens and serves: it is out of chip reset and in QUIET or RUN (R190). -/
def State.serving (s : State) : Bool := s.resetN && decide (s.loader.part ≠ .loading)

/-- The age bound of the time hold (R61). -/
def holdAge : Nat := 1000000000

/-- A stored time after the time hold (R61). -/
def holdTime (now t : Time) : Time := if age now t ≥ holdAge then now - BitVec.ofNat 32 holdAge else t

/-! ### Events and fault reports -/

/-- The Class octet of an event record: 0xFF when absent (R13). -/
def classOctet : Option TClass → Octet
  | none   => 0xFF
  | some c => BitVec.ofNat 8 (classCode c)

/-- An event record meets the Notice Queue (R182). -/
def Notices.add (n : Notices) (e : EventRecord) : Notices :=
  if n.records.length < 32 then
    { n with records := n.records ++ [e], eventsQueued := n.eventsQueued + 1 }
  else { n with dropped := satInc n.dropped, eventsLost := n.eventsLost + 1 }

/-- Raise an event, its fields filled as R13 gives, its Time the Station Time of its raising (R182). -/
def raise (k : EventKind) (whr : Nat) (cls : Option TClass) (detail : Nat) (addr : Address)
    (s : State) : State :=
  s.onNotices fun n => n.add
    { kind := k, whr := BitVec.ofNat 8 whr, cls := classOctet cls, detail := BitVec.ofNat 24 detail,
      addr := addr, time := s.stationTime }

/-- A block sends a fault report; the Fault Unit takes it later (R160, log 5). -/
def report (kind : FaultKind) (location : Nat) (port : Option Port) (cls : Option TClass)
    (s : State) : State :=
  { s with reports := s.reports ++ [{ kind := kind, location := location, port := port, cls := cls }] }

/-! ### The B transmitter and pause emission (02 2.5) -/

/-- The time of one octet at a port speed, in ns: 8 bit times (R148). -/
def octetTime (fast : Bool) : Nat := if fast then 8 else 80

/-- A frame put on the wire at a speed (R148). -/
def putOnWire (fast : Bool) (octets : List Octet) : OnWire :=
  { octets := octets, octetNs := octetTime fast, left := octets.length * octetTime fast }

/-- The time the refresh timer runs, in µs (R34). -/
def refreshTime (s : State) : Nat := if s.loader.straps.bay1000 then 16777 else 167770

/-- A pending pause frame is started when the B transmitter is free (R7, R156, log 13). -/
def startPause (s : State) : State :=
  match s.pause.pending, s.bay.tx with
  | some q, none =>
    ((s.onPause fun p => { p with pending := none }).onBay fun b =>
        { b with tx := some (.pause q
          (putOnWire s.loader.straps.bay1000 (pauseFrame s.loader.stationAddress q))) }).onPort .b
      fun c => { c with pausesSent := c.pausesSent + 1 }
  | _, _ => s

/-- A pause becomes pending, in the place of one not yet started (R33). -/
def makePausePending (quanta : BitVec 16) (s : State) : State :=
  startPause (s.onPause fun p => { p with pending := some quanta })

/-- The stop pause of R33: pending, Pause Asserted set, the refresh timer started. -/
def assertPause (s : State) : State :=
  makePausePending 65535
    (s.onPause fun p => { p with asserted := true, refresh := some (refreshTime s) })

/-- The release pause of R33 and R34: pending, Pause Asserted cleared, the refresh timer stopped. -/
def releasePause (s : State) : State :=
  makePausePending 0 (s.onPause fun p => { p with asserted := false, refresh := none })

/-! ### Frame Store (02 2.4) -/

def totalBlocks : Nat := 2048
def totalHandles : Nat := 1024

/-- Free Blocks (R28). -/
def freeBlocks (s : State) : Nat := totalBlocks - s.store.blocks.length

/-- Free Handles (R28). -/
def freeHandles (s : State) : Nat := totalHandles - s.store.handles.length

/-- Quarantined Handles (R28). -/
def quarantinedHandles (s : State) : Nat := Tbl.count (fun h => h.quarantined) s.store.handles

/-- Quarantined Blocks (R28). -/
def quarantinedBlocks (s : State) : Nat := Tbl.count (fun b => b.owner == .quarantined) s.store.blocks

/-- Blocks held by live handles (R28). -/
def heldBlocks (s : State) : Nat := Tbl.count (fun b => b.owner != .quarantined) s.store.blocks

/-- The test the B Intake makes each time the free-block count changes (R33). -/
def pauseTest (s : State) : State :=
  if s.settings.bayPause = true then
    if s.pause.asserted = false ∧ freeBlocks s < s.settings.pauseOn then assertPause s
    else if s.pause.asserted = true ∧ s.settings.pauseOff ≤ freeBlocks s then releasePause s
    else s
  else s

/-- The handle of a number that is not free. -/
def handleOf (s : State) (h : Nat) : Option Handle := Tbl.look s.store.handles h

/-- Whether a number names a quarantined handle (R37). -/
def isQuarantined (s : State) (h : Nat) : Bool :=
  match handleOf s h with
  | some r => r.quarantined
  | none   => false

/-- Change a handle's fields; the check is written with them (2.6, log 6). -/
def writeHandle (h : Nat) (f : Handle → Handle) (s : State) : State :=
  match handleOf s h with
  | some r => s.onStore fun st => { st with handles := Tbl.put st.handles h { f r with check := 0 } }
  | none   => s

/-- Blocks a frame of a stored length takes (R1). -/
def blocksNeeded (length : Nat) : Nat := (length + 127) / 128

/-- The frame of a handle as it is stored: its blocks' octets in list order (R28). -/
def storedFrame (s : State) (r : Handle) : List Octet :=
  r.blocks.flatMap fun b =>
    match Tbl.look s.store.blocks b with
    | some k => k.data
    | none   => []

/-- The blocks a new frame is written into, codes written with them (R28, 2.6). -/
def newBlocks (h : Nat) (frame : List Octet) (numbers : List Nat) : List (Nat × Block) :=
  numbers.zipIdx.map fun p =>
    (p.1, { owner := .held h, data := slice frame (128 * p.2) 128, check := 0 })

/-- The lowest-numbered free handle (R28). -/
def lowestHandle (s : State) : Nat := (Tbl.lowestFree s.store.handles totalHandles 0 1).headD 0

/-- The lowest-numbered free blocks, in ascending order (R28). -/
def lowestBlocks (s : State) (need : Nat) : List Nat :=
  Tbl.lowestFree s.store.blocks totalBlocks 0 need

/-- Storage taken for a frame (R28, R29): the lowest free handle and blocks; the reference count is set
by the block that places it (R32). -/
def storeFrame (frame : List Octet) (cls : TClass) (tag : Option TagFields) (s : State) : State :=
  pauseTest (s.onStore fun st =>
    { st with
      blocks := Tbl.putAll st.blocks (newBlocks (lowestHandle s) frame
        (lowestBlocks s (blocksNeeded frame.length)))
      handles := Tbl.put st.handles (lowestHandle s)
        { length := frame.length, cls := cls, arrival := s.stationTime,
          blocks := lowestBlocks s (blocksNeeded frame.length), refs := 0, tag := tag,
          quarantined := false, check := 0 } })

/-- Admission (R30): after its blocks and one handle are taken, both floors hold. -/
def admits (s : State) (length blockFloor handleFloor : Nat) : Bool :=
  decide (blocksNeeded length + blockFloor ≤ freeBlocks s) &&
  decide (1 + handleFloor ≤ freeHandles s)

/-- A frame offered for storage: its handle and the state with it stored, or refused (R30). -/
def offerStorage (frame : List Octet) (cls : TClass) (tag : Option TagFields) (blockFloor handleFloor : Nat)
    (s : State) : Option (Nat × State) :=
  if admits s frame.length blockFloor handleFloor then
    some (lowestHandle s, storeFrame frame cls tag s)
  else none

/-- The block floor of an admission class (R30). -/
def blockFloor (st : Settings) : TClass → Nat
  | .general => st.generalFloor
  | .stream  => st.streamFloor
  | _        => 0

/-- The handle floor of an admission class (R30). -/
def handleFloor (st : Settings) : TClass → Nat
  | .general => st.generalHandleFloor
  | _        => 0

/-- A received frame offered for storage under the floors of its class (R24, R25, R26). -/
def admitReceived (frame : List Octet) (cls : TClass) (tag : Option TagFields) (s : State) :
    Option (Nat × State) :=
  offerStorage frame cls tag (blockFloor s.settings cls) (handleFloor s.settings cls) s

/-- A frame built in the part offered for storage with floor 0; a refusal counts under Internal Drops
(R31). -/
def admitBuilt (frame : List Octet) (cls : TClass) (s : State) : Option Nat × State :=
  match offerStorage frame cls none 0 0 s with
  | some (h, s') => (some h, s')
  | none => (none, s.onStore fun st => { st with internalDrops := st.internalDrops + 1 })

/-- A handle and every block the Frame Store records as held by it become free (R28), and the changed count of
free blocks is tested (R33). A port reset keeps nothing of what that test does (R34, R193, `portReset`). -/
def freeHandle (h : Nat) (s : State) : State :=
  pauseTest (s.onStore fun st =>
    { st with
      blocks := Tbl.keep (fun b => b.owner != .held h) st.blocks
      handles := Tbl.del st.handles h })

/-- A handle whose check failed leaves the live state with its blocks, and HANDLE-CHECK is reported
(R36). The free-block count is unchanged (R33). -/
def quarantineHandle (port : Option Port) (h : Nat) (s : State) : State :=
  report .handleCheck h port none (s.onStore fun st =>
    { st with
      blocks := Tbl.mapAll
        (fun b => if b.owner = .held h then { b with owner := .quarantined } else b) st.blocks
      handles :=
        match Tbl.look st.handles h with
        | some r => Tbl.put st.handles h { r with quarantined := true }
        | none   => st.handles })

/-- Release one reference (R32, R36, R37): a quarantined handle's release does nothing; a check that
does not match quarantines the handle; a count that reaches 0 frees it. A number that is free is
named by no entry (R32, log 25). -/
def release (port : Option Port) (h : Nat) (s : State) : State :=
  match handleOf s h with
  | none => s
  | some r =>
    if r.quarantined = true then s
    else if r.check ≠ 0 then quarantineHandle port h s
    else if r.refs ≤ 1 then freeHandle h s
    else writeHandle h (fun r => { r with refs := r.refs - 1 }) s

/-- The placing block sets the reference count (R32). -/
def setRefs (h n : Nat) (s : State) : State := writeHandle h (fun r => { r with refs := n }) s

/-- The first block of a list whose code does not match (R35). -/
def firstBadBlock (s : State) (bs : List Nat) : Option Nat :=
  bs.find? fun b =>
    match Tbl.look s.store.blocks b with
    | some k => k.check != 0
    | none   => false

/-- A queue entry naming a quarantined handle is dropped (R37). -/
def countQuarantineDrop (s : State) : State :=
  s.onStore fun st => { st with quarantineDrops := st.quarantineDrops + 1 }

/-- Octets of a transmission that have gone out (R5): by the time it has run, and the free part of the
current microsecond (log 10). -/
def octetsOut (w : OnWire) (freeUses : Nat) : Nat :=
  min w.octets.length
    ((w.octets.length * w.octetNs - w.left + Config.subMicrosecond freeUses % 1000) / w.octetNs)

/-- One use of a free value (log 10). -/
def State.useFree (s : State) : State := { s with freeUses := s.freeUses + 1 }

end Sys2Proof.Machine
end

