-- ==== Sys2Proof/Machine/Flags.lean ====
section
/-! DEFINITION. Flag computations: the Network Suspect flags (R97), the Skew Alarm (R85), path failure
(R93), health (R95), and the status copy of a presence frame (R8). -/

namespace Sys2Proof.Machine

/-! ### Suspicion of a network (R96, R97) -/

/-- The count that judges a network: the entries whose path to it is LOST. Single-1 Count judges
Network 2 and Single-2 Count Network 1 (R97). -/
def Filter.lostCount (f : Filter) : Uplink → Nat
  | .u1 => f.single2
  | .u2 => f.single1

def Filter.setLostCount (f : Filter) (n : Uplink) (v : Nat) : Filter :=
  match n with
  | .u1 => { f with single2 := v }
  | .u2 => { f with single1 := v }

/-- Network n Suspect (R97). -/
def Filter.suspect (f : Filter) : Uplink → Bool
  | .u1 => f.suspect1
  | .u2 => f.suspect2

def Filter.setSuspect (f : Filter) (n : Uplink) (v : Bool) : Filter :=
  match n with
  | .u1 => { f with suspect1 := v }
  | .u2 => { f with suspect2 := v }

/-- The clear level of a Suspect Threshold (R97). -/
def clearLevel (threshold : Nat) : Nat := if threshold / 2 = 0 then 1 else threshold / 2

/-- One judgement of a network against its count as it stands (R97). -/
def judgeNetwork (n : Uplink) (s : State) : State :=
  if s.filter.suspect n = false ∧ s.settings.suspectThreshold ≤ s.filter.lostCount n then
    raise .networkSuspect (pathNumber n) none (s.filter.lostCount n) 0
      (s.onFilter fun f => f.setSuspect n true)
  else if s.filter.suspect n = true ∧ s.filter.lostCount n < clearLevel s.settings.suspectThreshold then
    raise .networkClear (pathNumber n) none (s.filter.lostCount n) 0
      (s.onFilter fun f => f.setSuspect n false)
  else s

/-- The count of a path LOST rises by 1 and is judged (R93, R96). -/
def raiseLost (n : Uplink) (s : State) : State :=
  judgeNetwork n (s.onFilter fun f => f.setLostCount n (f.lostCount n + 1))

/-- The count of a path LOST falls by 1 and is judged (R46, R92, R96). -/
def lowerLost (n : Uplink) (s : State) : State :=
  judgeNetwork n (s.onFilter fun f => f.setLostCount n (f.lostCount n - 1))

/-- A count set anew, judged where it changes (R47). -/
def setLost (n : Uplink) (v : Nat) (s : State) : State :=
  if s.filter.lostCount n = v then s
  else judgeNetwork n (s.onFilter fun f => f.setLostCount n v)

/-! ### Entries -/

/-- The path fields of an entry. -/
def Entry.path (e : Entry) : Uplink → PathRecord
  | .u1 => e.path1
  | .u2 => e.path2

def Entry.setPath (e : Entry) (p : Uplink) (r : PathRecord) : Entry :=
  match p with
  | .u1 => { e with path1 := r }
  | .u2 => { e with path2 := r }

/-- Whether a path of an entry is LOST. -/
def Entry.isLost (e : Entry) (p : Uplink) : Bool := (e.path p).state == .lost

/-- Health of an entry (R95), as ENTRY-READ codes it (R176): 0 PENDING, 1 BOTH, 2 SINGLE-1,
3 SINGLE-2. -/
def Entry.health (e : Entry) : Nat :=
  if e.path2.state = .lost then 2
  else if e.path1.state = .lost then 3
  else if e.path1.state = .present ∧ e.path2.state = .present then 1
  else 0

/-- The silence of a path: since its Last Arrival, or since Created while it has none (R93). -/
def Entry.silenceOf (e : Entry) (q : Uplink) (now : Time) : Nat :=
  age now ((e.path q).lastArrival.getD e.created)

/-- Whether path q has failed the entry (R93): (a) the miss run, or (b) the silence of a source that
declares an interval. -/
def Entry.failed (e : Entry) (q : Uplink) (missLimit : Nat) (now : Time) : Bool :=
  decide (missLimit ≤ (e.path q).missRun.toNat) ||
  (decide (0 < e.declaredInterval.toNat) &&
    decide (3 * e.declaredInterval.toNat * 1000 < e.silenceOf q now))

/-! ### Skew (R83 to R85) -/

/-- The raw skew sample held at 32,767 (R83). -/
def clampSkew (raw : Nat) : Nat := if raw > 32767 then 32767 else raw

/-- The signed sample: positive when path 1 delivered first (R83). -/
def signedSkew (raw : Nat) (firstPath : Uplink) : Int :=
  match firstPath with
  | .u1 => (clampSkew raw : Int)
  | .u2 => -(clampSkew raw : Int)

/-- The new Skew Average, in 1/8 µs (R84). Division by 16 rounds toward minus infinity. -/
def nextAverage (avg : Option Int) (sample : Int) : Int :=
  match avg with
  | none   => 8 * sample
  | some a => a + (8 * sample - a) / 16

/-- What the Skew Alarm flag becomes after a sample, and the event it raises, `true` for SKEW-HIGH
(R85). -/
def judgeSkew (alarm : Bool) (avg : Int) (limit : Nat) : Bool × Option Bool :=
  if alarm = false ∧ 0 < limit ∧ 8 * limit < avg.natAbs then (true, some true)
  else if alarm = true ∧ 0 < limit ∧ avg.natAbs ≤ 4 * limit then (false, some false)
  else if alarm = true ∧ limit = 0 then (false, some false)
  else (alarm, none)

/-- Where of a skew event: 1 if the average is positive, 2 if negative, 0 if zero (R13). -/
def skewWhere (avg : Int) : Nat := if 0 < avg then 1 else if avg < 0 then 2 else 0

/-- A signed number as 24-bit two's complement (R13). -/
def detail24 (x : Int) : Nat := (BitVec.ofInt 24 x).toNat

/-! ### The status copy (R8) -/

def boolBit (b : Bool) (k : Nat) : Nat := if b then 2 ^ k else 0

/-- The 8-octet status copy of the part's state at this moment (R8). -/
def statusCopyOf (s : State) : BitVec 64 :=
  BitVec.ofNat 64
    (((((boolBit s.u1.linkUp 7 + boolBit s.u2.linkUp 6 + boolBit s.filter.suspect1 5 +
        boolBit s.filter.suspect2 4 + boolBit s.faults.primary.isSome 3 + 2 * partCode s.loader.part)
      * 2 ^ 16 + s.filter.single1) * 2 ^ 16 + s.filter.single2) * 2 ^ 8 + s.pairing.originInUse) * 2 ^ 16
      + s.filter.entriesInUse)

end Sys2Proof.Machine
end

