-- ==== Sys2Proof/Machine/SourceTable.lean ====
section
/-! DEFINITION. The Source Table (chapter 3): keys and buckets, lookup, creation, replacement, freeing,
check failures, pins, flush, and the Table Scanner's bucket visit. -/

namespace Sys2Proof.Machine

/-! ### Keys (R42) -/

/-- The XOR of the six address octets (R42). -/
def addrXor (a : Address) : Octet := (addrOctets a).foldl (fun x o => x ^^^ o) 0

/-- The bucket of a key (R42). -/
def bucketOf (a : Address) (c : TClass) : Nat := ((addrXor a).toNat + 29 * classCode c) % 128

/-- The four entries of a bucket, in way order (R38). -/
def waysOf (b : Nat) : List Nat := [b * 4, b * 4 + 1, b * 4 + 2, b * 4 + 3]

def entryOf (s : State) (i : Nat) : Option Entry := Tbl.look s.filter.entries i

/-- Write an entry; its Check is rewritten with it (R41, log 6). -/
def putEntry (i : Nat) (e : Entry) (s : State) : State :=
  s.onFilter fun f => { f with entries := Tbl.put f.entries i { e with check := 0 } }

/-- Whether a way holds a key. -/
def holdsKey (s : State) (a : Address) (c : TClass) (i : Nat) : Bool :=
  match entryOf s i with
  | some e => e.addr == a && e.cls == c
  | none   => false

/-- The entry of a key in its bucket, not yet verified (R43). DESIGN CHOICE (log 41): where a damaged entry
breaks the law of R48 by which at most one can match, the match is the one of lowest way. -/
def findKey (s : State) (a : Address) (c : TClass) : Option Nat :=
  (waysOf (bucketOf a c)).find? (holdsKey s a c)

/-! ### Creation and freeing -/

/-- The path fields of a new entry (R39). -/
def PathRecord.new : PathRecord := { state := .unseen, lastArrival := none, missRun := 0, missing := 0 }

/-- The values of an entry that leaves FREE (R39). -/
def newEntry (a : Address) (c : TClass) (st : EntryState) (silence : Option Silence) (now : Time) :
    Entry :=
  { addr := a, cls := c, state := st, window := none, declaredInterval := 0,
    path1 := PathRecord.new, path2 := PathRecord.new, twins := [], skewAverage := none,
    sampleCount := 0, skewAlarm := false, silence := silence, peerStatus := none, accepted := 0,
    repeats := 0, late := 0, stale := 0, resync := 0, samePath := 0, unmatched := 0,
    created := now, lastUse := now, check := 0 }

def Filter.onCounters (f : Filter) (g : FilterCounters → FilterCounters) : Filter :=
  { f with counters := g f.counters }

/-- Create an entry in a FREE way (R44, R50). -/
def createEntry (i : Nat) (a : Address) (c : TClass) (st : EntryState) (silence : Option Silence)
    (s : State) : State :=
  s.onFilter fun f =>
    { f with
      entries := Tbl.put f.entries i (newEntry a c st silence s.stationTime)
      entriesInUse := f.entriesInUse + 1
      pinnedInUse := if st = .pinned then f.pinnedInUse + 1 else f.pinnedInUse
      counters := { f.counters with entriesCreated := f.counters.entriesCreated + 1 } }

/-- Steps 1 of R46: the summary count of each LOST path falls and is judged. -/
def lowerCounts (e : Entry) (s : State) : State :=
  let s := if e.isLost .u2 then lowerLost .u2 s else s
  if e.isLost .u1 then lowerLost .u1 s else s

/-- Step 4 of R46: the entry becomes FREE and the levels follow. -/
def dropEntry (i : Nat) (wasPinned : Bool) (s : State) : State :=
  s.onFilter fun f =>
    { f with
      entries := Tbl.del f.entries i
      entriesInUse := f.entriesInUse - 1
      pinnedInUse := if wasPinned then f.pinnedInUse - 1 else f.pinnedInUse }

/-- Freeing an entry (R46). -/
def freeEntry (i : Nat) (s : State) : State :=
  match entryOf s i with
  | some e => dropEntry i (e.state == .pinned) (lowerCounts e s)
  | none   => s

/-- The non-FREE entries whose path to a network is LOST (R96). -/
def countLost (s : State) (n : Uplink) : Nat := Tbl.count (fun e => e.isLost n) s.filter.entries

/-- The PINNED entries (R38). -/
def countPinned (s : State) : Nat := Tbl.count (fun e => e.state == .pinned) s.filter.entries

/-- Pinned In Use set to the number of PINNED entries (R47). -/
def recountPinned (s : State) : State := s.onFilter fun f => { f with pinnedInUse := countPinned s }

/-- A check failure found on an entry: reported, and the entry freed without reading its State or Path
States (R47). The summary counts are set anew and judged, Network 2's first (log 18). -/
def entryCheckFails (i : Nat) (port : Option Port) (cls : Option TClass) (s : State) : State :=
  let s := recountPinned (dropEntry i false (report .entryCheck i port cls s))
  let s := setLost .u2 (countLost s .u2) s
  setLost .u1 (countLost s .u1) s

/-- A lookup (R43): the verified entry of a key, or a miss. A match that fails verification is freed
and the lookup goes on as a miss (R47). -/
def lookupKey (port : Option Port) (a : Address) (c : TClass) (s : State) : Option Nat × State :=
  match findKey s a c with
  | none => (none, s)
  | some i =>
    match entryOf s i with
    | none => (none, s)
    | some e => if e.check = 0 then (some i, s) else (none, entryCheckFails i port (some c) s)

/-! ### Replacement (R45) -/

/-- The better of two candidates for replacement: the older, the earlier way where ages tie. -/
def olderWay (s : State) (best : Option (Nat × Nat)) (i : Nat) : Option (Nat × Nat) :=
  match entryOf s i with
  | none => best
  | some e =>
    if e.state = .active then
      match best with
      | none => some (i, age s.stationTime e.lastUse)
      | some (j, a) =>
        if a < age s.stationTime e.lastUse then some (i, age s.stationTime e.lastUse) else some (j, a)
    else best

/-- The way of a full bucket that is replaced (R45). A bucket of four PINNED entries is excluded by
R48; its first way stands in (log 25). -/
def victimWay (s : State) (b : Nat) : Nat :=
  match (waysOf b).foldl (olderWay s) none with
  | some (i, _) => i
  | none => b * 4

/-- Replacing an entry (R45): verified first, then freed, Replaced counting the one that passes. -/
def replaceEntry (port : Option Port) (i : Nat) (s : State) : State :=
  match entryOf s i with
  | none => s
  | some e =>
    if e.check = 0 then
      (freeEntry i s).onFilter fun f => f.onCounters fun c => { c with replaced := c.replaced + 1 }
    else entryCheckFails i port none s

/-- A way of a bucket made FREE for a new entry: the lowest FREE way, or the one replaced (R44, R45,
R50). -/
def takeWay (port : Option Port) (b : Nat) (s : State) : Nat × State :=
  match (waysOf b).find? (Tbl.free s.filter.entries) with
  | some i => (i, s)
  | none => (victimWay s b, replaceEntry port (victimWay s b) s)

/-- The entry an arrival is handled in: found, or created ACTIVE (R43 to R45). -/
def entryForArrival (port : Port) (a : Address) (c : TClass) (s : State) : Nat × State :=
  match lookupKey (some port) a c s with
  | (some i, s') => (i, s')
  | (none, s') =>
    match takeWay (some port) (bucketOf a c) s' with
    | (i, s'') => (i, createEntry i a c .active none s'')

/-! ### Pins (R48 to R50) -/

/-- How many PINNED entries a bucket holds (R48). -/
def pinnedInBucket (s : State) (b : Nat) : Nat :=
  (waysOf b).countP fun i =>
    match entryOf s i with
    | some e => e.state == .pinned
    | none   => false

/-- The Silence Limit a pin writes; 0 means none (R49). -/
def pinSilence (limit : Nat) : Option Silence :=
  if limit = 0 then none else some { limit := BitVec.ofNat 16 limit, silent := false }

/-- A pin of a key that matches entry i (R49). -/
def pinMatch (i : Nat) (limit : Nat) (s : State) : Option Nat × State :=
  match entryOf s i with
  | none => (none, s)
  | some e =>
    if e.state = .pinned then (some i, putEntry i { e with silence := pinSilence limit } s)
    else if pinnedInBucket s (i / 4) < 3 then
      (some i,
        (putEntry i { e with state := .pinned, silence := pinSilence limit } s).onFilter fun f =>
          { f with pinnedInUse := f.pinnedInUse + 1 })
    else (none, s)

/-- A pin of a key that no entry matches (R50). -/
def pinMiss (port : Option Port) (a : Address) (c : TClass) (limit : Nat) (s : State) :
    Option Nat × State :=
  if pinnedInBucket s (bucketOf a c) < 3 then
    match takeWay port (bucketOf a c) s with
    | (i, s') => (some i, createEntry i a c .pinned (pinSilence limit) s')
  else (none, s)

/-- A pin (R48 to R50): the entry's index, or none where the pin is refused. -/
def pinKey (port : Option Port) (a : Address) (c : TClass) (limit : Nat) (s : State) :
    Option Nat × State :=
  match lookupKey port a c s with
  | (some i, s') => pinMatch i limit s'
  | (none, s')   => pinMiss port a c limit s'

/-- An unpin of a key (R52). -/
def unpinKey (port : Port) (a : Address) (c : TClass) (s : State) : Option Nat × State :=
  match lookupKey (some port) a c s with
  | (none, s') => (none, s')
  | (some i, s') =>
    match entryOf s' i with
    | none => (none, s')
    | some e =>
      if e.state = .pinned then
        (some i,
          (putEntry i { e with state := .active, silence := none } s').onFilter fun f =>
            { f with pinnedInUse := f.pinnedInUse - 1 })
      else (some i, s')

/-- A removal of a key (R53). -/
def removeKey (port : Port) (a : Address) (c : TClass) (s : State) : Option Nat × State :=
  match lookupKey (some port) a c s with
  | (none, s') => (none, s')
  | (some i, s') =>
    (some i, (freeEntry i s').onFilter fun f => f.onCounters fun c => { c with removed := c.removed + 1 })

/-! ### FLUSH-TABLE (R54) -/

/-- A path after FLUSH-TABLE (R54): its Missing count is kept. -/
def PathRecord.flush (r : PathRecord) : PathRecord :=
  { r with state := .unseen, lastArrival := none, missRun := 0 }

/-- A PINNED entry after FLUSH-TABLE (R54). -/
def Entry.flush (e : Entry) (now : Time) : Entry :=
  { e with
    window := none, path1 := e.path1.flush, path2 := e.path2.flush, twins := [],
    skewAverage := none, sampleCount := 0, skewAlarm := false, created := now, check := 0 }

/-- FLUSH-TABLE at one entry (R54); the summary counts are judged once, at the end. -/
def flushEntry (s : State) (i : Nat) : State :=
  match entryOf s i with
  | none => s
  | some e =>
    if e.state = .active then
      (dropEntry i false s).onFilter fun f => f.onCounters fun c => { c with removed := c.removed + 1 }
    else if e.check = 0 then putEntry i (e.flush s.stationTime) s
    else recountPinned (dropEntry i false (report .entryCheck i none none s))

/-- FLUSH-TABLE (R54, R97): one pass in index order, then both counts stand at 0 and a count that has
fallen is judged once, Network 2's first (log 18). -/
def flushTable (s : State) : State :=
  let s := (s.filter.entries.map Prod.fst).foldl flushEntry s
  setLost .u1 0 (setLost .u2 0 s)

/-! ### The Table Scanner's visit to a bucket (R57 to R61) -/

/-- Whether a twin record has timed out (R58, R80). -/
def Twin.timedOut (now : Time) (timeoutMs : Nat) (t : Twin) : Bool :=
  decide (timeoutMs * 1000 < age now t.firstTime)

/-- Records evicted by timeout, from the head to the first that has not timed out (R58, R80). -/
def timedOutTwins (now : Time) (timeoutMs : Nat) (ts : List Twin) : List Twin :=
  ts.takeWhile (Twin.timedOut now timeoutMs)

/-- Records that stay. -/
def freshTwins (now : Time) (timeoutMs : Nat) (ts : List Twin) : List Twin :=
  ts.dropWhile (Twin.timedOut now timeoutMs)

/-- One miss counted against a path (R81). -/
def chargeMiss (e : Entry) (q : Uplink) : Entry :=
  e.setPath q { e.path q with missRun := satInc (e.path q).missRun, missing := satInc (e.path q).missing }

/-- A miss for each evicted record, against the path other than its First Path (R81). -/
def chargeMisses (e : Entry) (evicted : List Twin) : Entry :=
  evicted.foldl (fun e t => chargeMiss e (other t.firstPath)) e

/-- Eviction by timeout (R58, R80): records evicted, misses charged. -/
def evictTimedOut (now : Time) (timeoutMs : Nat) (e : Entry) : Entry :=
  { chargeMisses e (timedOutTwins now timeoutMs e.twins) with
    twins := freshTwins now timeoutMs e.twins }

/-- The stored times of an entry after the time hold (R61). -/
def Entry.hold (e : Entry) (now : Time) : Entry :=
  { e with
    created := holdTime now e.created
    lastUse := holdTime now e.lastUse
    window := e.window.map fun w => { w with lastAccept := holdTime now w.lastAccept }
    path1 := { e.path1 with lastArrival := e.path1.lastArrival.map (holdTime now) }
    path2 := { e.path2 with lastArrival := e.path2.lastArrival.map (holdTime now) }
    twins := e.twins.map fun t => { t with firstTime := holdTime now t.firstTime } }

/-- Whether an entry is older than Source Age (R59). -/
def Entry.aged (e : Entry) (now : Time) (sourceAge : Nat) : Bool :=
  decide (sourceAge * 1000000 < age now e.lastUse)

/-- Whether a PINNED entry's silence test finds it newly silent (R60). -/
def Entry.fallsSilent (e : Entry) (now : Time) : Bool :=
  match e.silence with
  | some l => !l.silent && decide (l.limit.toNat * 1000 < age now e.lastUse)
  | none   => false

/-- Silent set. -/
def Entry.setSilent (e : Entry) : Entry :=
  { e with silence := e.silence.map fun l => { l with silent := true } }

/-- Silent cleared by an arrival (R40). -/
def Entry.clearSilent (e : Entry) : Entry :=
  { e with silence := e.silence.map fun l => { l with silent := false } }

/-- The Table Scanner at one way (R57): check, twin timeout, aging or silence, time hold. -/
def visitWay (s : State) (i : Nat) : State :=
  match entryOf s i with
  | none => s
  | some e =>
    if e.check ≠ 0 then entryCheckFails i none none s
    else
      let evicted := timedOutTwins s.stationTime s.settings.twinTimeout e.twins
      let e' := evictTimedOut s.stationTime s.settings.twinTimeout e
      let s := (putEntry i e' s).onFilter fun f => f.onCounters fun c =>
        { c with twinTimeouts := c.twinTimeouts + BitVec.ofNat 32 evicted.length }
      if e'.state = .active then
        if e'.aged s.stationTime s.settings.sourceAge then
          (freeEntry i s).onFilter fun f => f.onCounters fun c => { c with agedOut := c.agedOut + 1 }
        else putEntry i (e'.hold s.stationTime) s
      else if e'.fallsSilent s.stationTime then
        putEntry i (e'.setSilent.hold s.stationTime)
          (raise .sourceSilent 0 (some e'.cls) (i * 256) e'.addr s)
      else putEntry i (e'.hold s.stationTime) s

/-- A visit to the bucket at the bucket cursor, which then advances (R56, R57). -/
def visitBucket (s : State) : State :=
  ((waysOf s.filter.bucketCursor.val).foldl visitWay s).onFilter fun f =>
    { f with bucketCursor := f.bucketCursor + 1 }

/-! ### CLEAR-COUNTERS, group FILTER (R62) -/

/-- An entry after its counters are cleared (R62): the seven counters and both Missing counts. -/
def Entry.clearCounts (e : Entry) : Entry :=
  { e with
    accepted := 0, repeats := 0, late := 0, stale := 0, resync := 0, samePath := 0, unmatched := 0,
    path1 := { e.path1 with missing := 0 }, path2 := { e.path2 with missing := 0 }, check := 0 }

end Sys2Proof.Machine
end

