-- ==== Sys2Proof/Machine/Filter.lean ====
section
/-! DEFINITION. The Duplicate Filter (chapter 4) and path health (05 5.1, 5.2): what a tagged arrival does
to the entry it has found or created, step by step as R64 lists them. -/

namespace Sys2Proof.Machine

/-! ### Verdicts (R65, R66) -/

/-- The verdicts, the cases that R66, R69, R70 and R74 tell apart among them. -/
inductive Verdict where
  | first (expired : Bool)
  | epochJump
  | sequenceJump
  | ahead
  | late
  | repeated
  | staleEpoch
  | stale
  deriving DecidableEq, Repr

/-- FIRST, JUMP, AHEAD and LATE are accepted verdicts (R66). -/
def Verdict.accepting : Verdict → Bool
  | .first _ | .epochJump | .sequenceJump | .ahead | .late => true
  | .repeated | .staleEpoch | .stale => false

/-- STALE, in either of its cases (R74). -/
def Verdict.isStale : Verdict → Bool
  | .staleEpoch | .stale => true
  | _ => false

/-- The sequence difference of s against Head H, in −32,768..32,767 (R65). -/
def seqDiff (s head : BitVec 16) : Int := (s - head).toInt

/-- The verdict that the band of d gives (R65, R66 test 4). -/
def sequenceVerdict (jumpLimit : Nat) (w : Window) (s : BitVec 16) : Verdict :=
  if seqDiff s w.head = 0 then .repeated
  else if 1 ≤ seqDiff s w.head ∧ seqDiff s w.head ≤ jumpLimit then .ahead
  else if -63 ≤ seqDiff s w.head ∧ seqDiff s w.head ≤ -1 then
    if w.seen.getLsbD (-(seqDiff s w.head)).toNat then .repeated else .late
  else if -(jumpLimit : Int) ≤ seqDiff s w.head ∧ seqDiff s w.head ≤ -64 then .stale
  else .sequenceJump

/-- Whether a window has expired under Window Hold (R66 test 1). -/
def Window.expired (w : Window) (now : Time) (windowHold : Nat) : Bool :=
  decide (windowHold * 1000 < age now w.lastAccept)

/-- The verdict of an arrival with a sequence and an epoch (R66). -/
def verdictOf (st : Settings) (now : Time) (s : BitVec 16) (epoch : BitVec 3) (w : Option Window) :
    Verdict :=
  match w with
  | none => .first false
  | some w =>
    if w.expired now st.windowHold then .first true
    else if epoch ≠ w.epoch ∧ w.prevEpoch = some epoch then .staleEpoch
    else if epoch ≠ w.epoch then .epochJump
    else sequenceVerdict st.jumpLimit w s

/-! ### Effects of a verdict on its entry (R68 to R74, R78, R79) -/

/-- What an arrival works on: its entry and the filter counters. -/
structure Screening where
  entry    : Entry
  counters : FilterCounters
  deriving DecidableEq, Repr

/-- The append of R78: overflow evicts the head record first, with a miss. -/
def appendTwin (t : Twin) (x : Screening) : Screening :=
  match x.entry.twins with
  | h :: rest =>
    if 4 ≤ (h :: rest).length then
      { entry := { chargeMiss x.entry (other h.firstPath) with twins := rest ++ [t] }
        counters := { x.counters with twinOverflows := x.counters.twinOverflows + 1 } }
    else { x with entry := { x.entry with twins := h :: rest ++ [t] } }
  | [] => { x with entry := { x.entry with twins := [t] } }

/-- Path p Accepted (R68). -/
def FilterCounters.acceptOn (c : FilterCounters) : Uplink → FilterCounters
  | .u1 => { c with path1Accepted := c.path1Accepted + 1 }
  | .u2 => { c with path2Accepted := c.path2Accepted + 1 }

/-- Path p Discarded (R73, R74). -/
def FilterCounters.discardOn (c : FilterCounters) : Uplink → FilterCounters
  | .u1 => { c with path1Discarded := c.path1Discarded + 1 }
  | .u2 => { c with path2Discarded := c.path2Discarded + 1 }

/-- The common effects of every accepted verdict (R68). -/
def acceptCommon (now : Time) (t : Tag) (x : Screening) : Screening :=
  let x := appendTwin { seq := t.seq, firstPath := t.path, firstTime := now } x
  { entry :=
      { x.entry with
        window := x.entry.window.map fun w => { w with lastAccept := now }
        declaredInterval := t.interval
        accepted := satInc x.entry.accepted }
    counters := x.counters.acceptOn t.path }

/-- A window initialised at a sequence (R69, R70): offset 0 alone set. -/
def initWindow (now : Time) (t : Tag) (epoch : BitVec 3) (prev : Option (BitVec 3)) : Window :=
  { head := t.seq, seen := 1, epoch := epoch, prevEpoch := prev, lastAccept := now }

/-- An initialisation: the window anew, twin records discarded without misses (R69, R70). -/
def initialise (w : Window) (e : Entry) : Entry := { e with window := some w, twins := [] }

/-- FIRST (R69). -/
def firstEffect (now : Time) (t : Tag) (expired : Bool) (x : Screening) : Screening :=
  acceptCommon now t
    { entry := initialise (initWindow now t t.epoch none) x.entry
      counters :=
        if expired then { x.counters with windowExpiries := x.counters.windowExpiries + 1 }
        else x.counters }

/-- JUMP (R70): the epochs as an epoch jump or a sequence jump leaves them. -/
def jumpEffect (now : Time) (t : Tag) (epochJump : Bool) (w : Window) (x : Screening) : Screening :=
  acceptCommon now t
    { x with
      entry :=
        { initialise
            (if epochJump then initWindow now t t.epoch (some w.epoch)
             else initWindow now t w.epoch w.prevEpoch) x.entry with
          resync := satInc x.entry.resync } }

/-- A twin record lies more than 63 behind a Head (R79). -/
def Twin.slidOut (head : BitVec 16) (t : Twin) : Bool := decide (63 < (head - t.seq).toNat)

/-- AHEAD (R71): the window slides by d; records slid out are evicted with a miss each (R79). -/
def aheadEffect (now : Time) (t : Tag) (w : Window) (x : Screening) : Screening :=
  let evicted := x.entry.twins.filter (Twin.slidOut t.seq)
  let w' : Window :=
    { w with head := t.seq, seen := (w.seen <<< (seqDiff t.seq w.head).toNat) ||| 1 }
  acceptCommon now t
    { entry :=
        { chargeMisses x.entry evicted with
          window := some w'
          twins := x.entry.twins.filter fun r => !Twin.slidOut t.seq r }
      counters :=
        { x.counters with twinSlides := x.counters.twinSlides + BitVec.ofNat 32 evicted.length } }

/-- LATE (R72): the flag at offset −d is set. -/
def lateEffect (now : Time) (t : Tag) (w : Window) (x : Screening) : Screening :=
  acceptCommon now t
    { x with
      entry :=
        { x.entry with
          window := some { w with seen := w.seen ||| (1 <<< (-(seqDiff t.seq w.head)).toNat) }
          late := satInc x.entry.late } }

/-- The skew sample of a twin match (R83 to R85), and the event it raises. -/
def skewEffect (now : Time) (limit : Nat) (r : Twin) (x : Screening) : Screening × Option Bool :=
  let raw := age now r.firstTime
  let avg := nextAverage x.entry.skewAverage (signedSkew raw r.firstPath)
  let judged := judgeSkew x.entry.skewAlarm avg limit
  ({ entry :=
      { x.entry with
        skewAverage := some avg
        sampleCount := satInc x.entry.sampleCount
        skewAlarm := judged.1 }
     counters :=
      if raw > 32767 then { x.counters with skewClamps := x.counters.skewClamps + 1 }
      else x.counters }, judged.2)

/-- REPEAT (R73): the twin list searched for the sequence. -/
def repeatEffect (now : Time) (limit : Nat) (t : Tag) (x : Screening) : Screening × Option Bool :=
  let x := { entry := { x.entry with repeats := satInc x.entry.repeats }
             counters := x.counters.discardOn t.path : Screening }
  match x.entry.twins.find? (fun r => r.seq == t.seq) with
  | none => ({ x with entry := { x.entry with unmatched := satInc x.entry.unmatched } }, none)
  | some r =>
    if r.firstPath = t.path then
      ({ x with entry := { x.entry with samePath := satInc x.entry.samePath } }, none)
    else
      skewEffect now limit r
        { x with
          entry :=
            { (x.entry.setPath t.path { x.entry.path t.path with missRun := 0 }) with
              twins := x.entry.twins.erase r } }

/-- STALE (R74). -/
def staleEffect (pass : Bool) (t : Tag) (staleEpoch : Bool) (x : Screening) : Screening :=
  let c := if staleEpoch then { x.counters with staleEpochs := x.counters.staleEpochs + 1 } else x.counters
  { entry := { x.entry with stale := satInc x.entry.stale }
    counters := if pass then { c with stalePassed := c.stalePassed + 1 } else c.discardOn t.path }

/-- Steps 3 to 6 and 8 of R64: the verdict's effects, and the skew event if one is raised. A verdict
that reads the window is given only where the window is present (R66). -/
def verdictEffect (st : Settings) (now : Time) (t : Tag) (v : Verdict) (x : Screening) :
    Screening × Option Bool :=
  match v, x.entry.window with
  | .first expired, _ => (firstEffect now t expired x, none)
  | .epochJump, some w => (jumpEffect now t true w x, none)
  | .sequenceJump, some w => (jumpEffect now t false w x, none)
  | .ahead, some w => (aheadEffect now t w x, none)
  | .late, some w => (lateEffect now t w x, none)
  | .repeated, _ => repeatEffect now st.skewLimit t x
  | .staleEpoch, _ => (staleEffect st.stalePass t true x, none)
  | .stale, _ => (staleEffect st.stalePass t false x, none)
  | _, none => (x, none)

/-- Step 2 of R64: the twin timeout (R80). -/
def timeoutStep (st : Settings) (now : Time) (x : Screening) : Screening :=
  { entry := evictTimedOut now st.twinTimeout x.entry
    counters :=
      { x.counters with
        twinTimeouts := x.counters.twinTimeouts +
          BitVec.ofNat 32 (timedOutTwins now st.twinTimeout x.entry.twins).length } }

/-- Step 7 of R64: Last Use is written and Silent cleared (R40). -/
def lastUseStep (now : Time) (e : Entry) : Entry := { e with lastUse := now }.clearSilent

/-! ### Path health (R91 to R93) -/

/-- The arriving path is brought up to date (R92). -/
def arrivingPath (i : Nat) (p : Uplink) (s : State) : State :=
  match entryOf s i with
  | none => s
  | some e =>
    let r := e.path p
    match r.state with
    | .unseen =>
      putEntry i (e.setPath p { r with state := .present, lastArrival := some s.stationTime, missRun := 0 }) s
    | .present => putEntry i (e.setPath p { r with lastArrival := some s.stationTime }) s
    | .lost =>
      lowerLost p
        ((raise .pathRestored (pathNumber p) (some e.cls) (i * 256) e.addr
          (putEntry i
            (e.setPath p { r with state := .present, lastArrival := some s.stationTime, missRun := 0 })
            s)).onFilter fun f => f.onCounters fun c => { c with pathsRestored := c.pathsRestored + 1 })

/-- The other path is judged (R93). -/
def judgePath (i : Nat) (q : Uplink) (s : State) : State :=
  match entryOf s i with
  | none => s
  | some e =>
    if e.isLost q = false ∧ e.failed q s.settings.missLimit s.stationTime = true then
      raiseLost q
        ((raise .pathLost (pathNumber q) (some e.cls) (i * 256 + (e.path q).missRun.toNat) e.addr
          (putEntry i (e.setPath q { e.path q with state := .lost }) s)).onFilter fun f =>
            f.onCounters fun c => { c with pathsLost := c.pathsLost + 1 })
    else s

/-- A path arrival (R91): the arriving path first, then the other. -/
def pathArrival (i : Nat) (p : Uplink) (s : State) : State := judgePath i (other p) (arrivingPath i p s)

/-- The event of a skew sample (R85). -/
def raiseSkew (e : Entry) (ev : Option Bool) (s : State) : State :=
  match ev with
  | none => s
  | some high =>
    raise (if high then .skewHigh else .skewNormal) (skewWhere (e.skewAverage.getD 0)) (some e.cls)
      (detail24 (e.skewAverage.getD 0)) e.addr s

/-! ### The handling of an arrival (R64) -/

/-- Steps 2 to 8 and 10 of R64 on the entry: timeout, verdict, effects, Last Use. -/
def screenEntry (st : Settings) (now : Time) (t : Tag) (x : Screening) :
    Screening × Verdict × Option Bool :=
  let x := timeoutStep st now x
  let v := verdictOf st now t.seq t.epoch x.entry.window
  let r := verdictEffect st now t v x
  ({ r.1 with entry := lastUseStep now r.1.entry }, v, r.2)

/-- Whether the frame of a verdict goes on (R66): accepted verdicts, and STALE under PASS. -/
def goesOn (st : Settings) (v : Verdict) : Bool := v.accepting || (v.isStale && st.stalePass)

/-- Steps 2 to 10 of R64 at entry i, which step 1 has found or created. -/
def screenAt (i : Nat) (t : Tag) (s : State) : Verdict × State :=
  match entryOf s i with
  | none => (.first false, s)
  | some e =>
    let r := screenEntry s.settings s.stationTime t { entry := e, counters := s.filter.counters }
    (r.2.1,
      pathArrival i t.path
        (raiseSkew r.1.entry r.2.2
          ((putEntry i r.1.entry s).onFilter fun f => { f with counters := r.1.counters })))

/-- The handling of a tagged arrival (R64): its entry, its verdict, and the state after it. -/
def screen (t : Tag) (source : Address) (s : State) : Nat × Verdict × State :=
  match entryForArrival (uplinkPort t.path) source t.cls s with
  | (i, s') =>
    match screenAt i t s' with
    | (v, s'') => (i, v, s'')

/-! ### Peer Status (R104) -/

/-- An accepted presence body is read by majority into the entry's Peer Status (R104). -/
def readPresenceBody (i : Nat) (w : Walk) (frame : List Octet) (s : State) : State :=
  match majority (statusCopy w frame 0) (statusCopy w frame 1) (statusCopy w frame 2) with
  | some v =>
    match entryOf s i with
    | some e => putEntry i { e with peerStatus := some v } s
    | none   => s
  | none => s.onFilter fun f => f.onCounters fun c => { c with bodyErrors := c.bodyErrors + 1 }

end Sys2Proof.Machine
end

