-- ==== Sys2Proof/Machine/Egress.lean ====
section
/-! DEFINITION. The Uplink Egresses and the Bay Egress (chapter 7), link state (05 5.6), and the honouring
of received pauses. -/

namespace Sys2Proof.Machine

/-! ### Queues -/

def UplinkEgress.queue (e : UplinkEgress) : SlotClass → Queue
  | .event   => e.event
  | .timing  => e.timing
  | .stream  => e.stream
  | .general => e.general

def UplinkEgress.onQueue (e : UplinkEgress) (q : SlotClass) (f : Queue → Queue) : UplinkEgress :=
  match q with
  | .event   => { e with event := f e.event }
  | .timing  => { e with timing := f e.timing }
  | .stream  => { e with stream := f e.stream }
  | .general => { e with general := f e.general }

def BayEgress.queue (e : BayEgress) : BayQueue → Queue
  | .event   => e.event
  | .service => e.service
  | .timing  => e.timing
  | .stream  => e.stream
  | .general => e.general

def BayEgress.onQueue (e : BayEgress) (q : BayQueue) (f : Queue → Queue) : BayEgress :=
  match q with
  | .event   => { e with event := f e.event }
  | .service => { e with service := f e.service }
  | .timing  => { e with timing := f e.timing }
  | .stream  => { e with stream := f e.stream }
  | .general => { e with general := f e.general }

/-- Capacity of an uplink queue (R139). -/
def uplinkCapacity : SlotClass → Nat
  | .event   => 64
  | .timing  => 64
  | .stream  => 256
  | .general => 256

/-- Capacity of a bay queue (R153). -/
def bayCapacity : BayQueue → Nat
  | .event   => 64
  | .service => 16
  | .timing  => 64
  | .stream  => 256
  | .general => 256

/-- The class queue of an uplink that a paired copy joins (R123). -/
def slotClassOf : TClass → SlotClass
  | .general  => .general
  | .stream   => .stream
  | .timing   => .timing
  | .event    => .event
  | .presence => .timing

/-- The bay queue of an accepted or untagged uplink frame (R25, R26). -/
def bayQueueOf : TClass → BayQueue
  | .general  => .general
  | .stream   => .stream
  | .timing   => .timing
  | .event    => .event
  | .presence => .timing

/-- The Residence Limit an uplink queue reads, in ms; 0 drops nothing (07 7.1, R146). -/
def uplinkLimit (st : Settings) : SlotClass → Nat
  | .event   => st.residenceLimit.event
  | .timing  => st.residenceLimit.timing
  | .stream  => st.residenceLimit.stream
  | .general => st.residenceLimit.general

/-- The Residence Limit a bay queue reads; Service and General have none (07 7.4). -/
def bayLimit (st : Settings) : BayQueue → Nat
  | .event   => st.residenceLimit.event
  | .timing  => st.residenceLimit.timing
  | .stream  => st.residenceLimit.stream
  | .service => 0
  | .general => 0

def Queue.join (q : Queue) (e : QueueEntry) : Queue := { q with entries := q.entries ++ [e] }
def Queue.refuse (q : Queue) : Queue := { q with drops := q.drops + 1, overflow := true }
def Queue.pop (q : Queue) : Queue := { q with entries := q.entries.tail }
def Queue.countResidence (q : Queue) : Queue := { q with residenceDrops := q.residenceDrops + 1 }

/-- An entry offered to an uplink queue (R139). -/
def offerUplink (port : Option Port) (u : Uplink) (q : SlotClass) (e : QueueEntry) (s : State) : State :=
  if ((s.uplink u).queue q).entries.length < uplinkCapacity q then
    s.onUplink u fun g => g.onQueue q fun x => x.join e
  else (release port e.handle s).onUplink u fun g => g.onQueue q Queue.refuse

/-- A frame offered to a bay queue (R153), with the answer taken or refused. -/
def offerBay (port : Option Port) (q : BayQueue) (h : Nat) (s : State) : Bool × State :=
  if (s.bay.queue q).entries.length < bayCapacity q then
    (true, s.onBay fun b => b.onQueue q fun x =>
      x.join { handle := h, seqOffset := false, fcsCorrupt := false })
  else (false, (release port h s).onBay fun b => b.onQueue q Queue.refuse)

/-! ### Screening the head of a queue (R146) -/

/-- The tests of R146 on an entry already taken from its queue: `none` passes, `some s'` is the state
after the first test that fails. `limit` is the Residence Limit in ms, 0 for none. -/
def screenHead (port : Port) (limit : Nat) (countResidence : State → State) (h : Nat) (s : State) :
    Option State :=
  match handleOf s h with
  | none => some s
  | some r =>
    if r.quarantined = true then some (countQuarantineDrop s)
    else if r.check ≠ 0 then some (quarantineHandle (some port) h s)
    else if 0 < limit ∧ limit * 1000 < age s.stationTime r.arrival then
      some (countResidence (release (some port) h s))
    else
      match firstBadBlock s r.blocks with
      | some b => some (release (some port) h (report .blockCheck b (some port) (some r.cls) s))
      | none   => none

/-! ### The uplink choice (R145, R148) -/

/-- The first queue that holds an entry, in the order Event, Timing, Stream, General (R145). -/
def UplinkEgress.firstWaiting (e : UplinkEgress) : Option SlotClass :=
  [SlotClass.event, .timing, .stream, .general].find? fun q => !(e.queue q).entries.isEmpty

/-- The class the current slot names (R145). -/
def UplinkEgress.slot (e : UplinkEgress) : SlotClass := e.activeMap.getD e.cursor.val .general

/-- The queue a choice takes, and whether by fall-through (R145). -/
def UplinkEgress.choose (e : UplinkEgress) : Option (SlotClass × Bool) :=
  if (e.queue e.slot).entries.isEmpty then e.firstWaiting.map fun q => (q, true)
  else some (e.slot, false)

/-- The speed setting of an uplink. -/
def uplinkFast (st : Settings) : Uplink → Bool
  | .u1 => st.u1Speed1000
  | .u2 => st.u2Speed1000

/-- The octets an entry's copy is sent as (R5, R148). -/
def copyOctets (u : Uplink) (e : QueueEntry) (s : State) : List Octet :=
  match handleOf s e.handle with
  | some r => uplinkOctets s.settings.tagMarker u (storedFrame s r) r.tag e.seqOffset e.fcsCorrupt
  | none   => []

/-- The cycle boundary (R143): a pending staged map becomes active and SLOT-APPLIED is raised. -/
def cycleBoundary (u : Uplink) (s : State) : State :=
  if (s.uplink u).applyPending = true then
    raise .slotApplied (pathNumber u) none
      (((s.uplink u).stagedCounts.event * 256 + (s.uplink u).stagedCounts.timing) * 256 +
        (s.uplink u).stagedCounts.stream) 0
      (s.onUplink u fun e =>
        { e with activeCounts := e.stagedCounts, activeMap := e.stagedMap, applyPending := false })
  else s

/-- The cursor advances by 1; from 63 it wraps, which is the cycle boundary (R145). -/
def advanceCursor (u : Uplink) (s : State) : State :=
  let s' := s.onUplink u fun e => { e with cursor := e.cursor + 1 }
  if (s.uplink u).cursor = 63 then cycleBoundary u s' else s'

/-- A copy that passes screening is started (R148). -/
def startCopy (u : Uplink) (q : SlotClass) (fell : Bool) (e : QueueEntry) (s : State) : State :=
  advanceCursor u
    (s.onUplink u fun g =>
      { g with
        tx := some
          { handle := e.handle, queue := q, seqOffset := e.seqOffset, fcsCorrupt := e.fcsCorrupt,
            wire := putOnWire (uplinkFast s.settings u) (copyOctets u e s) }
        fallThroughStarts := if fell then g.fallThroughStarts + 1 else g.fallThroughStarts })

/-- One choice, made again after each failed test (R145, R146); `n` bounds the entries waiting. -/
def uplinkChoices (u : Uplink) : Nat → State → State
  | 0, s => s
  | n + 1, s =>
    if (s.uplink u).linkUp = true ∧ (s.uplink u).tx = none then
      match (s.uplink u).choose with
      | none => s
      | some (q, fell) =>
        match ((s.uplink u).queue q).entries with
        | [] => s
        | e :: _ =>
          let s' := s.onUplink u fun g => g.onQueue q Queue.pop
          match screenHead (uplinkPort u) (uplinkLimit s.settings q)
              (fun x => x.onUplink u fun g => g.onQueue q Queue.countResidence) e.handle s' with
          | none => startCopy u q fell e s'
          | some s'' => uplinkChoices u n s''
    else s

/-- Entries waiting on an uplink. -/
def UplinkEgress.waiting (e : UplinkEgress) : Nat :=
  e.event.entries.length + e.timing.entries.length + e.stream.entries.length + e.general.entries.length

/-- The choice an Uplink Egress makes at the end of a handling (R145). -/
def uplinkChoice (u : Uplink) (s : State) : State := uplinkChoices u ((s.uplink u).waiting + 1) s

/-! ### The bay choice (R154) -/

/-- The first bay queue that holds an entry (R154). -/
def BayEgress.firstWaiting (e : BayEgress) : Option BayQueue :=
  [BayQueue.event, .service, .timing, .stream, .general].find? fun q => !(e.queue q).entries.isEmpty

/-- The octets B sends for a handle's frame (R6, R154). -/
def bayFrameOctets (h : Nat) (s : State) : List Octet :=
  match handleOf s h with
  | some r => bayOctets (storedFrame s r) r.tag.isSome
  | none   => []

/-- A bay frame that passes screening is started (R154). -/
def startBay (h : Nat) (s : State) : State :=
  s.onBay fun b => { b with tx := some (.frame h (putOnWire s.loader.straps.bay1000 (bayFrameOctets h s))) }

/-- The Residence Drops of a bay queue. -/
def countBayResidence (q : BayQueue) (s : State) : State :=
  s.onBay fun b => b.onQueue q Queue.countResidence

/-- One choice, made again after each failed test (R154). It screens the head of the queue it takes and no
other, as R154 says, the choice at a hold's end among them, of which R158 says that it "screens every head
as usual" (DESIGN CHOICE, log 37). -/
def bayChoices : Nat → State → State
  | 0, s => s
  | n + 1, s =>
    if s.bay.tx = none ∧ s.pause.pending = none ∧ s.bay.held = false then
      match s.bay.firstWaiting with
      | none => s
      | some q =>
        match (s.bay.queue q).entries with
        | [] => s
        | e :: _ =>
          let s' := s.onBay fun b => b.onQueue q Queue.pop
          match screenHead .b (bayLimit s.settings q) (countBayResidence q) e.handle s' with
          | none => startBay e.handle s'
          | some s'' => bayChoices n s''
    else s

/-- Entries waiting for B. -/
def BayEgress.waiting (e : BayEgress) : Nat :=
  e.event.entries.length + e.service.entries.length + e.timing.entries.length +
    e.stream.entries.length + e.general.entries.length

/-- The choice the Bay Egress makes at the end of a handling (R154). -/
def bayChoice (s : State) : State := bayChoices (s.bay.waiting + 1) s

/-! ### Received pauses (R157, R158) -/

/-- While Held, the head of one queue is screened for residence, again on each new head (R158). DESIGN CHOICE
(log 40): the screening judges a head's age alone, by test 3 of R146, before anything of R36 or R37. The
handle's check is verified in the release of the dropped reference, and Residence Drops counts the drop even
where that release finds a mismatch, or does nothing for a handle in quarantine. -/
def heldScreens (q : BayQueue) : Nat → State → State
  | 0, s => s
  | n + 1, s =>
    match (s.bay.queue q).entries with
    | [] => s
    | e :: _ =>
      match handleOf s e.handle with
      | none => s
      | some r =>
        if 0 < bayLimit s.settings q ∧ bayLimit s.settings q * 1000 < age s.stationTime r.arrival then
          heldScreens q n
            (countBayResidence q
              (release (some .b) e.handle (s.onBay fun b => b.onQueue q Queue.pop)))
        else s

/-- The screening of R158 over one queue. -/
def heldScreen (q : BayQueue) (s : State) : State :=
  heldScreens q ((s.bay.queue q).entries.length + 1) s

/-- The screening of R158: Event, then Timing, then Stream. -/
def screenHeld (s : State) : State := heldScreen .stream (heldScreen .timing (heldScreen .event s))

/-- Held ends and the timer stops (R157). -/
def endHold (s : State) : State := s.onBay fun b => { b with held := false, pauseTimer := none }

/-- The time q quanta hold the Bay Egress, in ns (R7, R157): q × 512 bit times. -/
def holdTimeNs (s : State) (q : BitVec 16) : Nat := q.toNat * 64 * octetTime s.loader.straps.bay1000

/-- A hold of q quanta begins, or takes the place of the running one (R157). -/
def beginHold (q : BitVec 16) (s : State) : State :=
  (s.onBay fun b => { b with held := true, pauseTimer := some (holdTimeNs s q) }).onPort .b
    fun c => { c with pauseHolds := c.pauseHolds + 1 }

/-- A quanta value handed to the Bay Egress (R157, R158). DESIGN CHOICE (log 36): every quanta value that
finds the Bay Egress Held or makes it so screens, so a quanta 0 screens before it ends the hold, the value
that begins a hold screens too, and a quanta 0 with no hold running screens nothing. The choice that quanta
0 can allow is made at the end of the handling. -/
def takeQuanta (q : BitVec 16) (s : State) : State :=
  if q = 0 then
    if s.bay.held = true then endHold (screenHeld s) else endHold s
  else screenHeld (beginHold q s)

/-! ### Completion, abort, flush (R149 to R152) -/

/-- A release at a completion or abort: none for a handle quarantined meanwhile (R37, R149, R150). -/
def releaseSent (port : Port) (h : Nat) (s : State) : State := release (some port) h s

/-- A copy's transmission completes (R149), but for the choice at the handling's end. -/
def completeCopy (u : Uplink) (t : UplinkTx) (s : State) : State :=
  (releaseSent (uplinkPort u) t.handle
    (s.onUplink u fun e => { e with tx := none, sent := e.sent ++ [t.wire.octets] })).onPort
      (uplinkPort u) fun c => { c with framesSent := c.framesSent + 1 }

/-- A transmission in progress on an uplink is aborted (R150, R5). Its release reports this uplink as the
Port of a HANDLE-CHECK, in the handling of an arrival whose request resets the uplink as well (DESIGN
CHOICE, log 39). -/
def abortCopy (u : Uplink) (s : State) : State :=
  match (s.uplink u).tx with
  | none => s
  | some t =>
    (releaseSent (uplinkPort u) t.handle
      (s.useFree.onUplink u fun e =>
        { e with
          tx := none
          sent := e.sent ++ [abortedOctets t.wire.octets (octetsOut t.wire s.freeUses)] })).onPort
      (uplinkPort u) fun c => { c with transmitAborts := c.transmitAborts + 1 }

/-- One entry removed by a flush (R151, R37). Its release reports the uplink flushed as the Port of a
HANDLE-CHECK, in the handling of an arrival whose request resets the uplink as well (DESIGN CHOICE, log
39). -/
def flushQueueEntry (u : Uplink) (s : State) (e : QueueEntry) : State :=
  if isQuarantined s e.handle then countQuarantineDrop s
  else (release (some (uplinkPort u)) e.handle s).onUplink u fun g =>
    { g with flushDrops := g.flushDrops + 1 }

/-- Every entry of every queue of an uplink, in flush order (R151). -/
def UplinkEgress.allEntries (e : UplinkEgress) : List QueueEntry :=
  e.event.entries ++ e.timing.entries ++ e.stream.entries ++ e.general.entries

/-- An uplink's queues emptied, flags and counters kept (R151). -/
def UplinkEgress.emptied (e : UplinkEgress) : UplinkEgress :=
  { e with
    event := { e.event with entries := [] }
    timing := { e.timing with entries := [] }
    stream := { e.stream with entries := [] }
    general := { e.general with entries := [] } }

/-- The flush of an uplink's four queues (R151). -/
def flushUplink (u : Uplink) (s : State) : State :=
  (s.uplink u).allEntries.foldl (flushQueueEntry u) (s.onUplink u UplinkEgress.emptied)

/-- The change of a link state from UP to DOWN (R108, R109, R150, R151). -/
def linkGoesDown (u : Uplink) (s : State) : State :=
  if (s.uplink u).linkUp = true then
    flushUplink u (abortCopy u
      ((raise .linkDown (pathNumber u) none 0 0
        (s.onUplink u fun e => { e with linkUp := false })).onPort (uplinkPort u)
          fun c => { c with linkDowns := c.linkDowns + 1 }))
  else s

/-- The change of a link state from DOWN to UP (R108). -/
def linkGoesUp (u : Uplink) (s : State) : State :=
  if (s.uplink u).linkUp = false then
    raise .linkUp (pathNumber u) none 0 0 (s.onUplink u fun e => { e with linkUp := true })
  else s

/-- The link state takes the PHY's indication (R108, R110). -/
def followPhy (u : Uplink) (s : State) : State :=
  if (s.uplink u).phy = true then linkGoesUp u s else linkGoesDown u s

/-- B with its counters and its pause emission as they stood. -/
def State.keepBay (s t : State) : State := { t with pause := s.pause, bay := s.bay, portB := s.portB }

/-- A port reset of an uplink (R110, R152, R193). B, its counts and its pause state are unchanged by it (R34,
R193): the blocks that its abort and flush free are not tested by R33, and the next change of the count is
(DEDUCED, log 38). -/
def portReset (u : Uplink) (s : State) : State := s.keepBay (followPhy u (linkGoesDown u s))

/-- A bay frame's transmission completes (R155); a pending pause then starts first (R156). -/
def completeBay (h : Nat) (w : OnWire) (s : State) : State :=
  startPause
    ((releaseSent .b h (s.onBay fun b => { b with tx := none, sent := b.sent ++ [w.octets] })).onPort .b
      fun c => { c with framesSent := c.framesSent + 1 })

/-- An emitted pause frame completes (R156). -/
def completePause (w : OnWire) (s : State) : State :=
  startPause (s.onBay fun b => { b with tx := none, sent := b.sent ++ [w.octets] })

end Sys2Proof.Machine
end

