-- ==== Sys2Proof/Machine/Origin.lean ====
section
/-! DEFINITION. The Pairing Unit and the Origin Table (chapter 6): numbering, stamping, injection, copies,
aging, pins and removal. -/

namespace Sys2Proof.Machine

/-! ### Entries (R113 to R116) -/

def originOf (s : State) (i : Nat) : Option OriginEntry := Tbl.look s.pairing.entries i

def Pairing.onCounters (p : Pairing) (f : PairingCounters → PairingCounters) : Pairing :=
  { p with counters := f p.counters }

/-- Write an Origin entry; its Check is rewritten with it (log 6). -/
def putOrigin (i : Nat) (e : OriginEntry) (s : State) : State :=
  s.onPairing fun p => { p with entries := Tbl.put p.entries i { e with check := 0 } }

/-- The Next Sequence values of a new entry (R114). -/
def noSequences : PerClass (BitVec 16) :=
  { general := 0, stream := 0, timing := 0, event := 0, presence := 0 }

/-- The values of an entry that leaves FREE, or of a rebuilt entry 0 (R114). -/
def newOrigin (st : OriginState) (a : Address) (epoch : BitVec 3) (now : Time) : OriginEntry :=
  { state := st, addr := a, epoch := epoch, next := noSequences, lastSeen := now, check := 0 }

/-- Create an entry at an index, drawing its epoch (R114, R115). -/
def createOrigin (i : Nat) (st : OriginState) (a : Address) (s : State) : State :=
  s.onPairing fun p =>
    { p with
      entries := Tbl.put p.entries i (newOrigin st a p.epochCounter s.stationTime)
      originInUse := p.originInUse + 1
      originPinned := if st = .pinned then p.originPinned + 1 else p.originPinned
      epochCounter := p.epochCounter + 1 }

/-- The lowest FREE entry among 1..63 (R114). -/
def freeOrigin (s : State) : Option Nat := (Tbl.lowestFree s.pairing.entries 63 1 1).head?

/-- How many entries are PINNED (R113). -/
def countOriginPinned (t : Tbl OriginEntry) : Nat := Tbl.count (fun e => e.state == .pinned) t

/-- Free an entry whose State is trusted (R127, R129, R131). -/
def dropOrigin (i : Nat) (s : State) : State :=
  match originOf s i with
  | none => s
  | some e =>
    s.onPairing fun p =>
      { p with
        entries := Tbl.del p.entries i
        originInUse := p.originInUse - 1
        originPinned := if e.state = .pinned then p.originPinned - 1 else p.originPinned }

/-- Rebuild entry 0 in place with a new epoch; neither level changes (R114, R116). -/
def rebuildZero (s : State) : State :=
  s.onPairing fun p =>
    { p with
      entries := Tbl.put p.entries 0
        (newOrigin .pinned s.loader.stationAddress p.epochCounter s.stationTime)
      epochCounter := p.epochCounter + 1 }

/-- Free an entry of index 1..63 whose State is not trusted: Origin Pinned is counted anew (R116). -/
def freeUntrusted (i : Nat) (s : State) : State :=
  s.onPairing fun p =>
    { p with
      entries := Tbl.del p.entries i
      originInUse := p.originInUse - 1
      originPinned := countOriginPinned (Tbl.del p.entries i) }

/-- A check failure found on an entry (R116). -/
def originCheckFails (i : Nat) (port : Option Port) (cls : Option TClass) (s : State) : State :=
  if i = 0 then rebuildZero (report .originCheck i port cls s)
  else freeUntrusted i (report .originCheck i port cls s)

/-- The entry holding an address (R117). DESIGN CHOICE (log 41): where a damaged Address makes two non-FREE
entries hold one address, the match is the one of lowest index; R117 does not say which. -/
def findOrigin (s : State) (a : Address) : Option Nat :=
  (s.pairing.entries.find? fun p => p.2.addr == a).map Prod.fst

/-- Verification of a found entry: the entry to go on with, if one is left (R116). -/
def verifyOrigin (i : Nat) (port : Option Port) (cls : Option TClass) (s : State) : Option Nat × State :=
  match originOf s i with
  | none => (none, s)
  | some e =>
    if e.check = 0 then (some i, s)
    else (if i = 0 then some 0 else none, originCheckFails i port cls s)

/-- A lookup by address, the match verified (R116, R117). -/
def lookupOrigin (port : Option Port) (cls : Option TClass) (a : Address) (s : State) :
    Option Nat × State :=
  match findOrigin s a with
  | none => (none, s)
  | some i => verifyOrigin i port cls s

/-- Last Seen written (R117, R126). -/
def touchOrigin (i : Nat) (s : State) : State :=
  match originOf s i with
  | none => s
  | some e => putOrigin i { e with lastSeen := s.stationTime } s

/-! ### Finding the sender (R117, R118) -/

/-- What numbers a frame: an Origin entry or the Overflow counter. -/
inductive Numbering where
  | entry (i : Nat)
  | overflow
  deriving DecidableEq, Repr

/-- The sender of a bay frame: matched, learned, or untabled (R117). -/
def senderOf (cls : TClass) (a : Address) (s : State) : Numbering × State :=
  match lookupOrigin (some .b) (some cls) a s with
  | (some i, s') => (.entry i, touchOrigin i s')
  | (none, s') =>
    match freeOrigin s' with
    | some i =>
      (.entry i, (createOrigin i .learned a s').onPairing fun p =>
        p.onCounters fun c => { c with originLearned := c.originLearned + 1 })
    | none => (.overflow, s')

/-! ### Stamping (R121, R122) -/

/-- The Tag Fields a stamping writes. -/
def stampFields (seq : BitVec 16) (epoch : BitVec 3) (cls : TClass) (st : Settings) : TagFields :=
  { seq := seq, path := none, epoch := epoch, cls := cls, interval := BitVec.ofNat 8 (st.intervalOf cls) }

/-- The frame of a handle is stamped and the number taken advances (R118, R121). -/
def stamp (n : Numbering) (h : Nat) (cls : TClass) (s : State) : State :=
  match n with
  | .entry i =>
    match originOf s i with
    | none => s
    | some e =>
      putOrigin i { e with next := e.next.set cls (e.next.get cls + 1) }
        (writeHandle h (fun r =>
          { r with tag := some (stampFields (e.next.get cls) e.epoch cls s.settings) }) s)
  | .overflow =>
    (writeHandle h (fun r =>
        { r with
          tag := some
            (stampFields s.pairing.overflowSequence s.pairing.overflowEpoch cls s.settings) }) s).onPairing
      fun p =>
        { p with
          overflowSequence := p.overflowSequence + 1
          counters := { p.counters with proxyOverflow := p.counters.proxyOverflow + 1 } }

/-! ### Injection (R133 to R136) -/

/-- Whether a target names an uplink. -/
def InjectTarget.names : InjectTarget → Uplink → Bool
  | .u1, .u1 => true
  | .u2, .u2 => true
  | .both, _ => true
  | _, _ => false

/-- Whether the Injection Control matches a frame of a class that injection may act on (R133). -/
def injectionMatches (s : State) (cls : TClass) : Bool :=
  s.pairing.injection.mode != .off &&
  (s.pairing.injection.filter == none || s.pairing.injection.filter == some cls) &&
  ((s.pairing.injection.target.names .u1 && s.u1.linkUp) ||
    (s.pairing.injection.target.names .u2 && s.u2.linkUp))

/-- The kind injected on an uplink, if its copy is injected (R133). -/
def injectedKind (s : State) (hit : Bool) (u : Uplink) : Option InjectKind :=
  if hit && s.pairing.injection.target.names u then some s.pairing.injection.kind else none

/-- A ONCE injection is spent by the frame it acts on (R133). -/
def spendInjection (hit : Bool) (s : State) : State :=
  if hit = true ∧ s.pairing.injection.mode = .once then
    s.onPairing fun p => { p with injection := { p.injection with mode := .off } }
  else s

def countInjected (s : State) : State :=
  s.onPairing fun p => p.onCounters fun c => { c with injectedCopies := c.injectedCopies + 1 }

/-! ### Copies (R123) -/

/-- The queue entry of a copy. -/
def copyEntry (h : Nat) (seqOffset fcsCorrupt : Bool) : QueueEntry :=
  { handle := h, seqOffset := seqOffset, fcsCorrupt := fcsCorrupt }

/-- One uplink's part of R123: the copy withheld for its link or by OMIT, or offered. -/
def placeCopy (port : Option Port) (h : Nat) (cls : TClass) (k : Option InjectKind) (u : Uplink)
    (s : State) : State :=
  if (s.uplink u).linkUp = true then
    match k with
    | none => offerUplink port u (slotClassOf cls) (copyEntry h false false) s
    | some .omit => countInjected (release port h s)
    | some .fcsCorrupt => countInjected (offerUplink port u (slotClassOf cls) (copyEntry h false true) s)
    | some .seqOffset => countInjected (offerUplink port u (slotClassOf cls) (copyEntry h true false) s)
  else
    (release port h s).onPairing fun p =>
      p.onCounters fun c => { c with linkDownCopies := c.linkDownCopies + 1 }

/-- Steps 5 and 6 of R119: injection judged, the count set to 2, U1's part, then U2's. `injectable` is
clear for a reply (R126). -/
def placeCopies (port : Option Port) (h : Nat) (cls : TClass) (injectable : Bool) (s : State) : State :=
  let hit := injectable && injectionMatches s cls
  placeCopy port h cls (injectedKind s hit .u2) .u2
    (placeCopy port h cls (injectedKind s hit .u1) .u1 (setRefs h 2 (spendInjection hit s)))

/-! ### Bay frames and the part's own frames (R119, R120, R125, R126) -/

def anyLinkUp (s : State) : Bool := s.u1.linkUp || s.u2.linkUp

/-- A frame dropped because neither link is UP (R119, R125, R126). -/
def noLinkDrop (h : Nat) (s : State) : State :=
  (freeHandle h s).onPairing fun p => p.onCounters fun c => { c with noLinkDrops := c.noLinkDrops + 1 }

/-- An unpaired bay frame offered to one uplink's General queue (R125). -/
def forwardUnpaired (u : Uplink) (h : Nat) (s : State) : State :=
  (offerUplink (some .b) u .general (copyEntry h false false) (setRefs h 1 s)).onPairing fun p =>
    p.onCounters fun c => { c with unpairedFrames := c.unpairedFrames + 1 }

/-- R125. -/
def unpairedFrame (h : Nat) (s : State) : State :=
  if s.u1.linkUp = true then forwardUnpaired .u1 h s
  else if s.u2.linkUp = true then forwardUnpaired .u2 h s
  else noLinkDrop h s

/-- Steps 1 to 6 of R119 for a bay frame whose sender has been found. -/
def pairSteps (n : Numbering) (h : Nat) (cls : TClass) (paired : Bool) (s : State) : State :=
  if paired = false then unpairedFrame h s
  else if s.loader.part ≠ .run then
    (freeHandle h s).onPairing fun p => p.onCounters fun c => { c with quietDrops := c.quietDrops + 1 }
  else if anyLinkUp s = false then noLinkDrop h s
  else
    placeCopies (some .b) h cls true
      ((stamp n h cls s).onPairing fun p =>
        p.onCounters fun c => { c with pairedFrames := c.pairedFrames + 1 })

/-- The handling of a bay frame by the Pairing Unit (R117, R119). -/
def pairBayFrame (h : Nat) (source : Address) (cls : TClass) (paired : Bool) (s : State) : State :=
  match senderOf cls source s with
  | (n, s') => pairSteps n h cls paired s'

/-- Entry 0 verified before a stamping from it, rebuilt if it fails, its Last Seen written (R116,
R126). -/
def prepareZero (port : Option Port) (cls : TClass) (s : State) : State :=
  match verifyOrigin 0 port (some cls) s with
  | (_, s') => touchOrigin 0 s'

/-- A presence frame or a reply numbered from entry 0 (R126): `port` is absent for a presence frame and
the request's arrival port for a reply. -/
def pairOwnFrame (port : Option Port) (h : Nat) (cls : TClass) (injectable : Bool) (s : State) : State :=
  if anyLinkUp s = false then noLinkDrop h s
  else placeCopies port h cls injectable (stamp (.entry 0) h cls (prepareZero port cls s))

/-! ### The Table Scanner's visit (R127) -/

/-- Whether a LEARNED entry is older than Origin Age. -/
def OriginEntry.aged (e : OriginEntry) (now : Time) (originAge : Nat) : Bool :=
  e.state == .learned && decide (originAge * 1000000 < age now e.lastSeen)

/-- Steps 2 and 3 of R127. -/
def ageOrigin (i : Nat) (s : State) : State :=
  match originOf s i with
  | none => s
  | some e =>
    if e.aged s.stationTime s.settings.originAge then
      (dropOrigin i s).onPairing fun p => p.onCounters fun c => { c with originAged := c.originAged + 1 }
    else putOrigin i { e with lastSeen := holdTime s.stationTime e.lastSeen } s

/-- The visit to an entry (R127). -/
def visitOrigin (i : Nat) (s : State) : State :=
  match verifyOrigin i none none s with
  | (some j, s') => ageOrigin j s'
  | (none, s') => s'

/-- A visit to the entry at the origin cursor, which then advances (R56, R127). -/
def visitOriginCursor (s : State) : State :=
  (visitOrigin s.filter.originCursor.val s).onFilter fun f => { f with originCursor := f.originCursor + 1 }

/-! ### Pins and removal (R128, R129, R131) -/

/-- A pin of an address (R128): the entry that holds it PINNED afterwards, or none where refused. -/
def pinOrigin (port : Option Port) (a : Address) (s : State) : Option Nat × State :=
  match lookupOrigin port none a s with
  | (some i, s') =>
    match originOf s' i with
    | none => (some i, s')
    | some e =>
      if e.state = .learned then
        (some i, (putOrigin i { e with state := .pinned } s').onPairing fun p =>
          { p with originPinned := p.originPinned + 1 })
      else (some i, s')
  | (none, s') =>
    match freeOrigin s' with
    | some i => (some i, createOrigin i .pinned a s')
    | none => (none, s')

def countOriginRemoved (s : State) : State :=
  s.onPairing fun p => p.onCounters fun c => { c with originRemoved := c.originRemoved + 1 }

/-- A removal of an address (R129): the verified match, entry 0 being kept. -/
def removeOrigin (port : Port) (a : Address) (s : State) : Option Nat × State :=
  match lookupOrigin (some port) none a s with
  | (none, s') => (none, s')
  | (some i, s') => (some i, if i = 0 then s' else countOriginRemoved (dropOrigin i s'))

/-- The entries of index 1..63 that hold an address. -/
def othersHolding (s : State) (a : Address) : List Nat :=
  (s.pairing.entries.filter fun p => p.2.addr == a && p.1 != 0).map Prod.fst

/-- Entry 0 created at the end of LOADING; an entry that held its address is freed, uncounted (R114,
R131). -/
def createZero (s : State) : State :=
  (othersHolding s s.loader.stationAddress).foldl (fun s i => dropOrigin i s)
    (createOrigin 0 .pinned s.loader.stationAddress s)

/-- The Overflow counter set up (R118). -/
def setUpOverflow (s : State) : State :=
  s.onPairing fun p =>
    { p with overflowSequence := 0, overflowEpoch := p.epochCounter, epochCounter := p.epochCounter + 1 }

/-- Entry 0 takes a new station address, keeping Epoch and Next Sequence (R131, log 32). -/
def readdressZero (a : Address) (s : State) : State :=
  match originOf s 0 with
  | none => s
  | some e => putOrigin 0 { e with addr := a } s

/-- A RELOAD sets the station address; entry 0 follows a change of it, and an entry that held the new
address is freed and counted (R131). -/
def changeStation (a : Address) (s : State) : State :=
  if s.loader.stationAddress = a then s
  else
    (othersHolding s a).foldl (fun s i => countOriginRemoved (dropOrigin i s))
      (readdressZero a (s.onLoader fun l => { l with stationAddress := a }))

end Sys2Proof.Machine
end

