-- ==== Sys2Proof/Machine/Presence.lean ====
section
/-! DEFINITION. The Presence Unit (05 5.3, 5.5): building presence frames, and the part's own presence frames
seen again. -/

namespace Sys2Proof.Machine

/-- The own-presence state of an uplink. -/
def PresenceUnit.own (p : PresenceUnit) : Uplink → OwnPresence
  | .u1 => p.own1
  | .u2 => p.own2

def PresenceUnit.onOwn (p : PresenceUnit) (u : Uplink) (f : OwnPresence → OwnPresence) : PresenceUnit :=
  match u with
  | .u1 => { p with own1 := f p.own1 }
  | .u2 => { p with own2 := f p.own2 }

/-- The part's own presence frame, sent on uplink `f`, seen on uplink `u` (R105). -/
def ownPresence (u f : Uplink) (s : State) : State :=
  if f = u then
    let s' := s.onPresence fun p => p.onOwn u fun o =>
      { o with loopLastSeen := some s.stationTime, loopRaised := true }
    if (s.presence.own u).loopRaised then s' else raise .loop (pathNumber u) none 0 0 s'
  else
    let s' := s.onPresence fun p => p.onOwn u fun o =>
      { o with joinedLastSeen := some s.stationTime, joinedRaised := true }
    if (s.presence.own u).joinedRaised then s' else raise .networksJoined (pathNumber u) none 0 0 s'

/-- A Raised flag after the re-arm check: cleared where its Last Seen is older than 4 Presence
Intervals (R106). -/
def stillRaised (now : Time) (interval : Nat) (raised : Bool) (seen : Option Time) : Bool :=
  raised && !(seen.any fun t => decide (4 * interval * 1000 < age now t))

def OwnPresence.rearm (o : OwnPresence) (now : Time) (interval : Nat) : OwnPresence :=
  { o with
    joinedRaised := stillRaised now interval o.joinedRaised o.joinedLastSeen
    loopRaised := stillRaised now interval o.loopRaised o.loopLastSeen }

/-- The re-arm check of the four flags (R101 step 1, R106). -/
def rearmOwn (s : State) : State :=
  s.onPresence fun p =>
    { p with
      own1 := p.own1.rearm s.stationTime s.settings.presenceInterval
      own2 := p.own2.rearm s.stationTime s.settings.presenceInterval }

/-- The presence frame as stored (R8). -/
def presenceOctets (s : State) : List Octet :=
  presenceFrame s.settings.presenceGroup s.loader.stationAddress s.settings.presenceMarker (statusCopyOf s)

/-- Steps 3 to 5 of R101. -/
def storePresence (s : State) : State :=
  match admitBuilt (presenceOctets s) .presence s with
  | (none, s') => s'
  | (some h, s') =>
    pairOwnFrame none h .presence true
      (s'.onFilter fun f => f.onCounters fun c => { c with presenceBuilt := c.presenceBuilt + 1 })

/-- One building of a presence frame (R101). -/
def buildPresence (s : State) : State :=
  let s' := rearmOwn s
  if anyLinkUp s' = false then
    s'.onFilter fun f => f.onCounters fun c => { c with presenceSkipped := c.presenceSkipped + 1 }
  else storePresence s'

/-- The presence timer started for the Presence Interval as it stands (R100). -/
def startPresenceTimer (s : State) : State :=
  s.onPresence fun p => { p with timer := some (s.settings.presenceInterval * 1000) }

end Sys2Proof.Machine
end

