-- ==== Sys2Proof/Machine/Operands.lean ====
section
/-! DEFINITION. Operands of the management requests: the settings objects and the judgement of a value (09
9.2), keys and addresses in Values, the items of every readable object, and the Values of replies. -/

namespace Sys2Proof.Machine

/-! ### Coding -/

def boolNat (b : Bool) : Nat := if b then 1 else 0

/-- A number as a Value. -/
def val (n : Nat) : Value := BitVec.ofNat 32 n

def flagVal (b : Bool) : Value := val (boolNat b)

/-- The Value of an absent field (9.2). -/
def absent : Value := 0xFFFFFFFF

def optVal (x : Option Nat) : Value :=
  match x with
  | some n => val n
  | none   => absent

/-- The age of a stored time (9.2). -/
def ageVal (now t : Time) : Value := val (age now t)

def optAge (now : Time) (t : Option Time) : Value := optVal (t.map fun x => age now x)

/-- Address octets 0–1 and octets 2–5 as numbers (9.1). -/
def addrHigh (a : Address) : Nat := a.toNat / 2 ^ 32
def addrLow (a : Address) : Nat := a.toNat % 2 ^ 32

/-- The address of two halves. -/
def joinAddr (high low : Nat) : Address := BitVec.ofNat 48 (high * 2 ^ 32 + low)

def addrVals (a : Address) : List Value := [val (addrHigh a), val (addrLow a)]

def lineAccessCode : LineAccess → Nat
  | .none => 0
  | .read => 1
  | .full => 2

def lineAccessOf : Nat → LineAccess
  | 0 => .none
  | 1 => .read
  | _ => .full

/-! ### Settings objects -/

/-- The kinds of 9.2 and R174. `enumerated n` has the values 0 .. n − 1. -/
inductive SettingKind where
  | numeric (low high : Nat)
  | enumerated (n : Nat)
  | addressHigh
  | addressLow
  deriving DecidableEq, Repr

/-- The settings of the table of 9.2 that are objects of one item. -/
inductive SettingName where
  | jumpLimit | windowHold | twinTimeout | missLimit | stalePolicy | skewLimit | suspectThreshold
  | sourceAge | originAge | presenceInterval | noticeSpacing | epochSeed | intervalGeneral
  | intervalStream | intervalTiming | intervalEvent | residenceGeneral | residenceStream
  | residenceTiming | residenceEvent | generalFloor | streamFloor | generalHandleFloor | pauseOn
  | pauseOff | bayPause | honorPause | pairGeneral | passUntagged | lineAccess | u1Speed | u2Speed
  | tagMarker | managementMarker | presenceMarker | presenceGroupHigh | presenceGroupLow
  | noticeDestinationHigh | noticeDestinationLow
  deriving DecidableEq, Repr

/-- The object numbers (9.2). -/
def SettingName.object : SettingName → Nat
  | .jumpLimit => 0x0101
  | .windowHold => 0x0102
  | .twinTimeout => 0x0103
  | .missLimit => 0x0104
  | .stalePolicy => 0x0105
  | .skewLimit => 0x0106
  | .suspectThreshold => 0x0107
  | .sourceAge => 0x0108
  | .originAge => 0x0109
  | .presenceInterval => 0x010A
  | .noticeSpacing => 0x010B
  | .epochSeed => 0x010C
  | .intervalGeneral => 0x0110
  | .intervalStream => 0x0111
  | .intervalTiming => 0x0112
  | .intervalEvent => 0x0113
  | .residenceGeneral => 0x0114
  | .residenceStream => 0x0115
  | .residenceTiming => 0x0116
  | .residenceEvent => 0x0117
  | .generalFloor => 0x0118
  | .streamFloor => 0x0119
  | .generalHandleFloor => 0x011A
  | .pauseOn => 0x011B
  | .pauseOff => 0x011C
  | .bayPause => 0x0120
  | .honorPause => 0x0121
  | .pairGeneral => 0x0122
  | .passUntagged => 0x0123
  | .lineAccess => 0x0124
  | .u1Speed => 0x0125
  | .u2Speed => 0x0126
  | .tagMarker => 0x0130
  | .managementMarker => 0x0131
  | .presenceMarker => 0x0132
  | .presenceGroupHigh => 0x0138
  | .presenceGroupLow => 0x0139
  | .noticeDestinationHigh => 0x013A
  | .noticeDestinationLow => 0x013B

/-- All of them, in object order. -/
def SettingName.all : List SettingName :=
  [SettingName.jumpLimit, .windowHold, .twinTimeout, .missLimit, .stalePolicy, .skewLimit,
    .suspectThreshold, .sourceAge, .originAge, .presenceInterval, .noticeSpacing, .epochSeed,
    .intervalGeneral, .intervalStream, .intervalTiming, .intervalEvent, .residenceGeneral,
    .residenceStream, .residenceTiming, .residenceEvent, .generalFloor, .streamFloor,
    .generalHandleFloor, .pauseOn, .pauseOff, .bayPause, .honorPause, .pairGeneral,
    .passUntagged, .lineAccess, .u1Speed, .u2Speed, .tagMarker, .managementMarker,
    .presenceMarker, .presenceGroupHigh, .presenceGroupLow, .noticeDestinationHigh,
    .noticeDestinationLow]

/-- The setting of an object number. -/
def SettingName.ofObject (n : Nat) : Option SettingName := SettingName.all.find? fun x => x.object == n

/-- Kinds and ranges (9.2). -/
def SettingName.kind : SettingName → SettingKind
  | .jumpLimit => .numeric 64 32767
  | .windowHold => .numeric 1 65535
  | .twinTimeout => .numeric 1 255
  | .missLimit => .numeric 1 255
  | .stalePolicy => .enumerated 2
  | .skewLimit => .numeric 0 32767
  | .suspectThreshold => .numeric 1 512
  | .sourceAge => .numeric 1 1000
  | .originAge => .numeric 1 1000
  | .presenceInterval => .numeric 10 250
  | .noticeSpacing => .numeric 1 1000
  | .epochSeed => .numeric 0 7
  | .intervalGeneral => .numeric 0 255
  | .intervalStream => .numeric 0 255
  | .intervalTiming => .numeric 0 255
  | .intervalEvent => .numeric 0 255
  | .residenceGeneral => .numeric 0 255
  | .residenceStream => .numeric 0 255
  | .residenceTiming => .numeric 0 255
  | .residenceEvent => .numeric 0 255
  | .generalFloor => .numeric 0 2047
  | .streamFloor => .numeric 0 2047
  | .generalHandleFloor => .numeric 0 1023
  | .pauseOn => .numeric 0 2047
  | .pauseOff => .numeric 0 2047
  | .bayPause => .enumerated 2
  | .honorPause => .enumerated 2
  | .pairGeneral => .enumerated 2
  | .passUntagged => .enumerated 2
  | .lineAccess => .enumerated 3
  | .u1Speed => .enumerated 2
  | .u2Speed => .enumerated 2
  | .tagMarker => .numeric 0x0600 0xFFFF
  | .managementMarker => .numeric 0x0600 0xFFFF
  | .presenceMarker => .numeric 0x0600 0xFFFF
  | .presenceGroupHigh => .addressHigh
  | .presenceGroupLow => .addressLow
  | .noticeDestinationHigh => .addressHigh
  | .noticeDestinationLow => .addressLow

/-- The value a setting holds, as READ and WRITE code it (9.2). -/
def SettingName.get (st : Settings) : SettingName → Nat
  | .jumpLimit => st.jumpLimit
  | .windowHold => st.windowHold
  | .twinTimeout => st.twinTimeout
  | .missLimit => st.missLimit
  | .stalePolicy => boolNat st.stalePass
  | .skewLimit => st.skewLimit
  | .suspectThreshold => st.suspectThreshold
  | .sourceAge => st.sourceAge
  | .originAge => st.originAge
  | .presenceInterval => st.presenceInterval
  | .noticeSpacing => st.noticeSpacing
  | .epochSeed => st.epochSeed
  | .intervalGeneral => st.declaredInterval.general
  | .intervalStream => st.declaredInterval.stream
  | .intervalTiming => st.declaredInterval.timing
  | .intervalEvent => st.declaredInterval.event
  | .residenceGeneral => st.residenceLimit.general
  | .residenceStream => st.residenceLimit.stream
  | .residenceTiming => st.residenceLimit.timing
  | .residenceEvent => st.residenceLimit.event
  | .generalFloor => st.generalFloor
  | .streamFloor => st.streamFloor
  | .generalHandleFloor => st.generalHandleFloor
  | .pauseOn => st.pauseOn
  | .pauseOff => st.pauseOff
  | .bayPause => boolNat st.bayPause
  | .honorPause => boolNat st.honorPause
  | .pairGeneral => boolNat st.pairGeneral
  | .passUntagged => boolNat st.passUntagged
  | .lineAccess => lineAccessCode st.lineAccess
  | .u1Speed => boolNat st.u1Speed1000
  | .u2Speed => boolNat st.u2Speed1000
  | .tagMarker => st.tagMarker.toNat
  | .managementMarker => st.managementMarker.toNat
  | .presenceMarker => st.presenceMarker.toNat
  | .presenceGroupHigh => addrHigh st.presenceGroup
  | .presenceGroupLow => addrLow st.presenceGroup
  | .noticeDestinationHigh => addrHigh st.noticeDestination
  | .noticeDestinationLow => addrLow st.noticeDestination

/-- A setting written with a value in its range (R174). -/
def SettingName.put (st : Settings) (v : Nat) : SettingName → Settings
  | .jumpLimit => { st with jumpLimit := v }
  | .windowHold => { st with windowHold := v }
  | .twinTimeout => { st with twinTimeout := v }
  | .missLimit => { st with missLimit := v }
  | .stalePolicy => { st with stalePass := v == 1 }
  | .skewLimit => { st with skewLimit := v }
  | .suspectThreshold => { st with suspectThreshold := v }
  | .sourceAge => { st with sourceAge := v }
  | .originAge => { st with originAge := v }
  | .presenceInterval => { st with presenceInterval := v }
  | .noticeSpacing => { st with noticeSpacing := v }
  | .epochSeed => { st with epochSeed := v }
  | .intervalGeneral => { st with declaredInterval := { st.declaredInterval with general := v } }
  | .intervalStream => { st with declaredInterval := { st.declaredInterval with stream := v } }
  | .intervalTiming => { st with declaredInterval := { st.declaredInterval with timing := v } }
  | .intervalEvent => { st with declaredInterval := { st.declaredInterval with event := v } }
  | .residenceGeneral => { st with residenceLimit := { st.residenceLimit with general := v } }
  | .residenceStream => { st with residenceLimit := { st.residenceLimit with stream := v } }
  | .residenceTiming => { st with residenceLimit := { st.residenceLimit with timing := v } }
  | .residenceEvent => { st with residenceLimit := { st.residenceLimit with event := v } }
  | .generalFloor => { st with generalFloor := v }
  | .streamFloor => { st with streamFloor := v }
  | .generalHandleFloor => { st with generalHandleFloor := v }
  | .pauseOn => { st with pauseOn := v }
  | .pauseOff => { st with pauseOff := v }
  | .bayPause => { st with bayPause := v == 1 }
  | .honorPause => { st with honorPause := v == 1 }
  | .pairGeneral => { st with pairGeneral := v == 1 }
  | .passUntagged => { st with passUntagged := v == 1 }
  | .lineAccess => { st with lineAccess := lineAccessOf v }
  | .u1Speed => { st with u1Speed1000 := v == 1 }
  | .u2Speed => { st with u2Speed1000 := v == 1 }
  | .tagMarker => { st with tagMarker := BitVec.ofNat 16 v }
  | .managementMarker => { st with managementMarker := BitVec.ofNat 16 v }
  | .presenceMarker => { st with presenceMarker := BitVec.ofNat 16 v }
  | .presenceGroupHigh => { st with presenceGroup := joinAddr v (addrLow st.presenceGroup) }
  | .presenceGroupLow => { st with presenceGroup := joinAddr (addrHigh st.presenceGroup) v }
  | .noticeDestinationHigh => { st with noticeDestination := joinAddr v (addrLow st.noticeDestination) }
  | .noticeDestinationLow => { st with noticeDestination := joinAddr (addrHigh st.noticeDestination) v }

/-- What judging a value finds (R174): the value to write and whether it was clamped, or a refusal. -/
def SettingKind.judge (k : SettingKind) (clamp : Bool) (v : Nat) : Option (Nat × Bool) :=
  match k with
  | .numeric low high =>
    if low ≤ v ∧ v ≤ high then some (v, false)
    else if clamp = true then some (if v < low then low else high, true)
    else none
  | .enumerated n => if v < n then some (v, false) else none
  | .addressHigh => if v < 65536 ∧ (v / 256) % 2 = 1 then some (v, false) else none
  | .addressLow => some (v, false)

/-- Whether WRITE may write a setting: U1 Speed and U2 Speed are set by the image alone (9.2, R174). -/
def SettingName.writable (n : SettingName) : Bool := n != .u1Speed && n != .u2Speed

/-! ### Classifier objects -/

def firstClassifierObject : Nat := 0x0140

/-- The classifier entry of an object number. -/
def classifierOf (object : Nat) : Option Nat :=
  if firstClassifierObject ≤ object ∧ object < firstClassifierObject + 8 then
    some (object - firstClassifierObject)
  else none

/-- The four items of a classifier entry (9.2). -/
def ClassifierEntry.items (c : ClassifierEntry) : List Nat :=
  [c.etherType.toNat, c.mask.toNat, classCode c.cls, boolNat c.paired]

/-- The upper limit of a classifier item (9.2). -/
def classifierLimit : Nat → Nat
  | 0 => 0xFFFF
  | 1 => 0xFF
  | 2 => 3
  | _ => 1

/-- One item of a classifier entry written. -/
def ClassifierEntry.setItem (c : ClassifierEntry) (i v : Nat) : ClassifierEntry :=
  match i with
  | 0 => { c with etherType := BitVec.ofNat 16 v }
  | 1 => { c with mask := BitVec.ofNat 8 v }
  | 2 => { c with cls := (classOf v).getD .general }
  | _ => { c with paired := v == 1 }

/-- Items written from `i` on. -/
def ClassifierEntry.setItems (c : ClassifierEntry) (i : Nat) : List Value → ClassifierEntry
  | [] => c
  | v :: t => (c.setItem i v.toNat).setItems (i + 1) t

/-- Whether Values from item `i` on are each in range (R174). -/
def classifierInRange (i : Nat) : List Value → Bool
  | [] => true
  | v :: t => decide (v.toNat ≤ classifierLimit i) && classifierInRange (i + 1) t

def Settings.classifierEntry (st : Settings) (k : Nat) : ClassifierEntry :=
  st.classifier[k]?.getD ClassifierEntry.disabled

def Settings.setClassifier (st : Settings) (k : Nat) (c : ClassifierEntry) : Settings :=
  { st with classifier := st.classifier.setIfInBounds k c }

/-! ### Keys, addresses and codes in Values (9.1, R10) -/

/-- An address in two Values; the first is out of range where its higher octets are not 0. -/
def addrOf (high low : Value) : Option Address :=
  if high.toNat < 65536 then some (joinAddr high.toNat low.toNat) else none

/-- The address at the front of Values. -/
def addrOfValues : List Value → Option Address
  | high :: low :: _ => addrOf high low
  | _ => none

/-- The key at the front of Values: address, then class 0..4 (9.1, R176). -/
def keyOfValues : List Value → Option (Address × TClass)
  | high :: low :: c :: _ =>
    match addrOf high low, classOf c.toNat with
    | some a, some k => some (a, k)
    | _, _ => none
  | _ => none

/-- Target of INJECT (R178). -/
def targetOf : Nat → Option InjectTarget
  | 1 => some .u1
  | 2 => some .u2
  | 3 => some .both
  | _ => none

def targetCode : InjectTarget → Nat
  | .u1   => 1
  | .u2   => 2
  | .both => 3

/-- Class Filter of INJECT: 0..4, or 0xFF for any (R178). -/
def filterOf (n : Nat) : Option (Option TClass) :=
  if n = 0xFF then some none else (classOf n).map some

def filterCode : Option TClass → Nat
  | none   => 0xFF
  | some c => classCode c

/-- Mode of INJECT (R178). -/
def modeOf : Nat → Option InjectMode
  | 0 => some .off
  | 1 => some .once
  | 2 => some .continuous
  | _ => none

def modeCode : InjectMode → Nat
  | .off        => 0
  | .once       => 1
  | .continuous => 2

/-- Kind of INJECT (R178). -/
def kindOf : Nat → Option InjectKind
  | 0 => some .omit
  | 1 => some .fcsCorrupt
  | 2 => some .seqOffset
  | _ => none

def kindCode : InjectKind → Nat
  | .omit       => 0
  | .fcsCorrupt => 1
  | .seqOffset  => 2

/-- The Injection Control four Values write (R178). -/
def injectionOf : List Value → Option Injection
  | [t, c, m, k] =>
    match targetOf t.toNat, filterOf c.toNat, modeOf m.toNat, kindOf k.toNat with
    | some t, some c, some m, some k => some { target := t, filter := c, mode := m, kind := k }
    | _, _, _, _ => none
  | _ => none

/-- Slot counts of three Values whose sum is at most 64 (R142). -/
def slotCountsOf : List Value → Option SlotCounts
  | [e, t, s] =>
    if e.toNat + t.toNat + s.toNat ≤ 64 then
      some { event := e.toNat, timing := t.toNat, stream := s.toNat }
    else none
  | _ => none

/-! ### Read-only objects (9.2) -/

/-- Object 0x0001. -/
def partItems (s : State) : List Value :=
  [val (partCode s.loader.part), s.stationTime] ++ addrVals s.loader.stationAddress ++
    [val (imageCode s.loader.imageStatus), val s.loader.recordsSkipped.toNat]

/-- Objects 0x0010 to 0x0012. -/
def portItems (c : PortCounters) : List Value :=
  [c.framesReceived, c.fcsErrors, c.lengthErrors, c.bayTagged, c.pauseReceived, c.pauseDiscards,
    c.tagErrors, c.pathMismatch, c.ownPresence, c.ownOrigin, c.stationDiscards, c.untaggedDiscards,
    c.managementDiscards, c.intakeDrops.general, c.intakeDrops.stream, c.intakeDrops.timing,
    c.intakeDrops.event, c.intakeDrops.presence, c.pausesSent, c.framesSent, c.transmitAborts,
    c.pauseHolds, c.linkDowns]

/-- Object 0x0020. -/
def filterCounterItems (c : FilterCounters) : List Value :=
  [c.entriesCreated, c.replaced, c.agedOut, c.removed, c.path1Accepted, c.path2Accepted,
    c.path1Discarded, c.path2Discarded, c.stalePassed, c.staleEpochs, c.windowExpiries,
    c.twinOverflows, c.twinSlides, c.twinTimeouts, c.skewClamps, c.pathsLost, c.pathsRestored,
    c.bodyErrors, c.presenceBuilt, c.presenceSkipped]

/-- Object 0x0021. -/
def filterLevelItems (s : State) : List Value :=
  [val s.filter.entriesInUse, val s.filter.pinnedInUse, val s.filter.single1, val s.filter.single2,
    flagVal s.filter.suspect1, flagVal s.filter.suspect2, flagVal s.presence.own1.joinedRaised,
    flagVal s.presence.own2.joinedRaised, flagVal s.presence.own1.loopRaised,
    flagVal s.presence.own2.loopRaised, val s.filter.bucketCursor.val, val s.filter.originCursor.val]

/-- Object 0x0030: R137's order. -/
def pairingCounterItems (c : PairingCounters) : List Value :=
  [c.pairedFrames, c.proxyOverflow, c.unpairedFrames, c.quietDrops, c.linkDownCopies, c.noLinkDrops,
    c.originLearned, c.originAged, c.originRemoved, c.injectedCopies]

/-- Object 0x0031. -/
def pairingStateItems (p : Pairing) : List Value :=
  [val p.originInUse, val p.originPinned, val p.epochCounter.toNat, val p.overflowSequence.toNat,
    val p.overflowEpoch.toNat, val (targetCode p.injection.target), val (filterCode p.injection.filter),
    val (modeCode p.injection.mode), val (kindCode p.injection.kind)]

/-- Objects 0x0040 and 0x0041. DESIGN CHOICE (log 42): R159 names the transmit-in-progress record among the
levels that READ returns, and the object table of 9.2 has no item for it; the items are the table's. -/
def uplinkItems (e : UplinkEgress) : List Value :=
  [flagVal e.linkUp, flagVal e.applyPending, val e.activeCounts.event, val e.activeCounts.timing,
    val e.activeCounts.stream, val e.stagedCounts.event, val e.stagedCounts.timing,
    val e.stagedCounts.stream, val e.cursor.val, val e.event.entries.length,
    val e.timing.entries.length, val e.stream.entries.length, val e.general.entries.length,
    flagVal e.event.overflow, flagVal e.timing.overflow, flagVal e.stream.overflow,
    flagVal e.general.overflow, e.event.drops, e.timing.drops, e.stream.drops, e.general.drops,
    e.event.residenceDrops, e.timing.residenceDrops, e.stream.residenceDrops, e.general.residenceDrops,
    e.flushDrops, e.fallThroughStarts]

/-- The time left on the received-pause timer, in µs: rounding, and what a stopped timer reads as, are
free (log 22). -/
def timeLeftVal (t : Timer) : Value :=
  match t with
  | none => Config.stoppedTimerReads
  | some ns =>
    if ns % 1000 = 0 then val (ns / 1000)
    else if Config.roundsUp ns = true then val (ns / 1000 + 1)
    else val (ns / 1000)

/-- Object 0x0042. As in 0x0040, there is no item for the transmit-in-progress record (DESIGN CHOICE, log
42). -/
def bayItems (b : BayEgress) : List Value :=
  [val b.event.entries.length, val b.service.entries.length, val b.timing.entries.length,
    val b.stream.entries.length, val b.general.entries.length, flagVal b.event.overflow,
    flagVal b.service.overflow, flagVal b.timing.overflow, flagVal b.stream.overflow,
    flagVal b.general.overflow, b.event.drops, b.service.drops, b.timing.drops, b.stream.drops,
    b.general.drops, b.event.residenceDrops, b.timing.residenceDrops, b.stream.residenceDrops,
    flagVal b.held, timeLeftVal b.pauseTimer]

/-- Object 0x0050. -/
def storeItems (s : State) : List Value :=
  [val (freeBlocks s), val (freeHandles s), val (quarantinedHandles s), val (quarantinedBlocks s),
    s.store.quarantineDrops, s.store.internalDrops, flagVal s.pause.asserted]

/-- The five items of a fault record (object 0x0060, FAULT-ACK): its Time is a Station Time, an absent
Port 0 and an absent Class 0xFF. -/
def recordVals (r : FaultRecord) : List Value :=
  [val (faultCode r.kind), r.time, val r.location,
    val (match r.port with
      | some p => portNumber p
      | none => 0),
    val (classOctet r.cls).toNat]

/-- The items of a record or of an empty one: Kind 0, absent fields (log 23). -/
def optRecordVals : Option FaultRecord → List Value
  | some r => recordVals r
  | none => [val 0, absent, absent, val 0, val 0xFF]

/-- Object 0x0060. -/
def faultItems (f : FaultUnit) : List Value :=
  optRecordVals f.primary ++ optRecordVals f.held ++
    [val f.excess.toNat, val f.selfResets.toNat, f.counts.entryCheck, f.counts.originCheck,
      f.counts.blockCheck, f.counts.handleCheck, f.counts.imageCheck]

/-- Object 0x0070. -/
def noticeItems (n : Notices) : List Value :=
  [val n.records.length, val n.dropped.toNat, n.noticesSent, n.eventsQueued, n.eventsLost,
    n.noticeRefusals, n.repliesBuilt]

/-- The read-only objects (9.2). -/
def readOnlyItems (s : State) (object : Nat) : Option (List Value) :=
  if object = 0x0001 then some (partItems s)
  else if object = 0x0010 then some (portItems s.portB)
  else if object = 0x0011 then some (portItems s.portU1)
  else if object = 0x0012 then some (portItems s.portU2)
  else if object = 0x0020 then some (filterCounterItems s.filter.counters)
  else if object = 0x0021 then some (filterLevelItems s)
  else if object = 0x0030 then some (pairingCounterItems s.pairing.counters)
  else if object = 0x0031 then some (pairingStateItems s.pairing)
  else if object = 0x0040 then some (uplinkItems s.u1)
  else if object = 0x0041 then some (uplinkItems s.u2)
  else if object = 0x0042 then some (bayItems s.bay)
  else if object = 0x0050 then some (storeItems s)
  else if object = 0x0060 then some (faultItems s.faults)
  else if object = 0x0070 then some (noticeItems s.notices)
  else none

/-- The items of an object of either table (9.2, R173); none where there is no such object. -/
def objectItems (s : State) (object : Nat) : Option (List Value) :=
  match SettingName.ofObject object with
  | some n => some [val (n.get s.settings)]
  | none =>
    match classifierOf object with
    | some k => some ((s.settings.classifierEntry k).items.map val)
    | none => readOnlyItems s object

/-! ### Table entries in replies (R176, R177) -/

def pathStateCode : PathState → Nat
  | .unseen  => 0
  | .present => 1
  | .lost    => 2

def entryStateCode : EntryState → Nat
  | .active => 1
  | .pinned => 2

/-- The Value of a Skew Average: 32-bit two's complement, 0x80000000 where absent (9.2, R176). -/
def skewVal (x : Option Int) : Value :=
  match x with
  | some a => BitVec.ofInt 32 a
  | none   => 0x80000000

/-- Part A of an entry (R176): 32 Values. -/
def entryPartA (e : Entry) (now : Time) : List Value :=
  [val (entryStateCode e.state)] ++ addrVals e.addr ++
  [val (classCode e.cls), val e.health,
    optVal (e.window.map fun w => w.head.toNat),
    optVal (e.window.map fun w => (w.seen.extractLsb' 0 32).toNat),
    optVal (e.window.map fun w => (w.seen.extractLsb' 32 32).toNat),
    optVal (e.window.map fun w => w.epoch.toNat),
    optVal ((e.window.bind fun w => w.prevEpoch).map fun p => p.toNat),
    optAge now (e.window.map fun w => w.lastAccept),
    val e.declaredInterval.toNat,
    val (pathStateCode e.path1.state), val (pathStateCode e.path2.state),
    optAge now e.path1.lastArrival, optAge now e.path2.lastArrival,
    val e.path1.missRun.toNat, val e.path2.missRun.toNat,
    val e.path1.missing.toNat, val e.path2.missing.toNat,
    skewVal e.skewAverage, val e.sampleCount.toNat, flagVal e.skewAlarm,
    optVal (e.silence.map fun l => l.limit.toNat), optVal (e.silence.map fun l => boolNat l.silent),
    val e.accepted.toNat, val e.repeats.toNat, val e.late.toNat, val e.stale.toNat,
    val e.resync.toNat, val e.samePath.toNat, val e.unmatched.toNat]

/-- The three Values of a twin record. -/
def twinVals (now : Time) (t : Twin) : List Value :=
  [val t.seq.toNat, val (pathNumber t.firstPath), ageVal now t.firstTime]

/-- Four twin records, oldest first, the missing ones absent (R176). -/
def twinListVals (now : Time) (ts : List Twin) : List Value :=
  (ts.take 4).flatMap (twinVals now) ++ List.replicate (3 * (4 - (ts.take 4).length)) absent

/-- Peer Status as two Values (R176). -/
def peerVals (p : Option (BitVec 64)) : List Value :=
  match p with
  | some v => [v.extractLsb' 32 32, v.extractLsb' 0 32]
  | none   => [absent, absent]

/-- Part B of an entry (R176): 21 Values. -/
def entryPartB (e : Entry) (now : Time) : List Value :=
  [val (entryStateCode e.state)] ++ addrVals e.addr ++
    [val (classCode e.cls), val e.twins.length] ++ twinListVals now e.twins ++ peerVals e.peerStatus ++
    [ageVal now e.created, ageVal now e.lastUse]

def originStateCode : OriginState → Nat
  | .learned => 1
  | .pinned  => 2

/-- The ten Values of an Origin entry (R177). -/
def originVals (e : OriginEntry) (now : Time) : List Value :=
  [val (originStateCode e.state)] ++ addrVals e.addr ++
    [val e.epoch.toNat, val e.next.general.toNat, val e.next.stream.toNat, val e.next.timing.toNat,
      val e.next.event.toNat, val e.next.presence.toNat, ageVal now e.lastSeen]

end Sys2Proof.Machine
end

