-- ==== Sys2Proof/Machine/FaultUnit.lean ====
section
/-! DEFINITION. Chip reset and engine reset as each block's chapter gives them (R152, R164, R185, R191), and the
Fault Unit (chapter 8). -/

namespace Sys2Proof.Machine

/-! ### Transmissions cut off -/

/-- What an uplink has sent once the frame in transmission has ended with a bad FCS (R5, R152). -/
def UplinkEgress.sentAborted (e : UplinkEgress) (uses : Nat) : List (List Octet) :=
  match e.tx with
  | none => e.sent
  | some t => e.sent ++ [abortedOctets t.wire.octets (octetsOut t.wire uses)]

/-- The octets of a cut-off transmission without a completing FCS (R185). -/
def UplinkEgress.sentCut (e : UplinkEgress) (uses : Nat) : List (List Octet) :=
  match e.tx with
  | none => e.sent
  | some t => e.sent ++ [t.wire.octets.take (octetsOut t.wire uses)]

/-- What B is putting on the wire. -/
def BayTx.wire : BayTx → OnWire
  | .frame _ w => w
  | .pause _ w => w

/-- As `UplinkEgress.sentAborted`, for B; a pause frame is abandoned with the others (R34). -/
def BayEgress.sentAborted (b : BayEgress) (uses : Nat) : List (List Octet) :=
  match b.tx with
  | none => b.sent
  | some t => b.sent ++ [abortedOctets t.wire.octets (octetsOut t.wire uses)]

def BayEgress.sentCut (b : BayEgress) (uses : Nat) : List (List Octet) :=
  match b.tx with
  | none => b.sent
  | some t => b.sent ++ [t.wire.octets.take (octetsOut t.wire uses)]

/-! ### Resets -/

/-- Chip reset, RESET_N low (R185): every block in its state after chip reset. The PHYs and what has left
the ports are outside the part. -/
def chipReset (s : State) : State :=
  { State.reset with
    u1 := { UplinkEgress.reset with phy := s.u1.phy, sent := s.u1.sentCut s.freeUses }
    u2 := { UplinkEgress.reset with phy := s.u2.phy, sent := s.u2.sentCut (s.freeUses + 1) }
    bay := { State.reset.bay with sent := s.bay.sentCut (s.freeUses + 2) }
    freeUses := s.freeUses + 3
    pending := s.pending }

/-- The Loader after engine reset (chapter 10, opening): straps, image status and station address are
kept. -/
def Loader.engineReset (l : Loader) : Loader :=
  { l with
    part := .loading, quietTimer := none, reloadRunning := false, recordsSkipped := 0, ready := false }

/-- Engine reset (R191): every block in its state after engine reset; the Fault Unit (R164) and Station
Time are kept, fault reports in flight are lost (R163). -/
def engineReset (s : State) : State :=
  { State.reset with
    resetN := s.resetN
    stationTime := s.stationTime
    loader := s.loader.engineReset
    settings := Settings.defaults s.loader.straps classifierAfterReset
    u1 := { UplinkEgress.reset with phy := s.u1.phy, sent := s.u1.sentAborted s.freeUses }
    u2 := { UplinkEgress.reset with phy := s.u2.phy, sent := s.u2.sentAborted (s.freeUses + 1) }
    bay := { State.reset.bay with sent := s.bay.sentAborted (s.freeUses + 2) }
    faults := s.faults
    freeUses := s.freeUses + 3
    pending := s.pending }

/-- The release from chip reset (R185, R186): straps latched, Station Time 0, LOADING. -/
def releaseReset (straps : Straps) (s : State) : State :=
  { s with
    resetN := true
    stationTime := 0
    loader :=
      { s.loader with
        straps := straps, part := .loading, ready := false,
        stationAddress := defaultStationAddress straps }
    settings := Settings.defaults straps classifierAfterReset }

/-! ### Capture (R160 to R163) -/

/-- Fault Count of a kind incremented (R161). -/
def FaultCounts.inc (c : FaultCounts) : FaultKind → FaultCounts
  | .entryCheck  => { c with entryCheck := c.entryCheck + 1 }
  | .originCheck => { c with originCheck := c.originCheck + 1 }
  | .blockCheck  => { c with blockCheck := c.blockCheck + 1 }
  | .handleCheck => { c with handleCheck := c.handleCheck + 1 }
  | .imageCheck  => { c with imageCheck := c.imageCheck + 1 }

/-- HANDLE-CHECK alone is severe (8.1). -/
def severe (k : FaultKind) : Bool := k == .handleCheck

/-- The record of a report taken now (R160). -/
def recordOf (r : FaultReport) (now : Time) : FaultRecord :=
  { kind := r.kind, time := now, location := r.location, port := r.port, cls := r.cls }

/-- The FAULT event of a report (R162, R13). -/
def raiseFault (r : FaultReport) (s : State) : State :=
  raise .fault
    (match r.port with
      | some p => portNumber p
      | none => 0)
    r.cls (faultCode r.kind * 65536 + r.location) 0 s

/-- The three ways of capture (R162). -/
def captureReport (r : FaultReport) (s : State) : State :=
  let s' := s.onFaults fun f => { f with counts := f.counts.inc r.kind }
  match s.faults.primary, s.faults.held with
  | none, _ =>
    raiseFault r (s'.onFaults fun f =>
      { f with primary := some (recordOf r s.stationTime), faultPin := true })
  | some _, none =>
    raiseFault r (s'.onFaults fun f => { f with held := some (recordOf r s.stationTime) })
  | some _, some _ => s'.onFaults fun f => { f with excess := satInc f.excess }

/-- Escalation after a capture (R163). -/
def escalate (s : State) : State :=
  engineReset (s.onFaults fun f => { f with selfResets := satInc f.selfResets, resetAnnounce := true })

/-- The Fault Unit takes a report: capture, then escalation where it is severe and Primary was occupied
(R162, R163). -/
def takeReport (r : FaultReport) (s : State) : State :=
  if severe r.kind = true ∧ s.faults.primary.isSome = true then escalate (captureReport r s)
  else captureReport r s

/-- Acknowledgement (R167): the record discarded, if Primary was occupied. -/
def acknowledge (s : State) : Option FaultRecord × State :=
  match s.faults.primary, s.faults.held with
  | none, _ => (none, s)
  | some p, some h => (some p, s.onFaults fun f => { f with primary := some h, held := none })
  | some p, none =>
    (some p, s.onFaults fun f => { f with primary := none, excess := 0, faultPin := false })

end Sys2Proof.Machine
end

