-- ==== Sys2Proof/Machine/Agent.lean ====
section
/-! DEFINITION. The Management Agent (chapter 9): judging a request, the meaning of each request kind, replies,
notices, and the actions a written setting starts. -/

namespace Sys2Proof.Machine

/-! ### Notices (R183) -/

/-- The notice frame of the oldest records (R12). -/
def noticeOctets (s : State) : List Octet :=
  noticeFrame s.settings.noticeDestination s.loader.stationAddress s.settings.managementMarker
    s.notices.dropped (s.notices.records.take 8)

/-- Step 4 of R183. -/
def startNoticeTimer (s : State) : State :=
  s.onNotices fun n => { n with timer := some (s.settings.noticeSpacing * 1000) }

/-- Steps 2 and 3 of R183, the frame stored in handle `h`. -/
def offerNotice (h : Nat) (s : State) : State :=
  match offerBay (some .b) .service h (setRefs h 1 s) with
  | (true, s') =>
    s'.onNotices fun n =>
      { n with records := n.records.drop 8, dropped := 0, noticesSent := n.noticesSent + 1 }
  | (false, s') => s'.onNotices fun n => { n with noticeRefusals := n.noticeRefusals + 1 }

/-- A send attempt (R183). -/
def sendAttempt (s : State) : State :=
  match admitBuilt (noticeOctets s) .general s with
  | (none, s') => startNoticeTimer s'
  | (some h, s') => startNoticeTimer (offerNotice h s')

/-- The test for a send attempt (R183). -/
def noticeTest (s : State) : State :=
  if s.serving = true ∧ s.notices.timer = none ∧ s.notices.records ≠ [] then sendAttempt s else s

/-- What is tested for at the end of a handling: the choices of R145 on U1 and U2, the send attempt of
R183, and the choice of R154 (log 14). -/
def finish (s : State) : State :=
  bayChoice (noticeTest (uplinkChoice .u2 (uplinkChoice .u1 s)))

/-! ### Actions of written settings (R175) -/

/-- Both networks judged, Network 2 first (R98, log 18). -/
def judgeNetworks (s : State) : State := judgeNetwork .u1 (judgeNetwork .u2 s)

/-- Bay Pause, Pause On or Pause Off written (R33, R34). -/
def pauseSettingWritten (s : State) : State :=
  if s.settings.bayPause = true then pauseTest s
  else if s.pause.asserted = true then releasePause s
  else s

/-- Honor Pause written (R157). -/
def honorPauseWritten (s : State) : State := if s.settings.honorPause = true then s else endHold s

/-- Epoch Seed written (R115). -/
def epochSeedWritten (s : State) : State :=
  s.onPairing fun p => { p with epochCounter := BitVec.ofNat 3 s.settings.epochSeed }

/-- The action a written setting starts (R175). -/
def settingAction (n : SettingName) (s : State) : State :=
  match n with
  | .suspectThreshold => judgeNetworks s
  | .bayPause | .pauseOn | .pauseOff => pauseSettingWritten s
  | .honorPause => honorPauseWritten s
  | .epochSeed => epochSeedWritten s
  | _ => s

/-- The actions of R175 for a store written whole (R188, R189, R192), in the order of its table
(log 27). -/
def allActions (s : State) : State :=
  epochSeedWritten (honorPauseWritten (pauseSettingWritten (judgeNetworks s)))

/-! ### Answers -/

/-- What a request is answered with; `none` in the place of an Answer is no reply. -/
structure Answer where
  status : Status
  index  : BitVec 16
  values : List Value
  deriving DecidableEq, Repr

/-- A refusal carries the request's Index and no Values (R11). -/
def refuse (r : Request) (st : Status) : Answer := { status := st, index := r.index, values := [] }

/-- An OK that echoes Index and carries Values. -/
def okValues (r : Request) (vs : List Value) : Answer := { status := .ok, index := r.index, values := vs }

/-- An OK that carries an entry's index. -/
def okIndex (i : Nat) (vs : List Value) : Answer :=
  { status := .ok, index := BitVec.ofNat 16 i, values := vs }

/-- Steps 4 and 5 of R170: the Object, then Count and Index, then the meaning. -/
def shaped (r : Request) (objectOk shapeOk : Bool) (s : State) (go : State × Option Answer) :
    State × Option Answer :=
  if objectOk = false then (s, some (refuse r .badObject))
  else if shapeOk = false then (s, some (refuse r .badRequest))
  else go

/-- The clamp flag (R10). -/
def clampFlag (r : Request) : Bool := r.flags.getLsbD 0

/-- The Values the request carries: the first Count of those in its frame. -/
def carried (r : Request) : List Value := r.values.take r.count.toNat

/-! ### READ and WRITE -/

/-- READ (R173). -/
def serveRead (r : Request) (s : State) : State × Option Answer :=
  match objectItems s r.object.toNat with
  | none => (s, some (refuse r .badObject))
  | some items =>
    if r.count = 0 then (s, some (refuse r .badRequest))
    else if items.length < r.index.toNat + r.count.toNat then (s, some (refuse r .outOfRange))
    else (s, some (okValues r ((items.drop r.index.toNat).take r.count.toNat)))

/-- WRITE of a setting object (R174, R175). -/
def writeSetting (n : SettingName) (r : Request) (s : State) : State × Option Answer :=
  match n.kind.judge (clampFlag r) ((carried r).headD 0).toNat with
  | none => (s, some (refuse r .outOfRange))
  | some (v, clamped) =>
    (settingAction n (s.onSettings fun st => n.put st v),
      some
        { status := if clamped then .okClamped else .ok
          index := r.index
          values := [val (n.get (n.put s.settings v))] })

/-- WRITE of a classifier entry (R174). -/
def writeClassifier (k : Nat) (r : Request) (s : State) : State × Option Answer :=
  if classifierInRange r.index.toNat (carried r) then
    (s.onSettings fun st =>
        st.setClassifier k ((st.classifierEntry k).setItems r.index.toNat (carried r)),
      some (okValues r (((((s.settings.classifierEntry k).setItems r.index.toNat (carried r)).items.map
        val).drop r.index.toNat).take r.count.toNat)))
  else (s, some (refuse r .outOfRange))

/-- WRITE (R174). A Count of 0 on a classifier entry is free (log 20). -/
def serveWrite (r : Request) (s : State) : State × Option Answer :=
  match SettingName.ofObject r.object.toNat with
  | some n =>
    shaped r n.writable (r.index == 0 && r.count == 1) s (writeSetting n r s)
  | none =>
    match classifierOf r.object.toNat with
    | none => (s, some (refuse r .badObject))
    | some k =>
      shaped r true
        (decide (r.index.toNat + r.count.toNat ≤ 4) &&
          (r.count != 0 || Config.classifierWriteOfNothing)) s (writeClassifier k r s)

/-! ### Source Table requests (R176) -/

/-- The part of an entry that ENTRY-READ asks for. -/
def entryPart (r : Request) (e : Entry) (now : Time) : List Value :=
  if r.object = 0 then entryPartA e now else entryPartB e now

/-- ENTRY-READ by index (R55). -/
def readEntryAt (r : Request) (s : State) : State × Option Answer :=
  if 511 < r.index.toNat then (s, some (refuse r .outOfRange))
  else
    match entryOf s r.index.toNat with
    | none => (s, some (okValues r [0]))
    | some e =>
      if e.check = 0 then (s, some (okValues r (entryPart r e s.stationTime)))
      else (entryCheckFails r.index.toNat (some r.port) none s, some (okValues r [0]))

/-- ENTRY-READ by key (R55). -/
def readEntryOf (r : Request) (s : State) : State × Option Answer :=
  match keyOfValues (carried r) with
  | none => (s, some (refuse r .outOfRange))
  | some (a, c) =>
    match lookupKey (some r.port) a c s with
    | (none, s') => (s', some (refuse r .notFound))
    | (some i, s') =>
      match entryOf s' i with
      | none => (s', some (refuse r .notFound))
      | some e => (s', some (okIndex i (entryPart r e s'.stationTime)))

/-- ENTRY-READ (R55, R176). DESIGN CHOICE (log 43): a read by key does not judge its Index, so that one above
511 is served; R176 refuses "an ENTRY-READ Index above 511" and does not say whether of a read by key too. -/
def serveEntryRead (r : Request) (s : State) : State × Option Answer :=
  shaped r (r.object == 0 || r.object == 1) (r.count == 0 || r.count == 3) s
    (if r.count = 0 then readEntryAt r s else readEntryOf r s)

/-- The Silence Limit a pin carries: none is 0 (R176). -/
def pinLimit (r : Request) : Nat := if r.count = 4 then ((carried r).getD 3 0).toNat else 0

/-- ENTRY-PIN (R48 to R50, R176). DESIGN CHOICE (log 45): the Values are judged ahead of the lookup, so that a
Silence Limit refused is OUT-OF-RANGE and touches no entry also where the pin would find its bucket full. -/
def serveEntryPin (r : Request) (s : State) : State × Option Answer :=
  shaped r (r.object == 0) (r.count == 3 || r.count == 4) s
    (match keyOfValues (carried r), (SettingKind.numeric 0 65535).judge (clampFlag r) (pinLimit r) with
      | some (a, c), some (limit, clamped) =>
        match pinKey (some r.port) a c limit s with
        | (none, s') => (s', some (refuse r .tableFull))
        | (some i, s') =>
          (s', some { okIndex i [] with status := if clamped then .okClamped else .ok })
      | _, _ => (s, some (refuse r .outOfRange)))

/-- ENTRY-UNPIN (R52, R176). -/
def serveEntryUnpin (r : Request) (s : State) : State × Option Answer :=
  shaped r (r.object == 0) (r.count == 3) s
    (match keyOfValues (carried r) with
      | none => (s, some (refuse r .outOfRange))
      | some (a, c) =>
        match unpinKey r.port a c s with
        | (none, s') => (s', some (refuse r .notFound))
        | (some i, s') => (s', some (okIndex i [])))

/-- ENTRY-REMOVE (R53, R176). -/
def serveEntryRemove (r : Request) (s : State) : State × Option Answer :=
  shaped r (r.object == 0) (r.count == 3) s
    (match keyOfValues (carried r) with
      | none => (s, some (refuse r .outOfRange))
      | some (a, c) =>
        match removeKey r.port a c s with
        | (none, s') => (s', some (refuse r .notFound))
        | (some i, s') => (s', some (okIndex i [])))

/-! ### Origin Table requests (R177) -/

/-- An Origin entry as ORIGIN-READ returns it (R177). -/
def originReply (i : Nat) (s : State) : Answer :=
  match originOf s i with
  | none => okIndex i [0]
  | some e => okIndex i (originVals e s.stationTime)

/-- ORIGIN-READ by index (R130). -/
def readOriginAt (r : Request) (s : State) : State × Option Answer :=
  if 63 < r.index.toNat then (s, some (refuse r .outOfRange))
  else
    match verifyOrigin r.index.toNat (some r.port) none s with
    | (_, s') => (s', some (originReply r.index.toNat s'))

/-- ORIGIN-READ by address (R130). -/
def readOriginOf (r : Request) (s : State) : State × Option Answer :=
  match addrOfValues (carried r) with
  | none => (s, some (refuse r .outOfRange))
  | some a =>
    match lookupOrigin (some r.port) none a s with
    | (none, s') => (s', some (refuse r .notFound))
    | (some i, s') => (s', some (originReply i s'))

/-- ORIGIN-READ (R130, R177). A read by address does not judge its Index (DESIGN CHOICE, log 43). -/
def serveOriginRead (r : Request) (s : State) : State × Option Answer :=
  shaped r (r.object == 0) (r.count == 0 || r.count == 2) s
    (if r.count = 0 then readOriginAt r s else readOriginOf r s)

/-- ORIGIN-PIN (R128, R177). -/
def serveOriginPin (r : Request) (s : State) : State × Option Answer :=
  shaped r (r.object == 0) (r.count == 2) s
    (match addrOfValues (carried r) with
      | none => (s, some (refuse r .outOfRange))
      | some a =>
        match pinOrigin (some r.port) a s with
        | (none, s') => (s', some (refuse r .tableFull))
        | (some i, s') => (s', some (okIndex i [])))

/-- ORIGIN-REMOVE (R129, R177). -/
def serveOriginRemove (r : Request) (s : State) : State × Option Answer :=
  shaped r (r.object == 0) (r.count == 2) s
    (match addrOfValues (carried r) with
      | none => (s, some (refuse r .outOfRange))
      | some a =>
        match removeOrigin r.port a s with
        | (none, s') => (s', some (refuse r .notFound))
        | (some i, s') =>
          if i = 0 then (s', some (refuse r .denied)) else (s', some (okIndex i [])))

/-! ### Egress, injection and fault requests (R178) -/

/-- The staged counts of an uplink written and its staged map built (R142). -/
def stageSlots (u : Uplink) (c : SlotCounts) (s : State) : State :=
  s.onUplink u fun e => { e with stagedCounts := c, stagedMap := buildMap c }

/-- SLOT-STAGE (R142, R178). DESIGN CHOICE (log 44): with Apply Pending set and counts whose sum is above 64,
where R142 and R178 give both NOT-NOW and OUT-OF-RANGE and no order, the answer is NOT-NOW. -/
def serveSlotStage (r : Request) (s : State) : State × Option Answer :=
  shaped r (r.object == 0) (r.count == 3) s
    (match uplinkOf r.index.toNat with
      | none => (s, some (refuse r .outOfRange))
      | some u =>
        if (s.uplink u).applyPending = true then (s, some (refuse r .notNow))
        else
          match slotCountsOf (carried r) with
          | none => (s, some (refuse r .outOfRange))
          | some c => (stageSlots u c s, some (okValues r [])))

/-- SLOT-APPLY (R143, R178). -/
def serveSlotApply (r : Request) (s : State) : State × Option Answer :=
  shaped r (r.object == 0) (r.count == 0) s
    (match uplinkOf r.index.toNat with
      | none => (s, some (refuse r .outOfRange))
      | some u => (s.onUplink u fun e => { e with applyPending := true }, some (okValues r [])))

/-- INJECT (R132, R178). -/
def serveInject (r : Request) (s : State) : State × Option Answer :=
  shaped r (r.object == 0) (r.index == 0 && r.count == 4) s
    (match injectionOf (carried r) with
      | none => (s, some (refuse r .outOfRange))
      | some j => (s.onPairing fun p => { p with injection := j }, some (okValues r [])))

/-- FAULT-ACK (R167, R178): it reads no Object and no Index, so none is refused (log 19); its Count is
judged (R170, R178). -/
def serveFaultAck (r : Request) (s : State) : State × Option Answer :=
  shaped r true (r.count == 0) s
    (match acknowledge s with
      | (none, s') => (s', some (refuse r .notFound))
      | (some p, s') => (s', some (okValues r (recordVals p))))

/-! ### CLEAR-COUNTERS (R179) -/

/-- The queue counters and sticky flag cleared, the entries kept. -/
def Queue.clear (q : Queue) : Queue := { q with drops := 0, overflow := false, residenceDrops := 0 }

def UplinkEgress.clear (e : UplinkEgress) : UplinkEgress :=
  { e with
    event := e.event.clear, timing := e.timing.clear, stream := e.stream.clear,
    general := e.general.clear, flushDrops := 0, fallThroughStarts := 0 }

def BayEgress.clear (b : BayEgress) : BayEgress :=
  { b with
    event := b.event.clear, service := b.service.clear, timing := b.timing.clear,
    stream := b.stream.clear, general := b.general.clear }

/-- Group PORT. -/
def clearPorts (s : State) : State :=
  { s with portU1 := PortCounters.zero, portU2 := PortCounters.zero, portB := PortCounters.zero }

/-- Group QUEUE. -/
def clearQueues (s : State) : State :=
  { s with
    u1 := s.u1.clear
    u2 := s.u2.clear
    bay := s.bay.clear
    store := { s.store with quarantineDrops := 0, internalDrops := 0 } }

/-- Group FILTER (R62, R87, R111). -/
def clearFilter (s : State) : State :=
  s.onFilter fun f =>
    { f with entries := Tbl.mapAll Entry.clearCounts f.entries, counters := FilterCounters.zero }

/-- Group ORIGIN. -/
def clearOrigin (s : State) : State := s.onPairing fun p => { p with counters := PairingCounters.zero }

/-- Group NOTICE. -/
def clearNotices (s : State) : State :=
  s.onNotices fun n =>
    { n with noticesSent := 0, eventsQueued := 0, eventsLost := 0, noticeRefusals := 0, repliesBuilt := 0 }

/-- The clear of a group number (R179). -/
def clearGroup (g : Nat) : Option (State → State) :=
  match g with
  | 1 => some clearPorts
  | 2 => some clearQueues
  | 3 => some clearFilter
  | 4 => some clearOrigin
  | 5 => some clearNotices
  | _ => none

/-- CLEAR-COUNTERS (R179). -/
def serveClearCounters (r : Request) (s : State) : State × Option Answer :=
  shaped r (r.object == 0) (r.count == 0) s
    (match clearGroup r.index.toNat with
      | none => (s, some (refuse r .outOfRange))
      | some f => (f s, some (okValues r [])))

/-! ### Requests on the whole part (R180) -/

/-- FLUSH-TABLE (R54, R180). -/
def serveFlushTable (r : Request) (s : State) : State × Option Answer :=
  shaped r (r.object == 0) (r.index == 0 && r.count == 0) s (flushTable s, some (okValues r []))

/-- RELOAD (R180, R192). -/
def serveReload (r : Request) (s : State) : State × Option Answer :=
  shaped r (r.object == 0) (r.index == 0 && r.count == 0) s
    (if s.loader.reloadRunning = true then (s, some (refuse r .notNow))
     else (s.onLoader fun l => { l with reloadRunning := true }, some (okValues r [])))

/-- RESET (R180, R191, R193). Scope ENGINE is not answered. -/
def serveReset (r : Request) (s : State) : State × Option Answer :=
  shaped r (r.object == 0) (r.count == 0) s
    (match r.index.toNat with
      | 1 => (portReset .u1 s, some (okValues r []))
      | 2 => (portReset .u2 s, some (okValues r []))
      | 3 => (engineReset s, none)
      | _ => (s, some (refuse r .outOfRange)))

/-! ### Serving (R170 to R172) -/

/-- The meaning of each kind. -/
def serveKind : ReqKind → Request → State → State × Option Answer
  | .read          => serveRead
  | .write         => serveWrite
  | .entryRead     => serveEntryRead
  | .entryPin      => serveEntryPin
  | .entryUnpin    => serveEntryUnpin
  | .entryRemove   => serveEntryRemove
  | .originRead    => serveOriginRead
  | .originPin     => serveOriginPin
  | .originRemove  => serveOriginRemove
  | .slotStage     => serveSlotStage
  | .slotApply     => serveSlotApply
  | .inject        => serveInject
  | .faultAck      => serveFaultAck
  | .clearCounters => serveClearCounters
  | .flushTable    => serveFlushTable
  | .reload        => serveReload
  | .reset         => serveReset

/-- Form (R10): Count at most 32, and the frame long enough for its Values, which a READ does not
carry. -/
def wellFormed (k : ReqKind) (r : Request) : Bool :=
  decide (r.count.toNat ≤ 32) && (k == .read || decide (r.count.toNat ≤ r.values.length))

/-- What Line Access makes of a request (R171). -/
inductive Access where
  | goesOn | denied | discarded
  deriving DecidableEq, Repr

/-- The kinds that change nothing (R171). -/
def ReqKind.readsOnly : ReqKind → Bool
  | .read | .entryRead | .originRead => true
  | _ => false

/-- Access by side (R171). -/
def access (k : ReqKind) (port : Port) (l : LineAccess) : Access :=
  if port = .b then .goesOn
  else
    match l with
    | .none => .discarded
    | .read => if k.readsOnly then .goesOn else .denied
    | .full => .goesOn

/-- Availability by part state (R172). -/
def available (k : ReqKind) (p : PartState) : Bool :=
  p == .run || (k != .slotApply && k != .inject)

/-- The judgements of R170 in their order, up to the reply. -/
def judgeRequest (k : ReqKind) (r : Request) (s : State) : State × Option Answer :=
  if wellFormed k r = false then (s, some (refuse r .badRequest))
  else
    match access k r.port s.settings.lineAccess with
    | .discarded =>
      (s.onPort r.port fun c => { c with managementDiscards := c.managementDiscards + 1 }, none)
    | .denied => (s, some (refuse r .denied))
    | .goesOn =>
      if available k s.loader.part = false then (s, some (refuse r .notNow)) else serveKind k r s

/-! ### Replies (R11, R181) -/

/-- The length a reply is padded to as stored: 64 for B, 58 for an uplink (R11). -/
def replyPad (p : Port) : Nat := if p = .b then 64 else 58

/-- The reply frame as stored (R11). -/
def replyOctets (code : Octet) (r : Request) (a : Answer) (s : State) : List Octet :=
  replyFrame (replyPad r.port) r.source s.loader.stationAddress s.settings.managementMarker code a.status
    r.token r.object a.index a.values

/-- Delivery of a stored reply (R181). -/
def deliver (h : Nat) (port : Port) (s : State) : State :=
  if port = .b then (offerBay (some .b) .service h (setRefs h 1 s)).2
  else pairOwnFrame (some port) h .timing false s

/-- A reply is built, counted and its delivery attempted (R181). -/
def sendReply (code : Octet) (r : Request) (a : Answer) (s : State) : State :=
  match admitBuilt (replyOctets code r a s) (if r.port = .b then .general else .timing)
      (s.onNotices fun n => { n with repliesBuilt := n.repliesBuilt + 1 }) with
  | (none, s') => s'
  | (some h, s') => deliver h r.port s'

/-- A request of a known kind is served (R170). -/
def serve (k : ReqKind) (r : Request) (s : State) : State :=
  match judgeRequest k r s with
  | (s', none) => s'
  | (s', some a) => sendReply k.code r a s'

/-- A management-marked frame reaches the Agent (R10): code 0x80 or above is discarded, an unknown code
answered BAD-REQUEST, a request served. -/
def serveBody (port : Port) (source : Address) (body : List Octet) (s : State) : State :=
  if 0x80 ≤ (bodyCode body).toNat then
    s.onPort port fun c => { c with managementDiscards := c.managementDiscards + 1 }
  else
    match ReqKind.ofCode (bodyCode body) with
    | none =>
      sendReply (bodyCode body) (readRequest port source body)
        (refuse (readRequest port source body) .badRequest) s
    | some k => serve k (readRequest port source body) s

end Sys2Proof.Machine
end

