-- ==== Sys2Proof/Machine/Image.lean ====
section
/-! DEFINITION. The configuration image: reading it (R187), judging its structure (R14), and its records
(R15). -/

namespace Sys2Proof.Machine

/-- A record of an image as it lies: the offset of its Type octet, its Type, its body length and the
octets of its body that are there. -/
structure RawRecord where
  offset : Nat
  type   : Nat
  length : Nat
  body   : List Octet
  deriving DecidableEq, Repr

/-- The records from an offset on over the octets of the records field, and the offset of a record that
runs past its end (R14). -/
def walkRecords : Nat → Nat → List Octet → List RawRecord × Option Nat
  | 0, _, _ => ([], none)
  | _ + 1, _, [] => ([], none)
  | _ + 1, o, [t] => ([{ offset := o, type := t.toNat, length := 0, body := [] }], some o)
  | fuel + 1, o, t :: n :: rest =>
    if rest.length < n.toNat then
      ([{ offset := o, type := t.toNat, length := n.toNat, body := rest }], some o)
    else
      match walkRecords fuel (o + 2 + n.toNat) (rest.drop n.toNat) with
      | (l, p) =>
        ({ offset := o, type := t.toNat, length := n.toNat, body := rest.take n.toNat } :: l, p)

/-- Type is one of the six (R14). -/
def RawRecord.typeKnown (r : RawRecord) : Bool := decide (1 ≤ r.type ∧ r.type ≤ 6)

/-- Body length is one the Type allows; an unknown Type fails the other test (R14). -/
def RawRecord.lengthAllowed (r : RawRecord) : Bool :=
  match r.type with
  | 1 | 2 | 3 | 5 => r.length == 6
  | 4 => r.length == 7 || r.length == 9
  | 6 => r.length == 4
  | _ => true

/-- The sum of octets, modulo 65,536 (1.8). -/
def imageSum (f : List Octet) : BitVec 16 := f.foldl (fun a o => a + o.setWidth 16) 0

/-- The outcome of a load or reload (R187). -/
inductive ImageOutcome where
  | absent
  | bad (offset : Nat)
  | valid (records : List RawRecord)
  deriving DecidableEq, Repr

/-- The Length field of the header. -/
def imageLength (f : List Octet) : Nat := (u16At f 2).toNat

/-- The first record a test finds wrong, by the offset of its Type octet. -/
def firstWrong (wrong : RawRecord → Bool) (l : List RawRecord) : Option Nat :=
  (l.find? wrong).map fun r => r.offset

/-- The first failure by R14's list of conditions: a record running past the field, then a Type that is
none of the six, then a body length its Type does not allow. -/
def failureAsListed (l : List RawRecord) (past : Option Nat) : Option Nat :=
  past <|> firstWrong (fun r => !r.typeKnown) l <|> firstWrong (fun r => !r.lengthAllowed) l

/-- The first failure by R14's table: the first record whose Type or body length fails, then a record
running past the field. -/
def failureAsTabled (l : List RawRecord) (past : Option Nat) : Option Nat :=
  firstWrong (fun r => !(r.typeKnown && r.lengthAllowed)) l <|> past

/-- The offset at which the structure of the records fails (R14). The list and the table of R14 find a
failure in the same images; where they give different offsets, which of the two is reported is free
(log 21). -/
def structureFailure (l : List RawRecord) (past : Option Nat) : Option Nat :=
  match failureAsListed l past, failureAsTabled l past with
  | some a, some b => some (if a = b then a else if Config.imageTestsAsListed = true then a else b)
  | _, _ => none

/-- The tests of R14 behind the header, over an image read whole: the records, then the Check. -/
def judgeBody (f : List Octet) : ImageOutcome :=
  let r := walkRecords f.length 4 (slice f 4 (f.length - 6))
  match structureFailure r.1 r.2 with
  | none =>
    if u16At f (f.length - 2) = imageSum (f.take (f.length - 2)) then .valid r.1
    else .bad (f.length - 2)
  | some o => .bad o

/-- The image read from an EEPROM that acknowledges the octets given and no further one (R187). -/
def readEeprom (f : List Octet) : ImageOutcome :=
  if f.length < 4 then .bad f.length
  else if u16At f 0 ≠ 0xB37E then .bad 0
  else if imageLength f < 8 ∨ 4096 < imageLength f then .bad 2
  else if f.length < imageLength f then .bad f.length
  else judgeBody (f.take (imageLength f))

/-- The outcome of a load or reload: with Image Present clear, nothing is read (R187). -/
def readImage (st : Straps) (eeprom : List Octet) : ImageOutcome :=
  if st.imagePresent = true then readEeprom eeprom else .absent

/-! ### Records (R15) -/

/-- A record of a valid image, its fields as R15 reads them and not yet judged. -/
inductive ImageRecord where
  | setting (object value : Nat)
  | station (a : Address)
  | originPin (a : Address)
  | sourcePin (a : Address) (cls limit : Nat)
  | classifier (index : Nat) (etherType : BitVec 16) (mask : BitVec 8) (cls paired : Nat)
  | slots (uplink event timing stream : Nat)
  deriving DecidableEq, Repr

/-- The octet of a body as a number. -/
def octetNat (b : List Octet) (i : Nat) : Nat := (octetAt b i).toNat

/-- The record a raw record spells (R15). A 7-octet SOURCE-PIN has no Silence Limit, as one of 0. -/
def RawRecord.read (r : RawRecord) : ImageRecord :=
  match r.type with
  | 1 => .setting (u16At r.body 0).toNat (beNat (slice r.body 2 4) 0)
  | 2 => .station (addrAt r.body 0)
  | 3 => .originPin (addrAt r.body 0)
  | 4 =>
    .sourcePin (addrAt r.body 0) (octetNat r.body 6)
      (if r.length = 9 then (u16At r.body 7).toNat else 0)
  | 5 =>
    .classifier (octetNat r.body 0) (u16At r.body 1) (octetAt r.body 3) (octetNat r.body 4)
      (octetNat r.body 5)
  | _ => .slots (octetNat r.body 0) (octetNat r.body 1) (octetNat r.body 2) (octetNat r.body 3)

end Sys2Proof.Machine
end

