-- ==== Sys2Proof/Machine/Loader.lean ====
section
/-! DEFINITION. The Loader (chapter 10): applying an image or the defaults at a load and at a RELOAD, and the
entries to QUIET and RUN. -/

namespace Sys2Proof.Machine

/-- A record that cannot be applied is skipped and counted (R188). -/
def skipRecord (s : State) : State :=
  s.onLoader fun l => { l with recordsSkipped := satInc l.recordsSkipped }

/-! ### Settings (R188 step 1) -/

/-- The Settings store written with every default, the classifier kept. -/
def defaultSettings (s : State) : State :=
  s.onSettings fun st => Settings.defaults s.loader.straps st.classifier

/-- A SETTING record applied as a WRITE with the clamp flag set (R188). -/
def applySetting (object value : Nat) (s : State) : State :=
  match SettingName.ofObject object with
  | none => skipRecord s
  | some n =>
    match n.kind.judge true value with
    | none => skipRecord s
    | some (v, _) => s.onSettings fun st => n.put st v

def settingRecord (s : State) : ImageRecord → State
  | .setting o v => applySetting o v s
  | _ => s

/-- Step 1 of R188, with the actions of R175 at its end. -/
def applySettings (l : List ImageRecord) (s : State) : State :=
  allActions (l.foldl settingRecord (defaultSettings s))

/-! ### Station address (R188 step 2) -/

/-- Whether a STATION record's address can be applied. -/
def stationOk (a : Address) : Bool := !isMulticast a && a != 0

/-- The last STATION record that can be applied, and the others counted as skipped. -/
def stationRecord (p : Option Address × State) : ImageRecord → Option Address × State
  | .station a => if stationOk a then (some a, p.2) else (p.1, skipRecord p.2)
  | _ => p

/-- The station address an image gives, the strapped default without one (R186, R188). -/
def imageStation (l : List ImageRecord) (s : State) : Address × State :=
  match l.foldl stationRecord (none, s) with
  | (some a, s') => (a, s')
  | (none, s') => (defaultStationAddress s.loader.straps, s')

def setStation (a : Address) (s : State) : State := s.onLoader fun l => { l with stationAddress := a }

/-! ### Pins, classifier, slots (R188 steps 3, 5, 6, 7) -/

/-- ORIGIN-PIN (R131). -/
def originPinRecord (s : State) : ImageRecord → State
  | .originPin a =>
    match pinOrigin none a s with
    | (some _, s') => s'
    | (none, s') => skipRecord s'
  | _ => s

/-- SOURCE-PIN (R51). -/
def sourcePinRecord (s : State) : ImageRecord → State
  | .sourcePin a c limit =>
    match classOf c with
    | none => skipRecord s
    | some k =>
      match pinKey none a k limit s with
      | (some _, s') => s'
      | (none, s') => skipRecord s'
  | _ => s

/-- CLASSIFIER (R188 step 6). -/
def classifierRecord (s : State) : ImageRecord → State
  | .classifier i t m c p =>
    if i ≤ 7 ∧ c ≤ 3 ∧ p ≤ 1 then
      s.onSettings fun st => st.setClassifier i
        { etherType := t, mask := m, cls := (classOf c).getD .general, paired := p == 1 }
    else skipRecord s
  | _ => s

/-- Both the active and the staged counts of an uplink (R144, R188 step 7). -/
def loadSlots (u : Uplink) (c : SlotCounts) (s : State) : State :=
  s.onUplink u fun e =>
    { e with
      activeCounts := c, activeMap := buildMap c, stagedCounts := c, stagedMap := buildMap c }

/-- A SLOTS record that can be applied (R188 step 7). -/
def slotsOk (uplink e t st : Nat) : Option (Uplink × SlotCounts) :=
  match uplinkOf uplink with
  | none => none
  | some u => if e + t + st ≤ 64 then some (u, { event := e, timing := t, stream := st }) else none

/-- SLOTS, applied by `put`. -/
def slotsRecord (put : Uplink → SlotCounts → State → State) (s : State) : ImageRecord → State
  | .slots u e t st =>
    match slotsOk u e t st with
    | none => skipRecord s
    | some (v, c) => put v c s
  | _ => s

/-! ### A load (R188, R189) -/

/-- Steps 1 to 7 of R188. -/
def applyImage (l : List ImageRecord) (s : State) : State :=
  let s := applySettings l s
  let s := (fun p : Address × State => setStation p.1 p.2) (imageStation l s)
  let s := l.foldl originPinRecord s
  let s := setUpOverflow (createZero s)
  let s := l.foldl sourcePinRecord s
  let s := l.foldl classifierRecord s
  l.foldl (slotsRecord loadSlots) s

/-- Steps 1 to 3 of R189. -/
def applyDefaults (s : State) : State :=
  setUpOverflow (createZero (setStation (defaultStationAddress s.loader.straps)
    (allActions (defaultSettings s))))

def setImageStatus (i : ImageStatus) (s : State) : State := s.onLoader fun l => { l with imageStatus := i }

/-- IMAGE-CHECK taken within the Loader's own handling, so that its FAULT event joins ahead of READY
(R169, R189, log 5). -/
def reportImage (offset : Nat) (s : State) : State :=
  captureReport { kind := .imageCheck, location := offset, port := none, cls := none } s

/-- The application of a load's outcome (R188, R189). -/
def applyLoad (o : ImageOutcome) (s : State) : State :=
  match o with
  | .valid l => setImageStatus .applied (applyImage (l.map RawRecord.read) s)
  | .absent => setImageStatus .absent (applyDefaults s)
  | .bad offset => setImageStatus .bad (reportImage offset (applyDefaults s))

/-! ### Entries to QUIET and RUN (R190) -/

/-- READY (R13, R190). -/
def raiseReady (s : State) : State :=
  raise .ready 0 none (imageCode s.loader.imageStatus * 65536 + s.loader.recordsSkipped.toNat) 0 s

/-- SELF-RESET, where Reset Announce is set (R165). -/
def announceReset (s : State) : State :=
  if s.faults.resetAnnounce = true then
    raise .selfReset 0 none s.faults.selfResets.toNat 0
      (s.onFaults fun f => { f with resetAnnounce := false })
  else s

/-- Entry to QUIET (R190, R56). DESIGN CHOICE (log 34): U1's link state follows its PHY first and then
U2's, so with both PHYs up the LINK-UP of U1 joins the Notice Queue ahead of that of U2; R108 and step 6 of
R190 give no order. -/
def enterQuiet (s : State) : State :=
  let s := announceReset (raiseReady (s.onLoader fun l => { l with part := .quiet, ready := true }))
  let s := s.onLoader fun l => { l with quietTimer := some (s.settings.windowHold * 1000) }
  followPhy .u2 (followPhy .u1 (s.onFilter fun f => { f with scanTimer := some 500 }))

/-- The quiet timer expires: entry to RUN (R190, R100). -/
def enterRun (s : State) : State :=
  startPresenceTimer (buildPresence (s.onLoader fun l => { l with part := .run, quietTimer := none }))

/-! ### A RELOAD (R192) -/

/-- The last SLOTS records staged, the defaults without one, and Apply Pending set on both (R144). -/
def stageReload (l : List ImageRecord) (s : State) : State :=
  let s := stageSlots .u2 SlotCounts.default (stageSlots .u1 SlotCounts.default s)
  let s := l.foldl (slotsRecord stageSlots) s
  (s.onUplink .u1 fun e => { e with applyPending := true }).onUplink .u2 fun e =>
    { e with applyPending := true }

/-- A RELOAD with a valid image (R192). -/
def reloadImage (l : List ImageRecord) (s : State) : State :=
  let s := applySettings l s
  let s := (fun p : Address × State => changeStation p.1 p.2) (imageStation l s)
  let s := l.foldl originPinRecord s
  let s := l.foldl sourcePinRecord s
  let s := l.foldl classifierRecord s
  stageReload l s

/-- The application of a RELOAD's outcome (R192). -/
def applyReload (o : ImageOutcome) (s : State) : State :=
  let s := s.onLoader fun l => { l with reloadRunning := false, recordsSkipped := 0 }
  match o with
  | .valid l => setImageStatus .applied (reloadImage (l.map RawRecord.read) s)
  | .absent => setImageStatus .absent (allActions (defaultSettings s))
  | .bad offset => setImageStatus .bad (reportImage offset (allActions (defaultSettings s)))

end Sys2Proof.Machine
end

