-- ==== Sys2Proof/Machine/Intake.lean ====
section
/-! DEFINITION. The Intakes (chapter 2): the tests on an arrival, classification and routing. -/

namespace Sys2Proof.Machine

/-! ### Counters -/

/-- Intake Drops of a class (R24 to R26). -/
def countIntakeDrop (p : Port) (c : TClass) (s : State) : State :=
  s.onPort p fun k => { k with intakeDrops := k.intakeDrops.set c (k.intakeDrops.get c + 1) }

def countStationDiscard (p : Port) (s : State) : State :=
  s.onPort p fun k => { k with stationDiscards := k.stationDiscards + 1 }

def countReceived (p : Port) (s : State) : State :=
  s.onPort p fun k => { k with framesReceived := k.framesReceived + 1 }

def countFcsError (p : Port) (s : State) : State :=
  s.onPort p fun k => { k with fcsErrors := k.fcsErrors + 1 }

def countLengthError (p : Port) (s : State) : State :=
  s.onPort p fun k => { k with lengthErrors := k.lengthErrors + 1 }

/-! ### Classification (R22, R23) -/

/-- Whether a classifier entry matches a Type and a priority (R22). -/
def ClassifierEntry.hits (c : ClassifierEntry) (type : BitVec 16) (priority : Nat) : Bool :=
  c.etherType == type && c.mask.getLsbD priority

/-- The first entry that matches (R22). -/
def classifierHit (st : Settings) (type : BitVec 16) (priority : Nat) : Option ClassifierEntry :=
  st.classifier.toList.find? fun c => c.hits type priority

/-- The class of a frame (R22). -/
def classify (st : Settings) (type : BitVec 16) (priority : Nat) : TClass :=
  match classifierHit st type priority with
  | some c => c.cls
  | none   => .general

/-- The paired decision of a bay frame (R23). -/
def pairedDecision (st : Settings) (type : BitVec 16) (priority : Nat) : Bool :=
  match classifierHit st type priority with
  | some c => if c.cls = .general then c.paired else true
  | none   => st.pairGeneral

/-! ### Requests in frames -/

/-- The handle of a management frame is freed at the end of its service, unless the service was an engine
reset, which has returned all storage (R24, R25, R191, log 15). -/
def endRequest (h : Nat) (s : State) : State :=
  if s.loader.part = .loading then s else freeHandle h s

/-- A management frame stored in handle `h` is served (R24, R25). -/
def serveFrame (port : Port) (h : Nat) (w : Walk) (f : List Octet) (s : State) : State :=
  endRequest h (serveBody port (sourceOf f) (w.body f) s)

/-! ### Uplinks (R17, R19, R20, R25, R26) -/

/-- The largest length of an uplink frame (R1). -/
def uplinkMaxLength (w : Walk) : Nat := if w.tagged then 1528 else 1522

/-- The source address of an arrival is in the Origin Table (R20). -/
def isOwnOrigin (s : State) (a : Address) : Bool := s.pairing.entries.any fun p => p.2.addr == a

/-- The tag fields of a received frame's handle (R25, R29). -/
def receivedFields (t : Tag) : TagFields :=
  { seq := t.seq, path := some t.path, epoch := t.epoch, cls := t.cls, interval := t.interval }

/-- A tagged arrival after its verdict (R25). -/
def routeVerdict (u : Uplink) (h i : Nat) (v : Verdict) (t : Tag) (w : Walk) (f : List Octet)
    (s : State) : State :=
  if goesOn s.settings v = false then freeHandle h s
  else if t.cls = .presence then freeHandle h (readPresenceBody i w f s)
  else if destOf f = s.loader.stationAddress then
    if w.type f = s.settings.managementMarker then serveFrame (uplinkPort u) h w f s
    else freeHandle h (countStationDiscard (uplinkPort u) s)
  else (offerBay (some (uplinkPort u)) (bayQueueOf t.cls) h (setRefs h 1 s)).2

/-- A tagged arrival that has passed the tests (R25). -/
def routeTagged (u : Uplink) (t : Tag) (w : Walk) (f : List Octet) (s : State) : State :=
  match admitReceived f t.cls (some (receivedFields t)) s with
  | none => countIntakeDrop (uplinkPort u) t.cls s
  | some (h, s') =>
    match screen t (sourceOf f) s' with
    | (i, v, s'') => routeVerdict u h i v t w f s''

/-- An untagged arrival that has passed the tests (R26). -/
def routeUntagged (u : Uplink) (w : Walk) (f : List Octet) (s : State) : State :=
  if s.settings.passUntagged = false then
    s.onPort (uplinkPort u) fun k => { k with untaggedDiscards := k.untaggedDiscards + 1 }
  else if destOf f = s.loader.stationAddress then countStationDiscard (uplinkPort u) s
  else
    match admitReceived f (classify s.settings (w.type f) w.priority) none s with
    | none => countIntakeDrop (uplinkPort u) (classify s.settings (w.type f) w.priority) s
    | some (h, s') =>
      (offerBay (some (uplinkPort u)) (bayQueueOf (classify s.settings (w.type f) w.priority)) h
        (setRefs h 1 s')).2

/-- Tests 7 and 8 of R17, then routing; `tag` is absent on an untagged frame. -/
def uplinkRouting (u : Uplink) (tag : Option Tag) (w : Walk) (f : List Octet) (s : State) : State :=
  if isOwnOrigin s (sourceOf f) then
    s.onPort (uplinkPort u) fun k => { k with ownOrigin := k.ownOrigin + 1 }
  else if s.loader.part = .loading then s
  else
    match tag with
    | some t => routeTagged u t w f s
    | none => routeUntagged u w f s

/-- A presence frame of the part itself (R19). -/
def isOwnPresence (s : State) (t : Tag) (w : Walk) (f : List Octet) : Bool :=
  t.cls == .presence && presenceIdentity w f == s.loader.stationAddress

/-- Test 5's failure (R19, R105). -/
def takeOwnPresence (u : Uplink) (t : Tag) (s : State) : State :=
  let s' := s.onPort (uplinkPort u) fun k => { k with ownPresence := k.ownPresence + 1 }
  if s.loader.part = .loading then s' else ownPresence u t.path s'

/-- Tests 5 and 6 of R17 on a tag without a tag error. -/
def uplinkTagTests (u : Uplink) (t : Tag) (w : Walk) (f : List Octet) (s : State) : State :=
  if isOwnPresence s t w f then takeOwnPresence u t s
  else if t.path ≠ u then
    s.onPort (uplinkPort u) fun k =>
      { k with tagErrors := k.tagErrors + 1, pathMismatch := k.pathMismatch + 1 }
  else uplinkRouting u (some t) w f s

/-- Tests 4 to 8 of R17. -/
def uplinkBody (u : Uplink) (w : Walk) (f : List Octet) (s : State) : State :=
  if w.tagged then
    match (readTag f).valid (w.type f) s.settings.presenceMarker with
    | none => s.onPort (uplinkPort u) fun k => { k with tagErrors := k.tagErrors + 1 }
    | some t => uplinkTagTests u t w f s
  else uplinkRouting u none w f s

/-- The tests of R17 in their order. -/
def uplinkTests (u : Uplink) (f : List Octet) (s : State) : State :=
  let w := walkUplink s.settings.tagMarker f
  if fcsGood f = false then countFcsError (uplinkPort u) s
  else if f.length < 64 ∨ uplinkMaxLength w < f.length then countLengthError (uplinkPort u) s
  else if isPause w f then
    s.onPort (uplinkPort u) fun k => { k with pauseDiscards := k.pauseDiscards + 1 }
  else uplinkBody u w f s

/-- An arrival on an uplink (R16, R17, R27). -/
def uplinkIntake (u : Uplink) (f : List Octet) (s : State) : State :=
  uplinkTests u f (countReceived (uplinkPort u) s)

/-! ### B (R18, R21, R24) -/

/-- Pause honouring (R21). -/
def honorPause (w : Walk) (f : List Octet) (s : State) : State :=
  let s' := s.onPort .b fun k => { k with pauseReceived := k.pauseReceived + 1 }
  if s.settings.honorPause = true then takeQuanta (pauseQuanta w f) s' else s'

/-- A management request on B (R24). -/
def bayRequest (w : Walk) (f : List Octet) (s : State) : State :=
  match admitReceived f .general none s with
  | none => countIntakeDrop .b .general s
  | some (h, s') => serveFrame .b h w f s'

/-- A frame for the Pairing Unit (R24). -/
def bayFrame (w : Walk) (f : List Octet) (s : State) : State :=
  match admitReceived f (classify s.settings (w.type f) w.priority) none s with
  | none => countIntakeDrop .b (classify s.settings (w.type f) w.priority) s
  | some (h, s') =>
    pairBayFrame h (sourceOf f) (classify s.settings (w.type f) w.priority)
      (pairedDecision s.settings (w.type f) w.priority) s'

/-- Routing on B (R24). -/
def routeBay (w : Walk) (f : List Octet) (s : State) : State :=
  if destOf f = s.loader.stationAddress then
    if w.type f = s.settings.managementMarker then bayRequest w f s else countStationDiscard .b s
  else bayFrame w f s

/-- The tests of R18 in their order. -/
def bayTests (f : List Octet) (s : State) : State :=
  if fcsGood f = false then countFcsError .b s
  else if f.length < 64 ∨ 1522 < f.length then countLengthError .b s
  else if u16At f 12 = s.settings.tagMarker then
    s.onPort .b fun k => { k with bayTagged := k.bayTagged + 1 }
  else if s.loader.part = .loading then s
  else if isPause (walkBay f) f then honorPause (walkBay f) f s
  else routeBay (walkBay f) f s

/-- An arrival on B (R16, R18, R27). -/
def bayIntake (f : List Octet) (s : State) : State := bayTests f (countReceived .b s)

end Sys2Proof.Machine
end

