-- ==== Sys2Proof/Machine/Commands.lean ====
section
/-! DEFINITION. The meaning of each command, one definition for each row of spec/opcode_table.json. Every
command answers a next state. While RESET_N is low every block is held (R185): then only the release
from chip reset and the PHYs' own indications have an effect (log 7, log 30). -/

namespace Sys2Proof.Machine

/-- A handling, taken while the part is out of chip reset (R185). -/
def outOfReset (s t : State) : State := if s.resetN = true then t else s

/-- A handling of the Management Agent, which no request reaches in LOADING (R172). -/
def whenServing (s t : State) : State := if s.serving = true then t else s

/-! ### Resets -/

/-- CHIP_RESET (R185). -/
def execChipReset (s : State) : Host.Outcome State Fault Refusal := .next (chipReset s)

/-- CHIP_RESET_RELEASE (R185): RESET_N goes high. -/
def execChipResetRelease (straps : Straps) (s : State) : Host.Outcome State Fault Refusal :=
  .next (if s.resetN = true then s else releaseReset straps s)

/-! ### Arrivals -/

/-- UPLINK_ARRIVAL (R17). -/
def execUplinkArrival (u : Uplink) (frame : List Octet) (s : State) : Host.Outcome State Fault Refusal :=
  .next (outOfReset s (finish (uplinkIntake u frame s)))

/-- BAY_ARRIVAL (R18). -/
def execBayArrival (frame : List Octet) (s : State) : Host.Outcome State Fault Refusal :=
  .next (outOfReset s (finish (bayIntake frame s)))

/-! ### Link indications -/

/-- A PHY's indication as it stands now; the link state takes it in QUIET and RUN (R108). -/
def setPhy (u : Uplink) (up : Bool) (s : State) : State := s.onUplink u fun e => { e with phy := up }

/-- LINK_STATE_DOWN (R108, R109). -/
def execLinkStateDown (u : Uplink) (s : State) : Host.Outcome State Fault Refusal :=
  .next (whenServing (setPhy u false s) (finish (followPhy u (setPhy u false s))))

/-- LINK_STATE_UP (R108). -/
def execLinkStateUp (u : Uplink) (s : State) : Host.Outcome State Fault Refusal :=
  .next (whenServing (setPhy u true s) (finish (followPhy u (setPhy u true s))))

/-! ### Timers: each expiry acts while its timer runs (log 3) -/

/-- A handling made where a timer runs. -/
def whileRunning (t : Timer) (s next : State) : State := if t.isSome then outOfReset s next else s

/-- The refreshed pause of R34. -/
def refreshPause (s : State) : State :=
  makePausePending 65535 (s.onPause fun p => { p with refresh := some (refreshTime s) })

/-- PAUSE_REFRESH_TIMER_EXPIRY (R34). -/
def execPauseRefreshTimerExpiry (s : State) : Host.Outcome State Fault Refusal :=
  .next (whileRunning s.pause.refresh s (finish (refreshPause s)))

/-- RECEIVED_PAUSE_TIMER_EXPIRY (R157). -/
def execReceivedPauseTimerExpiry (s : State) : Host.Outcome State Fault Refusal :=
  .next (whileRunning s.bay.pauseTimer s (finish (endHold s)))

/-- One visit of the Table Scanner: a bucket, then an Origin entry (R56, log 33). -/
def scanTables (s : State) : State :=
  visitOriginCursor (visitBucket (s.onFilter fun f => { f with scanTimer := some 500 }))

/-- TABLE_SCANNER_TIMER_EXPIRY (R56). -/
def execTableScannerTimerExpiry (s : State) : Host.Outcome State Fault Refusal :=
  .next (whileRunning s.filter.scanTimer s (finish (scanTables s)))

/-- PRESENCE_TIMER_EXPIRY (R100). -/
def execPresenceTimerExpiry (s : State) : Host.Outcome State Fault Refusal :=
  .next (whileRunning s.presence.timer s (finish (startPresenceTimer (buildPresence s))))

/-- The notice timer stops (R183). -/
def stopNoticeTimer (s : State) : State := s.onNotices fun n => { n with timer := none }

/-- NOTICE_TIMER_EXPIRY (R183): the timer stops, and the test at the handling's end is made. -/
def execNoticeTimerExpiry (s : State) : Host.Outcome State Fault Refusal :=
  .next (whileRunning s.notices.timer s (finish (stopNoticeTimer s)))

/-- QUIET_TIMER_EXPIRY (R190). -/
def execQuietTimerExpiry (s : State) : Host.Outcome State Fault Refusal :=
  .next (whileRunning s.loader.quietTimer s (finish (enterRun s)))

/-! ### Image reading -/

/-- LOAD_END (R188 to R190): in LOADING. -/
def execLoadEnd (eeprom : List Octet) (s : State) : Host.Outcome State Fault Refusal :=
  .next (if s.loader.part = .loading then
      outOfReset s (finish (enterQuiet (applyLoad (readImage s.loader.straps eeprom) s)))
    else s)

/-- RELOAD_END (R192): while a reload runs. -/
def execReloadEnd (eeprom : List Octet) (s : State) : Host.Outcome State Fault Refusal :=
  .next (if s.loader.reloadRunning = true then
      whenServing s (finish (applyReload (readImage s.loader.straps eeprom) s))
    else s)

/-! ### Transmissions: each completion acts while its transmission is held (log 3) -/

/-- UPLINK_TRANSMISSION_COMPLETE (R149). -/
def execUplinkTransmissionComplete (u : Uplink) (s : State) : Host.Outcome State Fault Refusal :=
  .next (match (s.uplink u).tx with
    | some t => outOfReset s (finish (completeCopy u t s))
    | none => s)

/-- BAY_TRANSMISSION_COMPLETE (R155). -/
def execBayTransmissionComplete (s : State) : Host.Outcome State Fault Refusal :=
  .next (match s.bay.tx with
    | some (.frame h w) => outOfReset s (finish (completeBay h w s))
    | _ => s)

/-- PAUSE_FRAME_COMPLETE (R156). -/
def execPauseFrameComplete (s : State) : Host.Outcome State Fault Refusal :=
  .next (match s.bay.tx with
    | some (.pause _ w) => outOfReset s (finish (completePause w s))
    | _ => s)

/-! ### Faults -/

/-- FAULT_REPORT (R160, R162, R163): the report leaves those in flight and is taken. -/
def execFaultReport (report : FaultReport) (s : State) : Host.Outcome State Fault Refusal :=
  .next (outOfReset s (finish (takeReport report { s with reports := s.reports.erase report })))

/-! ### Requests -/

/-- READ (R173). -/
def execRead (r : Request) (s : State) : Host.Outcome State Fault Refusal :=
  .next (whenServing s (finish (serve .read r s)))

/-- WRITE (R174). -/
def execWrite (r : Request) (s : State) : Host.Outcome State Fault Refusal :=
  .next (whenServing s (finish (serve .write r s)))

/-- ENTRY_READ (R55). -/
def execEntryRead (r : Request) (s : State) : Host.Outcome State Fault Refusal :=
  .next (whenServing s (finish (serve .entryRead r s)))

/-- ENTRY_PIN (R49, R50). -/
def execEntryPin (r : Request) (s : State) : Host.Outcome State Fault Refusal :=
  .next (whenServing s (finish (serve .entryPin r s)))

/-- ENTRY_UNPIN (R52). -/
def execEntryUnpin (r : Request) (s : State) : Host.Outcome State Fault Refusal :=
  .next (whenServing s (finish (serve .entryUnpin r s)))

/-- ENTRY_REMOVE (R53). -/
def execEntryRemove (r : Request) (s : State) : Host.Outcome State Fault Refusal :=
  .next (whenServing s (finish (serve .entryRemove r s)))

/-- ORIGIN_READ (R130). -/
def execOriginRead (r : Request) (s : State) : Host.Outcome State Fault Refusal :=
  .next (whenServing s (finish (serve .originRead r s)))

/-- ORIGIN_PIN (R128). -/
def execOriginPin (r : Request) (s : State) : Host.Outcome State Fault Refusal :=
  .next (whenServing s (finish (serve .originPin r s)))

/-- ORIGIN_REMOVE (R129). -/
def execOriginRemove (r : Request) (s : State) : Host.Outcome State Fault Refusal :=
  .next (whenServing s (finish (serve .originRemove r s)))

/-- SLOT_STAGE (R142). -/
def execSlotStage (r : Request) (s : State) : Host.Outcome State Fault Refusal :=
  .next (whenServing s (finish (serve .slotStage r s)))

/-- SLOT_APPLY (R143). -/
def execSlotApply (r : Request) (s : State) : Host.Outcome State Fault Refusal :=
  .next (whenServing s (finish (serve .slotApply r s)))

/-- INJECT (R132). -/
def execInject (r : Request) (s : State) : Host.Outcome State Fault Refusal :=
  .next (whenServing s (finish (serve .inject r s)))

/-- FAULT_ACK (R167). -/
def execFaultAck (r : Request) (s : State) : Host.Outcome State Fault Refusal :=
  .next (whenServing s (finish (serve .faultAck r s)))

/-- CLEAR_COUNTERS (R179). -/
def execClearCounters (r : Request) (s : State) : Host.Outcome State Fault Refusal :=
  .next (whenServing s (finish (serve .clearCounters r s)))

/-- FLUSH_TABLE (R54). -/
def execFlushTable (r : Request) (s : State) : Host.Outcome State Fault Refusal :=
  .next (whenServing s (finish (serve .flushTable r s)))

/-- RELOAD (R180, R192). -/
def execReload (r : Request) (s : State) : Host.Outcome State Fault Refusal :=
  .next (whenServing s (finish (serve .reload r s)))

/-- RESET_PORT (R180, R193) with a scope other than ENGINE. -/
def execResetPort (r : Request) (s : State) : Host.Outcome State Fault Refusal :=
  .next (whenServing s (finish (serve .reset r s)))

/-- RESET_ENGINE (R180, R191) with scope ENGINE: the engine reset is not answered. -/
def execResetEngine (r : Request) (s : State) : Host.Outcome State Fault Refusal :=
  .next (whenServing s (finish (serve .reset r s)))

end Sys2Proof.Machine
end

