-- ==== Sys2Proof/Machine/Clock.lean ====
section
/-! DEFINITION. The idle step (log 2): a fault report in flight is taken, or one microsecond of Station Time
passes, and each timer or transmission that runs out puts its own command into the queue. -/

namespace Sys2Proof.Machine

/-- A timer after an amount of time. -/
def runDown (by' : Nat) (t : Timer) : Timer := t.map fun n => n - by'

/-- Whether a timer runs out within an amount of time. -/
def runsOut (by' : Nat) (t : Timer) : Bool := t.any fun n => decide (n ≤ by')

/-- A transmission one microsecond on. -/
def OnWire.runDown (w : OnWire) : OnWire := { w with left := w.left - 1000 }

def UplinkTx.runDown (t : UplinkTx) : UplinkTx := { t with wire := t.wire.runDown }

def BayTx.runDown : BayTx → BayTx
  | .frame h w => .frame h w.runDown
  | .pause q w => .pause q w.runDown

/-- The part's timers and transmissions one microsecond on. -/
def passMicrosecond (s : State) : State :=
  { s with
    stationTime := s.stationTime + 1
    loader := { s.loader with quietTimer := runDown 1 s.loader.quietTimer }
    pause := { s.pause with refresh := runDown 1 s.pause.refresh }
    filter := { s.filter with scanTimer := runDown 1 s.filter.scanTimer }
    presence := { s.presence with timer := runDown 1 s.presence.timer }
    notices := { s.notices with timer := runDown 1 s.notices.timer }
    u1 := { s.u1 with tx := s.u1.tx.map UplinkTx.runDown }
    u2 := { s.u2 with tx := s.u2.tx.map UplinkTx.runDown }
    bay :=
      { s.bay with tx := s.bay.tx.map BayTx.runDown, pauseTimer := runDown 1000 s.bay.pauseTimer } }

/-- Whether an uplink's transmission ends within the microsecond. -/
def UplinkEgress.ends (e : UplinkEgress) : Bool := e.tx.any fun t => decide (t.wire.left ≤ 1000)

/-- The completion on B that falls within the microsecond. -/
def bayEnds (b : BayEgress) : List Instr :=
  match b.tx with
  | some (.frame _ w) => if w.left ≤ 1000 then [.bayTransmissionComplete] else []
  | some (.pause _ w) => if w.left ≤ 1000 then [.pauseFrameComplete] else []
  | none => []

def onlyIf (b : Bool) (c : Instr) : List Instr := if b then [c] else []

/-- The commands of what runs out within the microsecond, in the model's order (log 4). -/
def expiries (s : State) : List Instr :=
  onlyIf s.u1.ends (.uplinkTransmissionComplete .u1) ++
  onlyIf s.u2.ends (.uplinkTransmissionComplete .u2) ++
  bayEnds s.bay ++
  onlyIf (runsOut 1000 s.bay.pauseTimer) .receivedPauseTimerExpiry ++
  onlyIf (runsOut 1 s.pause.refresh) .pauseRefreshTimerExpiry ++
  onlyIf (runsOut 1 s.filter.scanTimer) .tableScannerTimerExpiry ++
  onlyIf (runsOut 1 s.loader.quietTimer) .quietTimerExpiry ++
  onlyIf (runsOut 1 s.presence.timer) .presenceTimerExpiry ++
  onlyIf (runsOut 1 s.notices.timer) .noticeTimerExpiry

/-- One microsecond passes. -/
def tick (s : State) : State := { passMicrosecond s with pending := s.pending ++ expiries s }

/-- The idle step: nothing in chip reset; else the oldest fault report in flight is taken; else one
microsecond passes. -/
def idle (s : State) : State :=
  if s.resetN = false then s
  else
    match s.reports with
    | r :: rest => finish (takeReport r { s with reports := rest })
    | [] => tick s

end Sys2Proof.Machine
end

