-- ==== Sys2Proof/Machine/Dispatch.lean ====
section
/-! DEFINITION. The dispatch of the commands: one arm for each row of spec/opcode_table.json. -/

namespace Sys2Proof.Machine

def exec (i : Instr) (s : State) : Host.Outcome State Fault Refusal :=
  match i with
  | .chipReset => Sys2Proof.Machine.execChipReset s
  | .chipResetRelease straps => Sys2Proof.Machine.execChipResetRelease straps s
  | .uplinkArrival u frame => Sys2Proof.Machine.execUplinkArrival u frame s
  | .bayArrival frame => Sys2Proof.Machine.execBayArrival frame s
  | .linkStateDown u => Sys2Proof.Machine.execLinkStateDown u s
  | .linkStateUp u => Sys2Proof.Machine.execLinkStateUp u s
  | .pauseRefreshTimerExpiry => Sys2Proof.Machine.execPauseRefreshTimerExpiry s
  | .receivedPauseTimerExpiry => Sys2Proof.Machine.execReceivedPauseTimerExpiry s
  | .tableScannerTimerExpiry => Sys2Proof.Machine.execTableScannerTimerExpiry s
  | .presenceTimerExpiry => Sys2Proof.Machine.execPresenceTimerExpiry s
  | .noticeTimerExpiry => Sys2Proof.Machine.execNoticeTimerExpiry s
  | .quietTimerExpiry => Sys2Proof.Machine.execQuietTimerExpiry s
  | .loadEnd eeprom => Sys2Proof.Machine.execLoadEnd eeprom s
  | .reloadEnd eeprom => Sys2Proof.Machine.execReloadEnd eeprom s
  | .uplinkTransmissionComplete u => Sys2Proof.Machine.execUplinkTransmissionComplete u s
  | .bayTransmissionComplete => Sys2Proof.Machine.execBayTransmissionComplete s
  | .pauseFrameComplete => Sys2Proof.Machine.execPauseFrameComplete s
  | .faultReport report => Sys2Proof.Machine.execFaultReport report s
  | .read r => Sys2Proof.Machine.execRead r s
  | .write r => Sys2Proof.Machine.execWrite r s
  | .entryRead r => Sys2Proof.Machine.execEntryRead r s
  | .entryPin r => Sys2Proof.Machine.execEntryPin r s
  | .entryUnpin r => Sys2Proof.Machine.execEntryUnpin r s
  | .entryRemove r => Sys2Proof.Machine.execEntryRemove r s
  | .originRead r => Sys2Proof.Machine.execOriginRead r s
  | .originPin r => Sys2Proof.Machine.execOriginPin r s
  | .originRemove r => Sys2Proof.Machine.execOriginRemove r s
  | .slotStage r => Sys2Proof.Machine.execSlotStage r s
  | .slotApply r => Sys2Proof.Machine.execSlotApply r s
  | .inject r => Sys2Proof.Machine.execInject r s
  | .faultAck r => Sys2Proof.Machine.execFaultAck r s
  | .clearCounters r => Sys2Proof.Machine.execClearCounters r s
  | .flushTable r => Sys2Proof.Machine.execFlushTable r s
  | .reload r => Sys2Proof.Machine.execReload r s
  | .resetPort r => Sys2Proof.Machine.execResetPort r s
  | .resetEngine r => Sys2Proof.Machine.execResetEngine r s

end Sys2Proof.Machine
end

