-- ==== Sys2Proof/Safety.lean ====
section
/-! DEFINITION. What holds of a safe run, in the terms the statements use: frames (what an operation leaves as it
was) and invariants (what every command keeps). -/

namespace Sys2Proof.Machine

/-! ### Frames -/

/-- From `s` to `t` only the Frame Store, the pause emission with what B is sending, B's counters and the
fault reports in flight may differ. -/
structure OnlyStorage (s t : State) : Prop where
  resetN      : t.resetN = s.resetN
  stationTime : t.stationTime = s.stationTime
  loader      : t.loader = s.loader
  settings    : t.settings = s.settings
  portU1      : t.portU1 = s.portU1
  portU2      : t.portU2 = s.portU2
  filter      : t.filter = s.filter
  presence    : t.presence = s.presence
  pairing     : t.pairing = s.pairing
  u1          : t.u1 = s.u1
  u2          : t.u2 = s.u2
  faults      : t.faults = s.faults
  notices     : t.notices = s.notices
  freeUses    : t.freeUses = s.freeUses
  pending     : t.pending = s.pending

/-- From `s` to `t` only the Frame Store, the pause emission, the three egresses, B's counters, the
Notice Queue and the fault reports in flight may differ: what the choices and the send attempt at a
handling's end, and a reply to a request from B, can touch. -/
structure OnlyEgress (s t : State) : Prop where
  resetN      : t.resetN = s.resetN
  stationTime : t.stationTime = s.stationTime
  loader      : t.loader = s.loader
  settings    : t.settings = s.settings
  portU1      : t.portU1 = s.portU1
  portU2      : t.portU2 = s.portU2
  filter      : t.filter = s.filter
  presence    : t.presence = s.presence
  pairing     : t.pairing = s.pairing
  faults      : t.faults = s.faults
  freeUses    : t.freeUses = s.freeUses
  pending     : t.pending = s.pending

/-- From `s` to `t` only the Source Table with its levels, cursors and counters, the Notice Queue and the
fault reports in flight may differ. -/
structure OnlyFilter (s t : State) : Prop where
  resetN      : t.resetN = s.resetN
  stationTime : t.stationTime = s.stationTime
  loader      : t.loader = s.loader
  settings    : t.settings = s.settings
  store       : t.store = s.store
  portU1      : t.portU1 = s.portU1
  portU2      : t.portU2 = s.portU2
  portB       : t.portB = s.portB
  pause       : t.pause = s.pause
  presence    : t.presence = s.presence
  pairing     : t.pairing = s.pairing
  u1          : t.u1 = s.u1
  u2          : t.u2 = s.u2
  bay         : t.bay = s.bay
  faults      : t.faults = s.faults
  freeUses    : t.freeUses = s.freeUses
  pending     : t.pending = s.pending

/-- From `s` to `t` only the Pairing Unit and the fault reports in flight may differ. -/
structure OnlyPairing (s t : State) : Prop where
  resetN      : t.resetN = s.resetN
  stationTime : t.stationTime = s.stationTime
  loader      : t.loader = s.loader
  settings    : t.settings = s.settings
  store       : t.store = s.store
  portU1      : t.portU1 = s.portU1
  portU2      : t.portU2 = s.portU2
  portB       : t.portB = s.portB
  pause       : t.pause = s.pause
  filter      : t.filter = s.filter
  presence    : t.presence = s.presence
  u1          : t.u1 = s.u1
  u2          : t.u2 = s.u2
  bay         : t.bay = s.bay
  faults      : t.faults = s.faults
  notices     : t.notices = s.notices
  freeUses    : t.freeUses = s.freeUses
  pending     : t.pending = s.pending

/-- From `s` to `t` only what `OnlyEgress` names and the Pairing Unit may differ: what a reply that goes out
on the uplinks can touch. -/
structure OnlyReply (s t : State) : Prop where
  resetN      : t.resetN = s.resetN
  stationTime : t.stationTime = s.stationTime
  loader      : t.loader = s.loader
  settings    : t.settings = s.settings
  portU1      : t.portU1 = s.portU1
  portU2      : t.portU2 = s.portU2
  filter      : t.filter = s.filter
  presence    : t.presence = s.presence
  faults      : t.faults = s.faults
  freeUses    : t.freeUses = s.freeUses
  pending     : t.pending = s.pending

/-! ### A request served -/

/-- The outcome of a request answered with `a` after its effects have made the state `s'` (R170, R181):
the reply is sent and the tests at a handling's end are made, and nothing that these cannot touch differs
from `s'`. A reply to B leaves the Pairing Unit alone as well. -/
def AnsweredFrom (o : Host.Outcome State Fault Refusal) (code : Octet) (r : Request) (a : Answer)
    (s' : State) : Prop :=
  o = .next (finish (sendReply code r a s')) ∧
  OnlyReply s' (finish (sendReply code r a s')) ∧
  (r.port = .b → OnlyEgress s' (finish (sendReply code r a s')))

/-- A request that passes form, access and availability (R170 to R172). -/
def Admissible (k : ReqKind) (r : Request) (s : State) : Prop :=
  s.serving = true ∧ wellFormed k r = true ∧ access k r.port s.settings.lineAccess = .goesOn ∧
  available k s.loader.part = true

/-- The row by which a request of a kind is handed to the Agent. -/
def commandOf (k : ReqKind) (r : Request) : Instr :=
  match k with
  | .read          => .read r
  | .write         => .write r
  | .entryRead     => .entryRead r
  | .entryPin      => .entryPin r
  | .entryUnpin    => .entryUnpin r
  | .entryRemove   => .entryRemove r
  | .originRead    => .originRead r
  | .originPin     => .originPin r
  | .originRemove  => .originRemove r
  | .slotStage     => .slotStage r
  | .slotApply     => .slotApply r
  | .inject        => .inject r
  | .faultAck      => .faultAck r
  | .clearCounters => .clearCounters r
  | .flushTable    => .flushTable r
  | .reload        => .reload r
  | .reset         => if r.index = 3 then .resetEngine r else .resetPort r

/-- The outcome of a handling that has made the state `x`: the tests at its end are made, and nothing
that they cannot touch differs from `x`. -/
def HandledTo (o : Host.Outcome State Fault Refusal) (x : State) : Prop :=
  o = .next (finish x) ∧ OnlyEgress x (finish x)

/-! ### Invariants -/

/-- The Fault Unit (R161, R166): Held is occupied only while Primary is, the Excess count is above 0 only
while Primary is occupied, and the FAULT pin is high just while Primary is occupied. -/
def FaultInv (s : State) : Prop :=
  (s.faults.held.isSome = true → s.faults.primary.isSome = true) ∧
  (s.faults.excess ≠ 0 → s.faults.primary.isSome = true) ∧
  s.faults.faultPin = s.faults.primary.isSome

/-- The part state (R185, R190): READY is high just outside LOADING, the part is in LOADING while RESET_N
is low, the quiet timer runs only in QUIET, and the presence timer only in RUN. -/
def PartInv (s : State) : Prop :=
  (s.loader.ready = true ↔ s.loader.part ≠ .loading) ∧
  (s.resetN = false → s.loader.part = .loading) ∧
  (s.loader.quietTimer.isSome = true → s.loader.part = .quiet) ∧
  (s.presence.timer.isSome = true → s.loader.part = .run)

/-- No entry has both paths LOST (R94). -/
def PathInv (s : State) : Prop :=
  ∀ i e, entryOf s i = some e → ¬ (e.isLost .u1 = true ∧ e.isLost .u2 = true)

/-- The Source Table's form: entries 0..511, each in the bucket of its key, no key twice, at most 3
PINNED in a bucket (R38, R42, R48). -/
def TableInv (s : State) : Prop :=
  Tbl.wf s.filter.entries = true ∧ Tbl.below 512 s.filter.entries = true ∧
  (∀ i e, entryOf s i = some e → i / 4 = bucketOf e.addr e.cls) ∧
  (∀ i j d e, entryOf s i = some d → entryOf s j = some e → d.addr = e.addr → d.cls = e.cls → i = j) ∧
  (∀ b, pinnedInBucket s b ≤ 3)

/-- The pools' canonical form: blocks 0..2,047 and handles 0..1,023, numbers strictly rising (R28). -/
def StoreInv (s : State) : Prop :=
  Tbl.wf s.store.blocks = true ∧ Tbl.below 2048 s.store.blocks = true ∧
  Tbl.wf s.store.handles = true ∧ Tbl.below 1024 s.store.handles = true

/-- No queue holds more than its capacity (R139, R153), and the Notice Queue no more than 32 records
(R182). -/
def QueueInv (s : State) : Prop :=
  (∀ u q, ((s.uplink u).queue q).entries.length ≤ uplinkCapacity q) ∧
  (∀ q, (s.bay.queue q).entries.length ≤ bayCapacity q) ∧
  s.notices.records.length ≤ 32

/-- An uplink whose link state is DOWN sends nothing and holds nothing (R109, R151). -/
def LinkInv (s : State) : Prop :=
  ∀ u, (s.uplink u).linkUp = false →
    (s.uplink u).tx = none ∧ ∀ q, ((s.uplink u).queue q).entries = []

/-- In LOADING neither link state is UP (R108). -/
def LoadingInv (s : State) : Prop :=
  s.loader.part = .loading → s.u1.linkUp = false ∧ s.u2.linkUp = false

/-- The Origin Table's form: entries 0..63 with strictly rising numbers (R113), no address twice
(R117, R131), nothing in it in LOADING (R138), and otherwise entry 0 PINNED with the station address
(R114, R131). -/
def OriginInv (s : State) : Prop :=
  Tbl.wf s.pairing.entries = true ∧ Tbl.below 64 s.pairing.entries = true ∧
  (∀ i j d e, originOf s i = some d → originOf s j = some e → d.addr = e.addr → i = j) ∧
  (s.loader.part = .loading → s.pairing.entries = []) ∧
  (s.loader.part ≠ .loading →
    ∃ e, originOf s 0 = some e ∧ e.state = .pinned ∧ e.addr = s.loader.stationAddress)

/-- The levels of the Source Table are the counts they stand for (R38, R96). -/
def LevelInv (s : State) : Prop :=
  s.filter.entriesInUse = s.filter.entries.length ∧ s.filter.pinnedInUse = countPinned s ∧
  s.filter.single1 = countLost s .u2 ∧ s.filter.single2 = countLost s .u1

/-- A slot map has 64 slots, and each class as many of them as its count (R141). -/
def MapOf (c : SlotCounts) (m : List SlotClass) : Prop :=
  m.length = 64 ∧ m.count .event = c.event ∧ m.count .timing = c.timing ∧ m.count .stream = c.stream ∧
  m.count .general = 64 - (c.event + c.timing + c.stream)

/-- The active and the staged map of each uplink are maps of their counts (R141, R144). -/
def SlotInv (s : State) : Prop :=
  ∀ u, MapOf (s.uplink u).activeCounts (s.uplink u).activeMap ∧
    MapOf (s.uplink u).stagedCounts (s.uplink u).stagedMap

/-! #### Blocks, references and replies -/

/-- How many entries of a queue name a handle. -/
def Queue.naming (q : Queue) (h : Nat) : Nat := q.entries.countP fun e => e.handle == h

/-- How many queue entries of an uplink, and its transmission, name a handle. -/
def UplinkEgress.naming (e : UplinkEgress) (h : Nat) : Nat :=
  e.event.naming h + e.timing.naming h + e.stream.naming h + e.general.naming h +
    if e.tx.any (fun t => t.handle == h) then 1 else 0

/-- Whether B is sending a handle's frame. -/
def BayTx.sends (h : Nat) : BayTx → Bool
  | .frame k _ => k == h
  | .pause _ _ => false

/-- How many queue entries of the Bay Egress, and its transmission, name a handle. -/
def BayEgress.naming (b : BayEgress) (h : Nat) : Nat :=
  b.event.naming h + b.service.naming h + b.timing.naming h + b.stream.naming h + b.general.naming h +
    if b.tx.any (BayTx.sends h) then 1 else 0

/-- How many queue entries and transmit-in-progress records name a handle (R32). -/
def naming (s : State) (h : Nat) : Nat := s.u1.naming h + s.u2.naming h + s.bay.naming h

/-- Free, held and quarantined blocks are all 2,048; the blocks of a live handle's list are held by it, and
a held block is in the list of the live handle that holds it (R28). -/
def BlockInv (s : State) : Prop :=
  freeBlocks s + heldBlocks s + quarantinedBlocks s = 2048 ∧
  (∀ h r b, handleOf s h = some r → r.quarantined = false → b ∈ r.blocks →
    ∃ k, Tbl.look s.store.blocks b = some k ∧ k.owner = .held h) ∧
  (∀ h b k, Tbl.look s.store.blocks b = some k → k.owner = .held h →
    ∃ r, handleOf s h = some r ∧ r.quarantined = false ∧ b ∈ r.blocks)

/-- A live handle's Reference Count is 1 or 2 and the number of queue entries and transmissions that name
it; nothing names a free handle (R32). -/
def RefInv (s : State) : Prop :=
  (∀ h, handleOf s h = none → naming s h = 0) ∧
  (∀ h r, handleOf s h = some r → r.quarantined = false →
    r.refs = naming s h ∧ 1 ≤ r.refs ∧ r.refs ≤ 2)

/-- Outside RUN every live tagged frame that an uplink queues or sends is of class 2 and has a reply's Code,
0x80 or above, where a stored reply has it (R11, R120). -/
def ReplyInv (s : State) : Prop :=
  s.loader.part ≠ .run → ∀ u h r t, (s.uplink u).naming h ≠ 0 → handleOf s h = some r →
    r.quarantined = false → r.tag = some t →
    t.cls = .timing ∧ 0x80 ≤ (octetAt (storedFrame s r) 14).toNat

/-! #### Windows, twins and levels -/

/-- A window has seen its Head; a twin list holds at most 4 records with distinct sequences, each within 63
behind the Head with its flag set, and none without a window (R67, R77). -/
def Entry.windowOk (e : Entry) : Prop :=
  match e.window with
  | none => e.twins = []
  | some w =>
    w.seen.getLsbD 0 = true ∧ e.twins.length ≤ 4 ∧ (e.twins.map fun r => r.seq).Nodup ∧
    ∀ r ∈ e.twins, (w.head - r.seq).toNat ≤ 63 ∧ w.seen.getLsbD (w.head - r.seq).toNat = true

/-- Every entry's window and twin list fit each other (R67, R77). -/
def WindowInv (s : State) : Prop := ∀ i e, entryOf s i = some e → e.windowOk

/-- The levels of the Origin Table are the counts they stand for (R113). -/
def OriginLevelInv (s : State) : Prop :=
  s.pairing.originInUse = s.pairing.entries.length ∧
  s.pairing.originPinned = countOriginPinned s.pairing.entries

/-! ### Terms of single statements -/

/-- The credits of the map construction after `k` slots (R141). -/
def creditsAfter (c : SlotCounts) : Nat → SlotCredits
  | 0 => { event := 0, timing := 0, stream := 0, general := 0 }
  | k + 1 => ((creditsAfter c k).add c).charge ((creditsAfter c k).add c).winner

/-- The order in which a choice falls through (R145). -/
def slotRank : SlotClass → Nat
  | .event   => 0
  | .timing  => 1
  | .stream  => 2
  | .general => 3

/-- What one image record leaves of a setting's value (R188): a SETTING record of that setting that can be
applied replaces it. -/
def appliedValue (n : SettingName) (a : Nat) : ImageRecord → Nat
  | .setting o v =>
    if SettingName.ofObject o = some n then
      match n.kind.judge true v with
      | some (w, _) => w
      | none => a
    else a
  | _ => a

/-- A setting's value after an image's records (R188). -/
def imageValue (n : SettingName) (l : List ImageRecord) (st : Settings) : Nat :=
  l.foldl (appliedValue n) (n.get st)

/-- The order in which the bay choice takes its queues (R154). -/
def bayRank : BayQueue → Nat
  | .event   => 0
  | .service => 1
  | .timing  => 2
  | .stream  => 3
  | .general => 4

/-- Whether a handle is older than the Residence Limit of a bay queue that has one (R146, R154, R158). -/
def BayAged (s : State) (q : BayQueue) (r : Handle) : Prop :=
  0 < bayLimit s.settings q ∧ bayLimit s.settings q * 1000 < age s.stationTime r.arrival

/-- Whether a handle is older than the Residence Limit of an uplink queue that has one (R146). -/
def UplinkAged (s : State) (q : SlotClass) (r : Handle) : Prop :=
  0 < uplinkLimit s.settings q ∧ uplinkLimit s.settings q * 1000 < age s.stationTime r.arrival

/-- What R158 leaves of one bay queue: the entries dropped are its first, each aged, counted under Residence
Drops, and the head that is left is young enough. -/
def ScreenedHeld (s x : State) (q : BayQueue) (dropped : List QueueEntry) : Prop :=
  (s.bay.queue q).entries = dropped ++ (x.bay.queue q).entries ∧
  (x.bay.queue q).residenceDrops = (s.bay.queue q).residenceDrops + BitVec.ofNat 32 dropped.length ∧
  (x.bay.queue q).drops = (s.bay.queue q).drops ∧ (x.bay.queue q).overflow = (s.bay.queue q).overflow ∧
  (∀ e ∈ dropped, ∃ r, handleOf s e.handle = some r ∧ BayAged s q r) ∧
  (∀ e r, (x.bay.queue q).entries.head? = some e → handleOf x e.handle = some r → ¬ BayAged s q r)

/-- What Network n Suspect becomes when the network is judged at a count (R97). -/
def suspectAfter (threshold count : Nat) (flag : Bool) : Bool :=
  if flag then decide (max 1 (threshold / 2) ≤ count) else decide (threshold ≤ count)

/-- The outcome of an arrival that counts itself and no more: one Frame Received, and what `f` counts. -/
def CountedAs (o : Host.Outcome State Fault Refusal) (p : Port) (f : PortCounters → PortCounters)
    (s : State) : Prop :=
  HandledTo o (s.onPort p fun c => f { c with framesReceived := c.framesReceived + 1 })

/-- A tagged uplink frame passes tests 1 to 6 of R17: its tag reads `t`, by the uplink it came on, and it is
no presence frame of the part itself. -/
def TagPasses (u : Uplink) (f : List Octet) (t : Tag) (s : State) : Prop :=
  fcsGood f = true ∧ 64 ≤ f.length ∧ f.length ≤ 1528 ∧
  (walkUplink s.settings.tagMarker f).tagged = true ∧
  isPause (walkUplink s.settings.tagMarker f) f = false ∧
  (readTag f).valid ((walkUplink s.settings.tagMarker f).type f) s.settings.presenceMarker = some t ∧
  t.path = u ∧
  (t.cls = .presence →
    presenceIdentity (walkUplink s.settings.tagMarker f) f ≠ s.loader.stationAddress)

/-- An untagged uplink frame passes the tests of R17 that concern it, 1 to 3. -/
def UntaggedPasses (f : List Octet) (s : State) : Prop :=
  fcsGood f = true ∧ 64 ≤ f.length ∧ f.length ≤ 1522 ∧
  (walkUplink s.settings.tagMarker f).tagged = false ∧
  isPause (walkUplink s.settings.tagMarker f) f = false

/-- A bay frame passes the tests of R18 in QUIET and RUN. -/
def BayPasses (f : List Octet) (s : State) : Prop :=
  s.serving = true ∧ fcsGood f = true ∧ 64 ≤ f.length ∧ f.length ≤ 1522 ∧
  u16At f 12 ≠ s.settings.tagMarker ∧ isPause (walkBay f) f = false

/-- A path's fields after a miss for each record first seen on the other path, both counts saturating
(R81). -/
def Entry.missed (e : Entry) (q : Uplink) (l : List Twin) : PathRecord :=
  { e.path q with
    missRun := BitVec.ofNat 8
      (min 255 ((e.path q).missRun.toNat + l.countP fun r => r.firstPath == other q))
    missing := BitVec.ofNat 16
      (min 65535 ((e.path q).missing.toNat + l.countP fun r => r.firstPath == other q)) }

/-- Whether a visit finds an entry newly silent (R60): PINNED, Silent clear, and its Last Use older than its
Silence Limit. -/
def Entry.newlySilent (e : Entry) (now : Time) : Bool :=
  e.state == .pinned &&
    e.silence.any fun l => !l.silent && decide (l.limit.toNat * 1000 < age now e.lastUse)

/-- What an accepted arrival leaves of the twin list and what it counts, where `kept` of the old records are
left by its verdict and `gone` are evicted by the slide (R68, R78, R79, R81): the record of the arrival
joins, the oldest of four leaves for it, and each evicted record is one miss of the path that it was not
first on. -/
def TwinsJoined (now : Time) (t : Tag) (kept gone : List Twin) (e : Entry) (c : FilterCounters)
    (y : Screening) : Prop :=
  y.entry.twins = (if kept.length < 4 then kept else kept.tail) ++
    [{ seq := t.seq, firstPath := t.path, firstTime := now }] ∧
  (∀ q, y.entry.path q = e.missed q (gone ++ if kept.length < 4 then [] else kept.take 1)) ∧
  y.entry.accepted = satInc e.accepted ∧ y.entry.declaredInterval = t.interval ∧
  y.counters.twinOverflows = c.twinOverflows + (if kept.length < 4 then 0 else 1) ∧
  y.counters.twinSlides = c.twinSlides + BitVec.ofNat 32 gone.length ∧
  (y.counters.path1Accepted, y.counters.path2Accepted) =
    (match t.path with
      | .u1 => (c.path1Accepted + 1, c.path2Accepted)
      | .u2 => (c.path1Accepted, c.path2Accepted + 1))

/-- The outcome of an arrival whose management frame is stored in handle `h` of `s` and reaches the Agent
(R10, R24, R25): a Code of 0x80 or above is discarded, the code of a kind is served as that kind's row, any
other is answered BAD-REQUEST, and the frame's storage is freed unless an engine reset has freed it. -/
def AgentTakes (o : Host.Outcome State Fault Refusal) (port : Port) (h : Nat) (w : Walk) (f : List Octet)
    (s : State) : Prop :=
  ∃ r : Request,
    r = { port := port, source := sourceOf f, flags := octetAt (w.body f) 1, token := u16At (w.body f) 2,
          object := u16At (w.body f) 4, index := u16At (w.body f) 6, count := octetAt (w.body f) 8,
          values := valuesOf ((w.body f).drop 9) } ∧
    (0x80 ≤ (octetAt (w.body f) 0).toNat → o = .next (finish (freeHandle h
      (s.onPort port fun c => { c with managementDiscards := c.managementDiscards + 1 })))) ∧
    (∀ k : ReqKind, octetAt (w.body f) 0 = k.code →
      exec (commandOf k r) s = .next (finish (serve k r s)) ∧
      o = .next (finish (if (serve k r s).loader.part = .loading then serve k r s
        else freeHandle h (serve k r s)))) ∧
    ((octetAt (w.body f) 0).toNat < 0x80 → (∀ k : ReqKind, octetAt (w.body f) 0 ≠ k.code) →
      o = .next (finish (freeHandle h
        (sendReply (octetAt (w.body f) 0) r (refuse r .badRequest) s))))

/-- The number that a paired bay frame takes (R117, R118): the next of its sender's entry, the first of the
entry it has learned, or the Overflow counter's. -/
def Numbers (s : State) (a : Address) (c : TClass) (seq : BitVec 16) (epoch : BitVec 3) : Prop :=
  (∃ i e, originOf s i = some e ∧ e.addr = a ∧ e.check = 0 ∧ seq = e.next.get c ∧ epoch = e.epoch) ∨
  ((∀ i e, originOf s i = some e → e.addr ≠ a) ∧
    (((∃ i, 1 ≤ i ∧ i ≤ 63 ∧ originOf s i = none) ∧ seq = 0 ∧ epoch = s.pairing.epochCounter) ∨
     ((∀ i, 1 ≤ i → i ≤ 63 → (originOf s i).isSome = true) ∧
       seq = s.pairing.overflowSequence ∧ epoch = s.pairing.overflowEpoch)))

/-- Whether the Injection Control acts on a paired frame of a class (R133). -/
def Injects (s : State) (c : TClass) : Prop :=
  s.pairing.injection.mode ≠ .off ∧
  (s.pairing.injection.filter = none ∨ s.pairing.injection.filter = some c) ∧
  ∃ u, s.pairing.injection.target.names u = true ∧ (s.uplink u).linkUp = true

/-- What an uplink is after its part of a paired frame (R123, R134 to R136): as it was where it is DOWN or
its copy is omitted, and otherwise with the copy, marked as injected, at the tail of its class's queue. -/
def CopyMade (s x : State) (u : Uplink) (c : TClass) (h : Nat) (k : Option InjectKind) : Prop :=
  ((s.uplink u).linkUp = false ∨ k = some .omit → x.uplink u = s.uplink u) ∧
  ((s.uplink u).linkUp = true → k ≠ some .omit →
    (x.uplink u).queue (slotClassOf c) =
      { (s.uplink u).queue (slotClassOf c) with
        entries := ((s.uplink u).queue (slotClassOf c)).entries ++
          [{ handle := h, seqOffset := k == some .seqOffset, fcsCorrupt := k == some .fcsCorrupt }] } ∧
    ∀ q, q ≠ slotClassOf c → (x.uplink u).queue q = (s.uplink u).queue q)

/-- What becomes of the copies of a paired frame `f` of class `c`, stored in handle `h` and numbered `seq` and
`epoch`, with room in the queues of the uplinks that are UP (R119, R121, R123, R133 to R136): the Injection
Control acts where it matches, each uplink has its part, and the handle has a reference for each copy, or is
free with none. -/
def PairedCopies (s x : State) (c : TClass) (h : Nat) (f : List Octet) (seq : BitVec 16)
    (epoch : BitVec 3) : Prop :=
  ∃ k1 k2 : Option InjectKind,
    (Injects s c →
      k1 = (if s.pairing.injection.target.names .u1 then some s.pairing.injection.kind else none) ∧
      k2 = (if s.pairing.injection.target.names .u2 then some s.pairing.injection.kind else none) ∧
      x.pairing.injection =
        { s.pairing.injection with
          mode := if s.pairing.injection.mode = .once then .off else s.pairing.injection.mode }) ∧
    (¬ Injects s c → k1 = none ∧ k2 = none ∧ x.pairing.injection = s.pairing.injection) ∧
    CopyMade s x .u1 c h k1 ∧ CopyMade s x .u2 c h k2 ∧
    x.pairing.counters.injectedCopies = s.pairing.counters.injectedCopies +
      (if s.u1.linkUp = true ∧ k1 ≠ none then 1 else 0) +
      (if s.u2.linkUp = true ∧ k2 ≠ none then 1 else 0) ∧
    ∀ n, n = (if s.u1.linkUp = true ∧ k1 ≠ some .omit then 1 else 0) +
        (if s.u2.linkUp = true ∧ k2 ≠ some .omit then 1 else 0) →
      (n = 0 → handleOf x h = none) ∧
      (0 < n → ∃ g, handleOf x h = some g ∧ storedFrame x g = f ∧ g.refs = n ∧ g.cls = c ∧
        g.tag = some { seq := seq, path := none, epoch := epoch, cls := c,
                       interval := BitVec.ofNat 8 (s.settings.intervalOf c) })

/-- Neither uplink will start a frame at the end of a handling: its link is down, or it is sending, or all four
of its queues are empty. -/
def UplinksSettled (s : State) : Prop :=
  ∀ u, (s.uplink u).linkUp = false ∨ (s.uplink u).tx ≠ none ∨ ∀ q, ((s.uplink u).queue q).entries = []

/-- The handles that an abort and flush of an uplink release, in the order of the releases (R150, R151). -/
def UplinkEgress.released (e : UplinkEgress) : List Nat :=
  (e.tx.map fun t => t.handle).toList ++ e.allEntries.map fun q => q.handle

/-- Whether a handle is live and fails its check (R36). -/
def fails (s : State) (h : Nat) : Bool :=
  (handleOf s h).any fun r => !r.quarantined && r.check != 0

/-- What an abort and flush of an uplink leave of the Frame Store and count (R32, R36, R37, R150, R151): its
transmission and each of its queue entries release one reference. A handle that they do not name is kept, as is
one in quarantine; another loses a reference for each of them, and is free where none is left; one that fails
its check is quarantined and reported instead, once, by the uplink's port. Each entry counts one Flush Drop or
one Quarantine Drop: where none fails its check, the latter just where its handle is in quarantine, and then the
blocks of a handle freed are free, every other being kept. -/
def Flushed (u : Uplink) (s x : State) : Prop :=
  (∀ h, (s.uplink u).naming h = 0 ∨ handleOf s h = none → handleOf x h = handleOf s h) ∧
  (∀ h r n, n = (s.uplink u).naming h → n ≠ 0 → handleOf s h = some r → handleOf x h =
    if r.quarantined = true then some r
    else if r.check ≠ 0 then some { r with quarantined := true }
    else if r.refs ≤ n then none
    else some { r with refs := r.refs - n }) ∧
  x.reports = s.reports ++ (((s.uplink u).released.filter (fails s)).eraseDups.map fun h =>
    { kind := .handleCheck, location := h, port := some (uplinkPort u), cls := none }) ∧
  x.store =
    { s.store with
      blocks := x.store.blocks, handles := x.store.handles
      quarantineDrops := x.store.quarantineDrops } ∧
  (x.uplink u).flushDrops + x.store.quarantineDrops =
    (s.uplink u).flushDrops + s.store.quarantineDrops +
      BitVec.ofNat 32 (s.uplink u).allEntries.length ∧
  ((s.uplink u).released.any (fails s) = false →
    x.store.quarantineDrops = s.store.quarantineDrops +
      BitVec.ofNat 32 ((s.uplink u).allEntries.countP fun e => isQuarantined s e.handle) ∧
    (StoreInv s → ∀ b, Tbl.look x.store.blocks b =
      (Tbl.look s.store.blocks b).filter fun k =>
        match k.owner with
        | .quarantined => true
        | .held h => (handleOf x h).isSome || (handleOf s h).isNone))

/-! #### Path and network events (R99) -/

/-- The event of a path of entry `i`: its kind, the path as Where, the index and a miss run as Detail (R13). -/
def pathEvent (i : Nat) (e : Entry) (now : Time) (v : Uplink × EventKind × Nat) : EventRecord :=
  { kind := v.2.1, whr := BitVec.ofNat 8 (pathNumber v.1), cls := BitVec.ofNat 8 (classCode e.cls)
    detail := BitVec.ofNat 24 (i * 256 + v.2.2), addr := e.addr, time := now }

/-- The events of those networks, in this order, whose Suspect flag differs from `s` to `x` (R97, R98). -/
def networkEvents (l : List Uplink) (s x : State) : List EventRecord :=
  (l.filter fun n => x.filter.suspect n != s.filter.suspect n).map fun n =>
    { kind := if x.filter.suspect n then .networkSuspect else .networkClear
      whr := BitVec.ofNat 8 (pathNumber n), cls := 0xFF
      detail := BitVec.ofNat 24 (x.filter.lostCount n), addr := 0, time := s.stationTime }

/-! #### A check failure on a table entry -/

/-- From `s` to `y` Source Table entry `i`, found failing its Check, is FREE and ENTRY-CHECK is reported with
these fields (R47): every other entry is kept, the levels are counted anew, and each network whose summary
count has changed is judged, Network 2's events first (log 18). -/
def EntryFreed (i : Nat) (port : Option Port) (cls : Option TClass) (s y : State) : Prop :=
  OnlyFilter s y ∧ entryOf y i = none ∧ (∀ j, j ≠ i → entryOf y j = entryOf s j) ∧
  y.reports = s.reports ++ [{ kind := .entryCheck, location := i, port := port, cls := cls }] ∧
  y.filter =
    { s.filter with
      entries := y.filter.entries
      entriesInUse := s.filter.entriesInUse - 1
      pinnedInUse := countPinned y
      single1 := countLost y .u2
      single2 := countLost y .u1
      suspect1 := y.filter.suspect1
      suspect2 := y.filter.suspect2 } ∧
  (∀ n, y.filter.suspect n =
    if y.filter.lostCount n = s.filter.lostCount n then s.filter.suspect n
    else suspectAfter s.settings.suspectThreshold (y.filter.lostCount n) (s.filter.suspect n)) ∧
  y.notices = (networkEvents [.u2, .u1] s y).foldl Notices.add s.notices

/-- What the Pairing Unit is after Origin Table entry `i` is found failing its Check (R116): an entry of index
1..63 is FREE, Origin Pinned being counted anew; entry 0 is rebuilt with a new epoch (R114). -/
def OriginMended (i : Nat) (s y : State) : Prop :=
  (∀ j, j ≠ i → originOf y j = originOf s j) ∧
  (i ≠ 0 → originOf y i = none ∧
    y.pairing =
      { s.pairing with
        entries := y.pairing.entries
        originInUse := s.pairing.originInUse - 1
        originPinned := countOriginPinned y.pairing.entries }) ∧
  (i = 0 →
    originOf y 0 = some
      { state := .pinned, addr := s.loader.stationAddress, epoch := s.pairing.epochCounter
        next := { general := 0, stream := 0, timing := 0, event := 0, presence := 0 }
        lastSeen := s.stationTime, check := 0 } ∧
    y.pairing =
      { s.pairing with
        entries := y.pairing.entries, epochCounter := s.pairing.epochCounter + 1 })

/-- From `s` to `y` Origin Table entry `i`, found failing its Check, is freed or rebuilt and ORIGIN-CHECK is
reported with these fields (R116). -/
def OriginFails (i : Nat) (port : Option Port) (cls : Option TClass) (s y : State) : Prop :=
  OnlyPairing s y ∧ OriginMended i s y ∧
  y.reports = s.reports ++ [{ kind := .originCheck, location := i, port := port, cls := cls }]

/-- A bucket without a FREE way, and its entry that replacement takes: the ACTIVE one longest unused, the
earliest way where ages tie (R45). -/
def Replaced (i b : Nat) (s : State) : Prop :=
  i / 4 = b ∧ (∀ j, j / 4 = b → (entryOf s j).isSome = true) ∧
  ∃ e, entryOf s i = some e ∧ e.state = .active ∧
    ∀ j d, j / 4 = b → entryOf s j = some d → d.state = .active →
      age s.stationTime d.lastUse < age s.stationTime e.lastUse ∨
      age s.stationTime d.lastUse = age s.stationTime e.lastUse ∧ i ≤ j

/-- The Raised flags after the check that a building makes (R106): one is set just where it was set and its
Last Seen is not older than 4 Presence Intervals; each Last Seen is kept. -/
def Rearmed (s x : State) : Prop :=
  ∀ u,
    (x.presence.own u).joinedLastSeen = (s.presence.own u).joinedLastSeen ∧
    (x.presence.own u).loopLastSeen = (s.presence.own u).loopLastSeen ∧
    ((x.presence.own u).joinedRaised = true ↔ (s.presence.own u).joinedRaised = true ∧
      ∀ a, (s.presence.own u).joinedLastSeen = some a →
        age s.stationTime a ≤ 4 * s.settings.presenceInterval * 1000) ∧
    ((x.presence.own u).loopRaised = true ↔ (s.presence.own u).loopRaised = true ∧
      ∀ a, (s.presence.own u).loopLastSeen = some a →
        age s.stationTime a ≤ 4 * s.settings.presenceInterval * 1000)

/-! #### What the records of an image give (R188) -/

/-- The station address that one record leaves (R188 step 2). -/
def stationGiven (a : Address) : ImageRecord → Address
  | .station b => if isMulticast b = false ∧ b ≠ 0 then b else a
  | _ => a

/-- The addresses that ORIGIN-PIN records add, in the order of their entries, to a table that holds `held` and
has room for `room` more (R131). -/
def originsPinned (held : List Address) (room : Nat) (l : List ImageRecord) : List Address :=
  l.foldl (fun pins r =>
    match r with
    | .originPin a => if a ∈ held ∨ a ∈ pins ∨ room ≤ pins.length then pins else pins ++ [a]
    | _ => pins) []

/-- The PINNED keys that SOURCE-PIN records leave of those that were, the new ones in the order of their
pinning: at most 3 in a bucket (R48, R51). -/
def keysPinned (held : List (Address × TClass)) (l : List ImageRecord) : List (Address × TClass) :=
  l.foldl (fun keys r =>
    match r with
    | .sourcePin a c _ =>
      match classOf c with
      | none => keys
      | some k =>
        if (a, k) ∈ keys ∨ 3 ≤ (keys.filter fun p => bucketOf p.1 p.2 == bucketOf a k).length then keys
        else keys ++ [(a, k)]
    | _ => keys) held

/-- The Silence fields that SOURCE-PIN records leave of a PINNED key's: those of the last that names it, a limit
of 0 being none (R49, R51). -/
def silenceGiven (a : Address) (c : TClass) (old : Option Silence) (l : List ImageRecord) : Option Silence :=
  l.foldl (fun x r =>
    match r with
    | .sourcePin b k limit =>
      if b = a ∧ classOf k = some c then
        if limit = 0 then none else some { limit := BitVec.ofNat 16 limit, silent := false }
      else x
    | _ => x) old

/-- The classifier entry `i` that one record leaves (R188 step 6). -/
def classifierGiven (i : Nat) (e : ClassifierEntry) : ImageRecord → ClassifierEntry
  | .classifier j t m c p =>
    if j = i ∧ c ≤ 3 ∧ p ≤ 1 then
      { etherType := t, mask := m, cls := (classOf c).getD .general, paired := decide (p = 1) }
    else e
  | _ => e

/-- The slot counts that one record leaves of an uplink's, if a record has given any (R188 step 7). -/
def slotsGiven (u : Uplink) (c : Option SlotCounts) : ImageRecord → Option SlotCounts
  | .slots v e t st =>
    if v = pathNumber u ∧ e + t + st ≤ 64 then some { event := e, timing := t, stream := st } else c
  | _ => c

/-- Whether an image's record cannot be applied (R188), where the Origin Table holds `origins` and the PINNED
keys are `keys` once all records have been. -/
def ImageRecord.skippedIn (origins : List Address) (keys : List (Address × TClass)) : ImageRecord → Bool
  | .setting o v =>
    match SettingName.ofObject o with
    | none => true
    | some n => (n.kind.judge true v).isNone
  | .station a => isMulticast a || a == 0
  | .originPin a => decide (a ∉ origins)
  | .sourcePin a c _ =>
    match classOf c with
    | none => true
    | some k => decide ((a, k) ∉ keys)
  | .classifier i _ _ c p => decide (7 < i ∨ 3 < c ∨ 1 < p)
  | .slots u e t st => decide ((u ≠ 1 ∧ u ≠ 2) ∨ 64 < e + t + st)

/-! #### What a RELOAD finds in the tables (R51, R131) -/

/-- What a RELOAD that sets station address `a` keeps at an index of the Origin Table (R131): entry 0 with that
address, and any other entry that does not hold it. -/
def originKept (a : Address) (s : State) (i : Nat) : Option OriginEntry :=
  if i = 0 then (originOf s 0).map fun d => { d with addr := a }
  else (originOf s i).filter fun d => d.addr != a

/-- The addresses of the Origin Table that such a RELOAD keeps. -/
def originsHeld (a : Address) (s : State) : List Address :=
  ((List.range 64).filterMap (originKept a s)).map fun d => d.addr

/-- The FREE entries that such a RELOAD leaves for new pins, in index order. -/
def originsFree (a : Address) (s : State) : List Nat :=
  (List.range' 1 63).filter fun i => (originKept a s i).isNone

/-- The keys of the PINNED entries. -/
def keysHeld (s : State) : List (Address × TClass) :=
  (s.filter.entries.filter fun p => p.2.state == .pinned).map fun p => (p.2.addr, p.2.cls)

/-- Those of some keys that lie in bucket `b` and that no entry of it holds, in their order. -/
def keysFresh (keys : List (Address × TClass)) (b : Nat) (s : State) : List (Address × TClass) :=
  keys.filter fun p => bucketOf p.1 p.2 == b && (waysOf b).all fun i => !holdsKey s p.1 p.2 i

/-- The FREE ways of bucket `b`, in way order. -/
def waysFree (b : Nat) (s : State) : List Nat := (waysOf b).filter fun i => (entryOf s i).isNone

/-- An entry that a pin creates (R39, R50). -/
def pinnedEntry (a : Address) (c : TClass) (silence : Option Silence) (now : Time) : Entry :=
  { addr := a, cls := c, state := .pinned, window := none, declaredInterval := 0
    path1 := { state := .unseen, lastArrival := none, missRun := 0, missing := 0 }
    path2 := { state := .unseen, lastArrival := none, missRun := 0, missing := 0 }
    twins := [], skewAverage := none, sampleCount := 0, skewAlarm := false, silence := silence
    peerStatus := none, accepted := 0, repeats := 0, late := 0, stale := 0, resync := 0
    samePath := 0, unmatched := 0, created := now, lastUse := now, check := 0 }

end Sys2Proof.Machine
end

