-- ==== Sys2Proof/Certificates/Slice0/Obligations.lean ====
section
/-! DEFINITION. The statements for the provers, each a proposition about the model. What is claimed of a free
value or of a choice of the model names its log entry. -/

section

open Sys2Proof Sys2Proof.Machine

/-! ### Steps -/

/-- For every command c, queue rest and state s: a step of s with c at the front of its queue is exec of c
on s with the rest as its queue. With an empty queue (the model's own idle step, log 1, log 2, log 4):
nothing happens in chip reset; else the oldest fault report in flight is taken exactly as FAULT_REPORT takes
it; with none in flight Station Time rises by 1, the timers and transmissions run down by one microsecond,
and the commands of what runs out join the queue. (00 Part states and resets, 00 Conventions, R16, R160) -/
def Obligations.StepTakesTheFrontCommand : Prop :=
  (∀ (c : Instr) (rest : List Instr) (s : State),
    step { s with pending := c :: rest } = exec c { s with pending := rest }) ∧
  ∀ s : State, s.pending = [] →
    (s.resetN = false → step s = .next s) ∧
    (∀ r rest, s.resetN = true → s.reports = r :: rest → step s = exec (.faultReport r) s) ∧
    (s.resetN = true → s.reports = [] →
      step s = .next { passMicrosecond s with pending := expiries s } ∧
      (passMicrosecond s).stationTime = s.stationTime + 1)

/-- For every command c and every state s, exec of c on s answers a next state whose queue is the queue of
s. The queue is the model's own (log 1). (95 What each step holds) -/
def Obligations.EveryCommandAnswersANextState : Prop :=
  ∀ (c : Instr) (s : State), ∃ t, exec c s = .next t ∧ t.pending = s.pending

/-- Every command other than CHIP_RESET and CHIP_RESET_RELEASE leaves Station Time, the latched straps and
the level of RESET_N as they were, engine reset, RELOAD and escalation among them. The Settings store,
classifier included, is left alone by every timer expiry, link indication and completed transmission, and by
every request but WRITE and RESET with scope ENGINE. (An arrival may carry one of these requests, and a
fault report may escalate to an engine reset.) (R185, R186, R191, R174) -/
def Obligations.WhatCommandsLeaveAlone : Prop :=
  ∀ (c : Instr) (s t : State), exec c s = .next t → c ≠ .chipReset → (∀ p, c ≠ .chipResetRelease p) →
    t.stationTime = s.stationTime ∧ t.loader.straps = s.loader.straps ∧ t.resetN = s.resetN ∧
    ((∀ e, c ≠ .loadEnd e) → (∀ e, c ≠ .reloadEnd e) → (∀ u f, c ≠ .uplinkArrival u f) →
      (∀ f, c ≠ .bayArrival f) → (∀ r, c ≠ .faultReport r) → (∀ r, c ≠ .write r) →
      (∀ r, c ≠ .resetEngine r) → (∀ r, c = .resetPort r → r.index ≠ 3) → t.settings = s.settings)

/-! ### Resets and the Loader -/

/-- CHIP_RESET answers State.reset but for what lies outside the part: PHY levels, queue of commands, and
the record of what each port has sent, to which a transmission cut off adds a first part of its octets (how
long a part: log 10), without an FCS. (In State.reset the model's choices are the straps before the first
release, log 8, the PHYs, log 9, the record, log 10, the Settings store, station address and READY while
RESET_N is low, log 29, and Overflow Epoch 0, log 35.) With RESET_N low, CHIP_RESET_RELEASE sets RESET_N,
Station Time to 0, LOADING with READY low, the straps, the station address 02-B5-E0-00-00-0n, and the
Settings defaults with the soft straps among them, and changes nothing else. With RESET_N high it changes
nothing (log 30). With RESET_N low: every command but CHIP_RESET, CHIP_RESET_RELEASE and the link
indications leaves the state as it is, and a link indication changes the PHY level alone. That commands have
no effect here is how the model holds the part (log 7, log 30). (R185, R186, R63, R138, R140) -/
def Obligations.ChipResetAndRelease : Prop :=
  (∀ (c : Instr) (s : State), s.resetN = false →
    (∀ u, exec (.linkStateDown u) s = .next (s.onUplink u fun e => { e with phy := false })) ∧
    (∀ u, exec (.linkStateUp u) s = .next (s.onUplink u fun e => { e with phy := true })) ∧
    (c ≠ .chipReset → (∀ p, c ≠ .chipResetRelease p) → (∀ u, c ≠ .linkStateDown u) →
      (∀ u, c ≠ .linkStateUp u) → exec c s = .next s)) ∧
  (∀ s : State, ∃ x1 x2 xb k,
    exec .chipReset s = .next
      { State.reset with
        u1 := { UplinkEgress.reset with phy := s.u1.phy, sent := s.u1.sent ++ x1 }
        u2 := { UplinkEgress.reset with phy := s.u2.phy, sent := s.u2.sent ++ x2 }
        bay := { State.reset.bay with sent := s.bay.sent ++ xb }
        freeUses := k
        pending := s.pending } ∧
    (s.u1.tx = none → x1 = []) ∧ (∀ w, s.u1.tx = some w → ∃ n, x1 = [w.wire.octets.take n]) ∧
    (s.u2.tx = none → x2 = []) ∧ (∀ w, s.u2.tx = some w → ∃ n, x2 = [w.wire.octets.take n]) ∧
    (s.bay.tx = none → xb = []) ∧ (∀ w, s.bay.tx = some w → ∃ n, xb = [w.wire.octets.take n])) ∧
  ∀ (p : Straps) (s : State),
    (s.resetN = false → ∃ t, exec (.chipResetRelease p) s = .next t ∧
      t = { s with resetN := true, stationTime := 0, loader := t.loader, settings := t.settings } ∧
      t.loader = { s.loader with
        straps := p, part := .loading, ready := false, stationAddress := t.loader.stationAddress } ∧
      t.loader.stationAddress.toNat = 0x02B5E0000000 + p.addressStrap.toNat ∧
      t.settings = Settings.defaults p classifierAfterReset ∧
      t.settings.u1Speed1000 = p.u1Speed1000 ∧ t.settings.u2Speed1000 = p.u2Speed1000 ∧
      t.settings.pairGeneral = p.pairGeneral ∧ t.settings.bayPause = p.bayPause) ∧
    (s.resetN = true → exec (.chipResetRelease p) s = .next s)

/-- An admissible RESET request with scope ENGINE, Object 0 and Count 0 answers, without a reply, the state
after engine reset: Fault Unit, FAULT pin, Station Time, straps, image status, station address and PHY
levels kept, the part in LOADING with READY low, everything else as after chip reset with the Settings at
their defaults. A transmission in progress ends with a bad FCS after a first part of its octets. (How long a
part, and the record of the frames each port has sent, are log 10's; Overflow Epoch 0 in LOADING is the
model's choice, log 35.) (R180, R191, R164, R152, R5) -/
def Obligations.EngineResetKeepsFaultsAndTime : Prop :=
  ∀ (r : Request) (s : State), Admissible .reset r s → r.object = 0 → r.index = 3 → r.count = 0 →
    ∃ x1 x2 xb k,
    exec (.resetEngine r) s = .next
      { State.reset with
        resetN := s.resetN
        stationTime := s.stationTime
        loader :=
          { s.loader with
            part := .loading, quietTimer := none, reloadRunning := false, recordsSkipped := 0,
            ready := false }
        settings := Settings.defaults s.loader.straps classifierAfterReset
        u1 := { UplinkEgress.reset with phy := s.u1.phy, sent := s.u1.sent ++ x1 }
        u2 := { UplinkEgress.reset with phy := s.u2.phy, sent := s.u2.sent ++ x2 }
        bay := { State.reset.bay with sent := s.bay.sent ++ xb }
        faults := s.faults
        freeUses := k
        pending := s.pending } ∧
    (s.u1.tx = none → x1 = []) ∧
    (∀ w, s.u1.tx = some w → ∃ n, x1 = [withBadFcs (w.wire.octets.take n)]) ∧
    (s.u2.tx = none → x2 = []) ∧
    (∀ w, s.u2.tx = some w → ∃ n, x2 = [withBadFcs (w.wire.octets.take n)]) ∧
    (s.bay.tx = none → xb = []) ∧
    (∀ w, s.bay.tx = some w → ∃ n, xb = [withBadFcs (w.wire.octets.take n)])

/-- An admissible RESET request with scope PORT-1 or PORT-2 is answered OK from a state in which that uplink
sends nothing and holds nothing, its link state equals its PHY level, a link that was UP has counted one
Link Down, a transmission cut off one Transmit Abort, and its slot maps, Apply Pending, cursor, queue
counters and Overflow flags are kept. Each queue entry and the transmission have released one reference: a
handle with none left is free and so are its blocks, another has that many fewer, one in quarantine is kept,
one that fails its check is quarantined with HANDLE-CHECK reported once, Location the handle, Port this
uplink (log 39), Class absent; each entry counts one Flush Drop or, in quarantine, one Quarantine Drop.
LINK-DOWN joins the Notice Queue if the link was UP, then LINK-UP if the PHY is up. The octets gone out of a
cut-off transmission use one free value (log 10). Everything else is unchanged: the other uplink and its
counters, B, its counters and its pause state (no free-block test is made for the blocks freed: the model's
reading of R34, R193 and R33, log 38), the tables, Settings, Loader, Fault Unit. Any scope but these and
ENGINE is answered OUT-OF-RANGE. The Index of an OK reply, which R180 gives no value for, is the request's
(the model's choice, log 33). (R180, R193, R150, R151, R110, R152, R34, R32, R36, R37) -/
def Obligations.PortResetEmptiesOneUplink : Prop :=
  ∀ (r : Request) (s : State), Admissible .reset r s → r.object = 0 → r.count = 0 →
    (∀ u, r.index.toNat = pathNumber u → LinkInv s → ∃ x,
      AnsweredFrom (exec (.resetPort r) s) 0x11 r (okValues r []) x ∧
      (x.uplink u).linkUp = (s.uplink u).phy ∧ (x.uplink u).phy = (s.uplink u).phy ∧
      (x.uplink u).tx = none ∧ (∀ q, ((x.uplink u).queue q).entries = []) ∧
      (∀ q, ((x.uplink u).queue q).drops = ((s.uplink u).queue q).drops ∧
        ((x.uplink u).queue q).overflow = ((s.uplink u).queue q).overflow ∧
        ((x.uplink u).queue q).residenceDrops = ((s.uplink u).queue q).residenceDrops) ∧
      (x.uplink u).activeMap = (s.uplink u).activeMap ∧ (x.uplink u).stagedMap = (s.uplink u).stagedMap ∧
      (x.uplink u).activeCounts = (s.uplink u).activeCounts ∧
      (x.uplink u).stagedCounts = (s.uplink u).stagedCounts ∧
      (x.uplink u).cursor = (s.uplink u).cursor ∧ (x.uplink u).applyPending = (s.uplink u).applyPending ∧
      (x.port (uplinkPort u)).linkDowns =
        (s.port (uplinkPort u)).linkDowns + (if (s.uplink u).linkUp then 1 else 0) ∧
      (x.port (uplinkPort u)).transmitAborts =
        (s.port (uplinkPort u)).transmitAborts + (if (s.uplink u).tx.isSome then 1 else 0) ∧
      x.uplink (other u) = s.uplink (other u) ∧
      x.port (uplinkPort (other u)) = s.port (uplinkPort (other u)) ∧ Flushed u s x ∧
      x.notices =
        (([EventKind.linkDown].filter fun _ => (s.uplink u).linkUp) ++
          ([EventKind.linkUp].filter fun _ => (s.uplink u).phy)).foldl
          (fun n k => n.add
            { kind := k, whr := BitVec.ofNat 8 (pathNumber u), cls := 0xFF, detail := 0, addr := 0,
              time := s.stationTime })
          s.notices ∧
      x.freeUses = s.freeUses + (if (s.uplink u).tx.isSome then 1 else 0) ∧
      x.bay = s.bay ∧ x.pause = s.pause ∧ x.portB = s.portB ∧
      x = { s with
        u1 := x.u1, u2 := x.u2, portU1 := x.portU1, portU2 := x.portU2, store := x.store
        notices := x.notices, reports := x.reports, freeUses := x.freeUses }) ∧
    (r.index.toNat ≠ 1 → r.index.toNat ≠ 2 → r.index.toNat ≠ 3 →
      AnsweredFrom (exec (.resetPort r) s) 0x11 r (refuse r .outOfRange) s)

/-- Out of chip reset and in LOADING, LOAD_END answers a state in QUIET with READY high, the quiet timer at
the Window Hold of the new Settings, the scanner timer at 500 microseconds, the image status of the reading,
each link state equal to its PHY level, and Station Time and straps kept. In any other part state, or in
chip reset, it changes nothing (log 30). Out of chip reset with the quiet timer running, the expiry is
handled to a state in RUN with the quiet timer stopped, the presence timer at the Presence Interval, and
Settings, links and the Source Table entries unchanged. The Raised flags are checked as at every building of
a presence frame: one stays set just where its Last Seen is at most 4 Presence Intervals old. With neither
link UP it counts one Presence Skipped and stores no frame. With the quiet timer stopped nothing changes
(log 3). (R188, R189, R190, R56, R108, R100, R101, R106) -/
def Obligations.EntriesToQuietAndRun : Prop :=
  (∀ (e : List Octet) (s : State),
    (s.resetN = true → s.loader.part = .loading → ∃ t, exec (.loadEnd e) s = .next t ∧
      t.loader.part = .quiet ∧ t.loader.ready = true ∧
      t.loader.quietTimer = some (t.settings.windowHold * 1000) ∧ t.filter.scanTimer = some 500 ∧
      t.loader.imageStatus =
        (match readImage s.loader.straps e with
          | .valid _ => .applied
          | .absent => .absent
          | .bad _ => .bad) ∧
      (∀ u, (t.uplink u).phy = (s.uplink u).phy ∧ (t.uplink u).linkUp = (s.uplink u).phy) ∧
      t.stationTime = s.stationTime ∧ t.loader.straps = s.loader.straps ∧ t.resetN = true) ∧
    (s.resetN = false ∨ s.loader.part ≠ .loading → exec (.loadEnd e) s = .next s)) ∧
  ∀ s : State,
    (s.resetN = true → s.loader.quietTimer.isSome = true →
      ∃ x, HandledTo (exec .quietTimerExpiry s) x ∧
        x.loader = { s.loader with part := .run, quietTimer := none } ∧
        x.presence.timer = some (s.settings.presenceInterval * 1000) ∧ x.settings = s.settings ∧
        x.u1.linkUp = s.u1.linkUp ∧ x.u2.linkUp = s.u2.linkUp ∧ x.filter.entries = s.filter.entries ∧ Rearmed s x ∧
        (s.u1.linkUp = false → s.u2.linkUp = false → x.store = s.store ∧ x.pairing = s.pairing ∧
          x.filter.counters =
            { s.filter.counters with presenceSkipped := s.filter.counters.presenceSkipped + 1 })) ∧
    (s.loader.quietTimer = none → exec .quietTimerExpiry s = .next s)

/-- Out of chip reset and in LOADING, with the Pairing Unit as reset leaves it, LOAD_END of an absent or bad
image leaves the Settings defaults (classifier kept), the strapped station address, an Origin Table of entry
0 alone, PINNED with that address, Epoch 0 and sequences 0, Overflow at sequence 0 and Epoch 1, and the
Epoch Counter at 2. A bad image counts one IMAGE-CHECK fault, and with an empty Primary record the fault is
captured there at the offset found and FAULT goes high. (That it is counted and captured within LOAD_END's
own handling is read from R169 and R189: DEDUCED, log 5.) (R189, R114, R115, R118, R186, R162, R169) -/
def Obligations.LoadWithoutImageCreatesEntryZero : Prop :=
  ∀ (e : List Octet) (s : State), s.resetN = true → s.loader.part = .loading →
    s.pairing = State.reset.pairing →
    (readImage s.loader.straps e = .absent ∨ ∃ o, readImage s.loader.straps e = .bad o) →
    ∃ t, exec (.loadEnd e) s = .next t ∧
      t.settings = Settings.defaults s.loader.straps s.settings.classifier ∧
      t.loader.stationAddress = defaultStationAddress s.loader.straps ∧
      t.pairing =
        { State.reset.pairing with
          entries := [(0,
            { state := .pinned, addr := defaultStationAddress s.loader.straps, epoch := 0,
              next := { general := 0, stream := 0, timing := 0, event := 0, presence := 0 },
              lastSeen := s.stationTime, check := 0 })]
          originInUse := 1, originPinned := 1, epochCounter := 2, overflowSequence := 0,
          overflowEpoch := 1 } ∧
      (readImage s.loader.straps e = .absent → t.faults = { s.faults with resetAnnounce := false }) ∧
      (∀ o, readImage s.loader.straps e = .bad o →
        t.faults.counts = { s.faults.counts with imageCheck := s.faults.counts.imageCheck + 1 } ∧
        (s.faults.primary = none → t.faults.faultPin = true ∧
          t.faults.primary =
            some { kind := .imageCheck, time := s.stationTime, location := o, port := none,
                   cls := none }))

/-- LOAD_END of a valid image, out of chip reset and in LOADING, leaves each setting of the table of 9.2 at
the value of the last SETTING record for it that can be applied (clamped where it is numeric), or at its
default where there is none, whatever the other records are and in whatever order the settings come. With
the Pairing Unit and the Source Table as reset leaves them and Records Skipped 0, it is handled to a state
with the image applied. The station address is the last a STATION record gives that is neither multicast nor
zero, or the strapped default. The addresses of ORIGIN-PIN records are PINNED in record order in entries 1,
2, … to 63, a repeat changing nothing, with the epochs from Epoch Seed on; entry 0 has the station address
and the next epoch, a pin of that address then being FREE and uncounted, and Overflow has sequence 0 and the
epoch after. The keys of SOURCE-PIN records with a Class of at most 4 are PINNED, new in all else, in the
lowest ways of their buckets in record order, at most 3 in one, with the limit of the key's last record, 0
being none. The levels and Entries Created count these; no other level or counter of either table has moved.
Each classifier entry is as the last CLASSIFIER record for it with Class at most 3 and Paired at most 1
gives it whole, else kept; both the active and the staged counts and maps of an uplink are those of the last
SLOTS record for it with a sum of at most 64, else kept. Records Skipped is the number of the records that
cannot be applied: those left out above, and SETTING records of no settings object or with a value it does
not take. (R188, R15, R174, R186, R131, R114, R115, R118, R51, R49, R48, R144) -/
def Obligations.ImageSettingsEndAtTheLastValue : Prop :=
  (∀ (e : List Octet) (l : List RawRecord) (s : State), s.resetN = true → s.loader.part = .loading →
    readImage s.loader.straps e = .valid l →
    ∃ t, exec (.loadEnd e) s = .next t ∧ t.loader.imageStatus = .applied ∧
      ∀ n : SettingName, n.get t.settings =
        imageValue n (l.map RawRecord.read) (Settings.defaults s.loader.straps s.settings.classifier)) ∧
  ∀ (e : List Octet) (l : List RawRecord) (recs : List ImageRecord) (s : State), s.resetN = true →
    s.loader.part = .loading → readImage s.loader.straps e = .valid l →
    recs = l.map RawRecord.read → s.pairing = State.reset.pairing → s.filter = State.reset.filter →
    s.loader.recordsSkipped = 0 →
    ∃ (x : State) (pins : List Address) (keys : List (Address × TClass)) (seed : BitVec 3),
      HandledTo (exec (.loadEnd e) s) x ∧ x.loader.imageStatus = .applied ∧
      pins = originsPinned [] 63 recs ∧ keys = keysPinned [] recs ∧ seed = BitVec.ofNat 3 x.settings.epochSeed ∧
      x.loader.stationAddress = recs.foldl stationGiven (defaultStationAddress s.loader.straps) ∧
      originOf x 0 = some
        { state := .pinned, addr := x.loader.stationAddress, epoch := seed + BitVec.ofNat 3 pins.length,
          next := { general := 0, stream := 0, timing := 0, event := 0, presence := 0 },
          lastSeen := s.stationTime, check := 0 } ∧
      (∀ k a, pins[k]? = some a → originOf x (k + 1) =
        if a = x.loader.stationAddress then none
        else some
          { state := .pinned, addr := a, epoch := seed + BitVec.ofNat 3 k,
            next := { general := 0, stream := 0, timing := 0, event := 0, presence := 0 },
            lastSeen := s.stationTime, check := 0 }) ∧
      (∀ i, pins.length < i → originOf x i = none) ∧
      (∀ n, n = 1 + pins.countP (fun a => a != x.loader.stationAddress) →
        x.pairing =
          { State.reset.pairing with
            entries := x.pairing.entries, originInUse := n, originPinned := n
            epochCounter := seed + BitVec.ofNat 3 (pins.length + 2), overflowSequence := 0
            overflowEpoch := seed + BitVec.ofNat 3 (pins.length + 1) }) ∧
      (∀ b w, b < 128 → w < 4 → entryOf x (b * 4 + w) =
        ((keys.filter fun p => bucketOf p.1 p.2 == b)[w]?).map fun (p : Address × TClass) =>
          pinnedEntry p.1 p.2 (silenceGiven p.1 p.2 none recs) s.stationTime) ∧
      x.filter =
        { State.reset.filter with
          entries := x.filter.entries, entriesInUse := keys.length, pinnedInUse := keys.length
          scanTimer := some 500
          counters :=
            { FilterCounters.zero with entriesCreated := BitVec.ofNat 32 keys.length } } ∧
      (∀ i, i < 8 → x.settings.classifierEntry i =
        recs.foldl (classifierGiven i) (s.settings.classifierEntry i)) ∧
      (∀ u,
        (∀ c, recs.foldl (slotsGiven u) none = some c →
          (x.uplink u).activeCounts = c ∧ (x.uplink u).stagedCounts = c ∧
          (x.uplink u).activeMap = buildMap c ∧ (x.uplink u).stagedMap = buildMap c) ∧
        (recs.foldl (slotsGiven u) none = none →
          (x.uplink u).activeCounts = (s.uplink u).activeCounts ∧
          (x.uplink u).stagedCounts = (s.uplink u).stagedCounts ∧
          (x.uplink u).activeMap = (s.uplink u).activeMap ∧
          (x.uplink u).stagedMap = (s.uplink u).stagedMap)) ∧
      x.loader.recordsSkipped = BitVec.ofNat 16 (recs.countP (ImageRecord.skippedIn pins keys))

/-- An admissible RELOAD with Object, Index and Count 0 is answered OK with Reload Running set, nothing else
changed, when no reload runs, and NOT-NOW while one does. While one runs in QUIET or RUN, RELOAD_END is
handled to a state with Reload Running clear, the image status of the reading, and part state, READY, quiet,
scanner and presence timers and straps unchanged. An absent or bad image leaves the Settings defaults,
classifier kept, no record skipped, and station address and tables as they were. A valid image leaves every
setting at the last value a SETTING record gives it. With both tables in form and their Checks holding, it
leaves the station address of the last usable STATION record or the strapped one, also in entry 0, its Epoch
and sequences kept and, where it changes, Last Seen too (log 32); another entry that held it is freed,
Origin Removed counting it; every other Origin entry is kept, PINNED if a record names it; new addresses are
PINNED in the FREE entries in record order, with the epochs from Epoch Seed on; Overflow and injection are
kept. The PINNED keys are the old ones and those that records add, at most 3 in a bucket; PINNED entries
stay, with the limit of the key's last record; an ACTIVE entry after it was there before; in a bucket whose
FREE ways suffice, every entry stays, PINNED if its key is, and new keys take the FREE ways in record order.
Classifier entries are as the last CLASSIFIER record gives them, else kept. Of each uplink, the staged
counts and map are those of the last applied SLOTS record or the default, Apply Pending is set, and the
active ones and all else are kept. Records Skipped counts the records that cannot be applied. The Index of
an OK reply, which R180 gives no value for, is the request's (the model's choice, log 33). (R180, R192,
R188, R144, R131, R51, R49, R48, R115, R15, R186, R22) -/
def Obligations.ReloadRequestAndItsEnd : Prop :=
  (∀ (r : Request) (s : State), Admissible .reload r s → r.object = 0 → r.index = 0 → r.count = 0 →
    (s.loader.reloadRunning = false →
      AnsweredFrom (exec (.reload r) s) 0x10 r (okValues r [])
        { s with loader := { s.loader with reloadRunning := true } }) ∧
    (s.loader.reloadRunning = true →
      AnsweredFrom (exec (.reload r) s) 0x10 r (refuse r .notNow) s)) ∧
  (∀ (e : List Octet) (s : State), s.serving = true → s.loader.reloadRunning = true →
    ∃ x, HandledTo (exec (.reloadEnd e) s) x ∧
      x.loader.reloadRunning = false ∧ x.loader.part = s.loader.part ∧ x.loader.ready = s.loader.ready ∧
      x.loader.quietTimer = s.loader.quietTimer ∧ x.loader.straps = s.loader.straps ∧
      x.filter.scanTimer = s.filter.scanTimer ∧ x.presence = s.presence ∧
      x.loader.imageStatus =
        (match readImage s.loader.straps e with
          | .valid _ => .applied
          | .absent => .absent
          | .bad _ => .bad) ∧
      (∀ l, readImage s.loader.straps e = .valid l →
        (∀ u, (x.uplink u).applyPending = true) ∧
        ∀ n : SettingName, n.get x.settings =
          imageValue n (l.map RawRecord.read)
            (Settings.defaults s.loader.straps s.settings.classifier)) ∧
      ((∀ l, readImage s.loader.straps e ≠ .valid l) →
        x.settings = Settings.defaults s.loader.straps s.settings.classifier ∧
        x.loader.recordsSkipped = 0 ∧ x.loader.stationAddress = s.loader.stationAddress ∧
        x.filter.entries = s.filter.entries ∧ x.pairing.entries = s.pairing.entries ∧
        x.u1 = s.u1 ∧ x.u2 = s.u2)) ∧
  ∀ (e : List Octet) (l : List RawRecord) (recs : List ImageRecord) (s : State), s.serving = true →
    s.loader.reloadRunning = true → readImage s.loader.straps e = .valid l →
    recs = l.map RawRecord.read → OriginInv s → TableInv s →
    (∀ i o, originOf s i = some o → o.check = 0) → (∀ i d, entryOf s i = some d → d.check = 0) →
    ∃ (x : State) (a : Address) (pins : List Address) (keys : List (Address × TClass)) (seed : BitVec 3),
      HandledTo (exec (.reloadEnd e) s) x ∧
      a = recs.foldl stationGiven (defaultStationAddress s.loader.straps) ∧
      pins = originsPinned (originsHeld a s) (originsFree a s).length recs ∧
      keys = keysPinned (keysHeld s) recs ∧ seed = BitVec.ofNat 3 x.settings.epochSeed ∧
      x.loader.stationAddress = a ∧
      (∀ i o, originKept a s i = some o → originOf x i = some
        (if ImageRecord.originPin o.addr ∈ recs then { o with state := .pinned } else o)) ∧
      (∀ k i : Nat, (originsFree a s)[k]? = some i → originOf x i = (pins[k]?).map fun b =>
        { state := .pinned, addr := b, epoch := seed + BitVec.ofNat 3 k,
          next := { general := 0, stream := 0, timing := 0, event := 0, presence := 0 },
          lastSeen := s.stationTime, check := 0 }) ∧
      (∀ i, 63 < i → originOf x i = none) ∧ (OriginLevelInv s → OriginLevelInv x) ∧
      x.pairing =
        { s.pairing with
          entries := x.pairing.entries, originInUse := x.pairing.originInUse
          originPinned := x.pairing.originPinned
          epochCounter := seed + BitVec.ofNat 3 pins.length
          counters :=
            { s.pairing.counters with
              originRemoved := s.pairing.counters.originRemoved +
                BitVec.ofNat 32 ((List.range' 1 63).countP fun i =>
                  (originOf s i).isSome && (originKept a s i).isNone) } } ∧
      (∀ b c, (b, c) ∈ keys ↔
        ∃ i d, entryOf x i = some d ∧ d.addr = b ∧ d.cls = c ∧ d.state = .pinned) ∧
      (∀ i d, entryOf s i = some d → d.state = .pinned → entryOf x i = some
        { d with silence := silenceGiven d.addr d.cls d.silence recs }) ∧
      (∀ i d, entryOf x i = some d → d.state = .active → entryOf s i = some d) ∧
      (∀ b, b < 128 → (keysFresh keys b s).length ≤ (waysFree b s).length →
        (∀ i d, i / 4 = b → entryOf s i = some d → entryOf x i = some
          (if (d.addr, d.cls) ∈ keys then
            { d with state := .pinned, silence := silenceGiven d.addr d.cls d.silence recs }
           else d)) ∧
        (∀ k i : Nat, (waysFree b s)[k]? = some i → entryOf x i = ((keysFresh keys b s)[k]?).map fun (p : Address × TClass) =>
          pinnedEntry p.1 p.2 (silenceGiven p.1 p.2 none recs) s.stationTime)) ∧
      x.filter.pinnedInUse = s.filter.pinnedInUse + (keys.length - (keysHeld s).length) ∧
      (∀ i, i < 8 → x.settings.classifierEntry i =
        recs.foldl (classifierGiven i) (s.settings.classifierEntry i)) ∧
      (∀ u c, c = (recs.foldl (slotsGiven u) none).getD { event := 8, timing := 4, stream := 20 } →
        x.uplink u =
          { s.uplink u with stagedCounts := c, stagedMap := buildMap c, applyPending := true }) ∧
      x.loader.recordsSkipped =
        BitVec.ofNat 16 (recs.countP (ImageRecord.skippedIn (originsHeld a s ++ pins) keys))

/-! ### Timers -/

/-- Out of chip reset with the refresh timer running, its expiry is handled to a state with the timer
restarted (16,777 microseconds at 1,000 Mb/s, 167,770 at 100 Mb/s) and Pause Asserted as it was; with B's
transmitter free the pause frame of quanta 65,535 is on the wire and counted (at once: log 13), with it busy
the pause is pending, in the place of one not yet started. With the received-pause timer running, its expiry
is handled to the state with Held clear and that timer stopped, nothing else changed. With its timer stopped
neither changes anything (log 3). The free-block test does nothing with Bay Pause clear. With it set: Pause
Asserted clear and free blocks below Pause On make a pause of quanta 65,535 pending, set Pause Asserted and
start the timer; Pause Asserted set and free blocks at or above Pause Off make one of quanta 0 pending,
clear it and stop the timer; nothing else does anything. A pending pause replaces one not started and is on
the wire at once when B is free (log 13). The test follows every storing and every freeing (a port reset
keeps nothing of what it does: log 38), and a write of Bay Pause, Pause On or Pause Off with Bay Pause then
set. (R34, R33, R7, R156, R157, R175) -/
def Obligations.PauseTimerExpiries : Prop :=
  (∀ s : State,
    (s.resetN = true → s.pause.refresh.isSome = true →
      ∃ x, HandledTo (exec .pauseRefreshTimerExpiry s) x ∧ OnlyStorage s x ∧ x.store = s.store ∧
        x.pause.asserted = s.pause.asserted ∧
        x.pause.refresh = some (if s.loader.straps.bay1000 then 16777 else 167770) ∧
        (s.bay.tx = none → x.pause.pending = none ∧
          x.bay = { s.bay with
            tx := some (.pause 65535 (putOnWire s.loader.straps.bay1000
              (pauseFrame s.loader.stationAddress 65535))) } ∧
          x.portB = { s.portB with pausesSent := s.portB.pausesSent + 1 }) ∧
        (s.bay.tx ≠ none → x.pause.pending = some 65535 ∧ x.bay = s.bay ∧ x.portB = s.portB)) ∧
    (s.pause.refresh = none → exec .pauseRefreshTimerExpiry s = .next s) ∧
    (s.resetN = true → s.bay.pauseTimer.isSome = true →
      HandledTo (exec .receivedPauseTimerExpiry s)
        { s with bay := { s.bay with held := false, pauseTimer := none } }) ∧
    (s.bay.pauseTimer = none → exec .receivedPauseTimerExpiry s = .next s)) ∧
  ∀ s : State,
    (s.settings.bayPause = false → pauseTest s = s) ∧
    (∀ stop : Bool, s.settings.bayPause = true → s.pause.asserted = !stop →
      (if stop then freeBlocks s < s.settings.pauseOn else s.settings.pauseOff ≤ freeBlocks s) →
      ∃ q x, q = (if stop then 65535 else 0) ∧ x = pauseTest s ∧ OnlyStorage s x ∧ x.store = s.store ∧
        x.pause.asserted = stop ∧
        x.pause.refresh =
          (if stop then some (if s.loader.straps.bay1000 then 16777 else 167770) else none) ∧
        (s.bay.tx = none → x.pause.pending = none ∧
          x.bay = { s.bay with
            tx := some (.pause q (putOnWire s.loader.straps.bay1000
              (pauseFrame s.loader.stationAddress q))) } ∧
          x.portB = { s.portB with pausesSent := s.portB.pausesSent + 1 }) ∧
        (s.bay.tx ≠ none → x.pause.pending = some q ∧ x.bay = s.bay ∧ x.portB = s.portB)) ∧
    (s.pause.asserted = false → s.settings.pauseOn ≤ freeBlocks s → pauseTest s = s) ∧
    (s.pause.asserted = true → freeBlocks s < s.settings.pauseOff → pauseTest s = s) ∧
    (∀ f c t, ∃ y, storeFrame f c t s = pauseTest y ∧ y = { s with store := y.store }) ∧
    (∀ h, ∃ y, freeHandle h s = pauseTest y ∧ y = { s with store := y.store }) ∧
    (∀ n, n = .bayPause ∨ n = .pauseOn ∨ n = .pauseOff → s.settings.bayPause = true →
      settingAction n s = pauseTest s)

/-- Out of chip reset with the scanner timer running, the expiry is handled to a state with the timer at 500
microseconds and both cursors one further, wrapping. Only entries of the bucket at the cursor and the Origin
entry at its cursor may differ, no entry appears, no key, State, Path State or Peer Status changes, and
store, ports, egresses, presence state, Settings, Loader and Fault Unit are unchanged. In that bucket an
entry whose Check holds is FREE afterwards just when it is ACTIVE with a Last Use more than Source Age
seconds old. One that stays has lost the twin records at the head of its list that are over the Twin
Timeout, up to the first that is not, each a miss of the path it was not first on, both counts saturating;
if it is PINNED with Silent clear and a Last Use over its Silence Limit old, Silent is set; each stored time
a 1,000 seconds old or older is held at just that age; the rest of it is kept. With the Check of all four
holding, Twin Timeouts rises by the records gone and Aged Out by the entries freed, no other counter
changing; with none freed, the Notice Queue takes just one SOURCE-SILENT for each entry found silent, in way
order, with its index, class and address. The Origin entry at its cursor, its Check holding, is FREE
afterwards if it is LEARNED with a Last Seen more than Origin Age seconds old, Origin Aged one higher and
Origin In Use one lower; else it is kept, its Last Seen held likewise, and nothing else of the Pairing Unit
changes. An entry of the bucket whose Check fails is FREE afterwards, an Origin entry is freed with Origin
Pinned counted anew, or rebuilt if it is entry 0; ENTRY-CHECK for each such way in order, then ORIGIN-CHECK,
is reported with its index, Port and Class absent (the bucket first: log 33). With the timer stopped nothing
changes (log 3). (R56, R57, R58, R59, R60, R61, R81, R94, R127, R13, R47, R116) -/
def Obligations.ScannerVisitsOneBucketAndOneOrigin : Prop :=
  ∀ s : State,
    (s.filter.scanTimer = none → exec .tableScannerTimerExpiry s = .next s) ∧
    (s.resetN = true → s.filter.scanTimer.isSome = true →
    ∃ x, HandledTo (exec .tableScannerTimerExpiry s) x ∧ x.filter.scanTimer = some 500 ∧
      x.filter.bucketCursor = s.filter.bucketCursor + 1 ∧
      x.filter.originCursor = s.filter.originCursor + 1 ∧
      (∀ i, i / 4 ≠ s.filter.bucketCursor.val → entryOf x i = entryOf s i) ∧
      (∀ i e, entryOf x i = some e → ∃ d, entryOf s i = some d ∧ d.addr = e.addr ∧ d.cls = e.cls ∧
        d.state = e.state ∧ d.window.isSome = e.window.isSome ∧ d.path1.state = e.path1.state ∧
        d.path2.state = e.path2.state ∧ d.peerStatus = e.peerStatus) ∧
      (∀ i e, i / 4 = s.filter.bucketCursor.val → entryOf s i = some e → e.check = 0 →
        (entryOf x i = none ↔
          e.state = .active ∧ s.settings.sourceAge * 1000000 < age s.stationTime e.lastUse)) ∧
      (∃ (hold : Time → Time) (out : Nat → List Twin),
        (∀ a, hold a = if 1000000000 ≤ age s.stationTime a then s.stationTime - 1000000000 else a) ∧
        (∀ i, i / 4 = s.filter.bucketCursor.val → entryOf s i = none → out i = []) ∧
        (∀ i e, i / 4 = s.filter.bucketCursor.val → entryOf s i = some e → e.check = 0 →
          ∃ kept, e.twins = out i ++ kept ∧
            (∀ r, r ∈ out i → s.settings.twinTimeout * 1000 < age s.stationTime r.firstTime) ∧
            (∀ r, kept.head? = some r → age s.stationTime r.firstTime ≤ s.settings.twinTimeout * 1000) ∧
            ∀ d, entryOf x i = some d →
              d = ({ e with
                created := hold e.created, lastUse := hold e.lastUse
                window := e.window.map fun w => { w with lastAccept := hold w.lastAccept }
                path1 := { e.missed .u1 (out i) with lastArrival := e.path1.lastArrival.map hold }
                path2 := { e.missed .u2 (out i) with lastArrival := e.path2.lastArrival.map hold }
                twins := kept.map fun r => { r with firstTime := hold r.firstTime }
                silence := e.silence.map fun l =>
                  { l with silent := l.silent || e.newlySilent s.stationTime } } : Entry)) ∧
        ((∀ i e, i / 4 = s.filter.bucketCursor.val → entryOf s i = some e → e.check = 0) →
          x.filter.counters =
            { s.filter.counters with
              twinTimeouts := s.filter.counters.twinTimeouts +
                BitVec.ofNat 32 ((waysOf s.filter.bucketCursor.val).map fun i => (out i).length).sum
              agedOut := s.filter.counters.agedOut +
                BitVec.ofNat 32 ((waysOf s.filter.bucketCursor.val).countP fun i =>
                  (entryOf s i).isSome && (entryOf x i).isNone) } ∧
          ((∀ i, i / 4 = s.filter.bucketCursor.val → (entryOf s i).isSome = true →
              (entryOf x i).isSome = true) →
            x.notices = (waysOf s.filter.bucketCursor.val).foldl (fun n i =>
              match entryOf s i with
              | some e =>
                if e.newlySilent s.stationTime = true then
                  n.add { kind := .sourceSilent, whr := 0, cls := classOctet (some e.cls)
                          detail := BitVec.ofNat 24 (i * 256), addr := e.addr, time := s.stationTime }
                else n
              | none => n) s.notices))) ∧
      (∀ j, j ≠ s.filter.originCursor.val → originOf x j = originOf s j) ∧
      (originOf s s.filter.originCursor.val = none → x.pairing = s.pairing) ∧
      (∀ o, originOf s s.filter.originCursor.val = some o →
        (o.check = 0 → o.state = .learned →
          s.settings.originAge * 1000000 < age s.stationTime o.lastSeen →
          originOf x s.filter.originCursor.val = none ∧
          x.pairing =
            { s.pairing with
              entries := x.pairing.entries
              originInUse := s.pairing.originInUse - 1
              counters :=
                { s.pairing.counters with originAged := s.pairing.counters.originAged + 1 } }) ∧
        (o.check = 0 →
          o.state = .pinned ∨ age s.stationTime o.lastSeen ≤ s.settings.originAge * 1000000 →
          originOf x s.filter.originCursor.val = some
            { o with
              lastSeen :=
                if 1000000000 ≤ age s.stationTime o.lastSeen then s.stationTime - 1000000000
                else o.lastSeen } ∧
          x.pairing = { s.pairing with entries := x.pairing.entries }) ∧
        (o.check ≠ 0 → OriginMended s.filter.originCursor.val s x)) ∧
      (∀ i e, i / 4 = s.filter.bucketCursor.val → entryOf s i = some e → e.check ≠ 0 →
        entryOf x i = none) ∧
      x.reports = s.reports ++
        (((waysOf s.filter.bucketCursor.val).filter fun i =>
            (entryOf s i).any fun e => e.check != 0).map fun i =>
          { kind := .entryCheck, location := i, port := none, cls := none }) ++
        (if (originOf s s.filter.originCursor.val).any fun o => o.check != 0 then
          [{ kind := .originCheck, location := s.filter.originCursor.val, port := none, cls := none }]
         else []) ∧
      x.store = s.store ∧ x.portU1 = s.portU1 ∧ x.portU2 = s.portU2 ∧ x.portB = s.portB ∧
      x.pause = s.pause ∧ x.u1 = s.u1 ∧ x.u2 = s.u2 ∧ x.bay = s.bay ∧ x.presence = s.presence ∧
      x.settings = s.settings ∧ x.loader = s.loader ∧ x.faults = s.faults)

/-- Out of chip reset with the presence timer running, the expiry is handled to a state with the timer at
the Presence Interval. Each of the four Raised flags is set afterwards just where it was set with a Last
Seen at most 4 Presence Intervals old; each Last Seen is kept and no event is raised for it. With neither
link UP, Presence Skipped rises by 1 and store and Pairing Unit are unchanged. With a link UP and a free
block and handle, Presence Built rises by 1 and an entry 0 whose Check holds has handed out one class-4
sequence, its Last Seen written, its other sequences, Epoch and address kept. If its Check fails, the expiry
does what it does once entry 0 is rebuilt with ORIGIN-CHECK reported, Port absent, class 4. With the pools
in canonical form and room in the Timing queue of each uplink that is UP, a handle that was free is then the
frame's, other handles are kept, and each uplink that is UP has a copy at its Timing queue's tail, but as
the Injection Control, when it matches class 4, has it omitted, FCS-Corrupt or with Sequence Offset; with a
copy made the handle holds the presence frame of the state before, of class 4, a reference for each copy,
tagged with the sequence handed out, entry 0's Epoch and the Presence Interval. A presence frame is 58
octets: the Presence Group, the station address, the Presence Marker, Identity the station address, three
times the status copy, ten zeros, its FCS (log 31). The status copy, for counts within their fields, is an
octet of both links, both Suspect flags, Primary occupied, the part state and a 0, then Single-1 and
Single-2 Count, Origin entries and Source entries in use. With the timer stopped nothing changes (log 3).
(R100, R101, R8, R121, R122, R123, R126, R133, R134, R136, R106, R116) -/
def Obligations.PresenceTimerBuildsOneFrame : Prop :=
  (∀ s : State,
    (s.resetN = true → s.presence.timer.isSome = true →
      ∃ x, HandledTo (exec .presenceTimerExpiry s) x ∧
        x.presence.timer = some (s.settings.presenceInterval * 1000) ∧ x.settings = s.settings ∧
        x.loader = s.loader ∧ x.filter.entries = s.filter.entries ∧ Rearmed s x ∧
        (anyLinkUp s = false → x.store = s.store ∧ x.pairing = s.pairing ∧ x.notices = s.notices ∧
          x.filter.counters =
            { s.filter.counters with presenceSkipped := s.filter.counters.presenceSkipped + 1 }) ∧
        (anyLinkUp s = true → 0 < freeBlocks s → 0 < freeHandles s →
          x.filter.counters =
            { s.filter.counters with presenceBuilt := s.filter.counters.presenceBuilt + 1 } ∧
          ∀ e, originOf s 0 = some e → e.check = 0 →
            originOf x 0 = some
              { e with
                next := { e.next with presence := e.next.presence + 1 }
                lastSeen := s.stationTime } ∧
            (StoreInv s →
              (∀ u, (s.uplink u).linkUp = true → (s.uplink u).timing.entries.length < 64) →
              ∃ h, handleOf s h = none ∧ (∀ g, g ≠ h → handleOf x g = handleOf s g) ∧
                x.notices = s.notices ∧
                PairedCopies s x .presence h (presenceOctets s) e.next.presence e.epoch))) ∧
    (∀ e, s.resetN = true → s.presence.timer.isSome = true → anyLinkUp s = true → 0 < freeBlocks s →
      0 < freeHandles s → originOf s 0 = some e → e.check ≠ 0 →
      ∃ y, OriginFails 0 none (some .presence) s y ∧
        exec .presenceTimerExpiry s = exec .presenceTimerExpiry y) ∧
    (s.presence.timer = none → exec .presenceTimerExpiry s = .next s)) ∧
  ∀ s : State, s.filter.single1 < 65536 → s.filter.single2 < 65536 → s.pairing.originInUse < 256 →
    s.filter.entriesInUse < 65536 →
    ∃ (o : Octet) (copy : List Octet),
      copy = o :: (beOctets 2 s.filter.single1 ++ beOctets 2 s.filter.single2 ++
        beOctets 1 s.pairing.originInUse ++ beOctets 2 s.filter.entriesInUse) ∧
      o.getLsbD 7 = s.u1.linkUp ∧ o.getLsbD 6 = s.u2.linkUp ∧ o.getLsbD 5 = s.filter.suspect1 ∧
      o.getLsbD 4 = s.filter.suspect2 ∧ o.getLsbD 3 = s.faults.primary.isSome ∧
      (o.extractLsb' 1 2).toNat =
        (match s.loader.part with
          | .loading => 0
          | .quiet => 1
          | .run => 2) ∧
      o.getLsbD 0 = false ∧
      presenceOctets s = withFcs (addrOctets s.settings.presenceGroup ++
        addrOctets s.loader.stationAddress ++ beOctets 2 s.settings.presenceMarker.toNat ++
        addrOctets s.loader.stationAddress ++ copy ++ copy ++ copy ++ List.replicate 10 0) ∧
      (presenceOctets s).length = 58

/-- In QUIET or RUN with the notice timer running and neither uplink about to start a frame (each is DOWN,
or sending, or its queues are empty): with no record waiting the timer stops and nothing else of the Notice
Queue changes. With records waiting, two free blocks, a free handle and room in the Service queue, the
oldest eight records leave, Dropped returns to 0, Notices Sent rises by 1 and the timer runs for the Notice
Spacing. With the pools in canonical form, the state the Bay Egress then makes its choice from (log 14) has
at the Service queue's tail a handle that was free and now holds, untagged and with one reference, the
notice frame of these records, their Count and the Dropped of before, stored with its FCS (log 31). With the
timer stopped nothing changes (log 3). (R183, R12) -/
def Obligations.NoticeTimerSendsUpToEightRecords : Prop :=
  ∀ s : State,
    (s.serving = true → s.notices.timer.isSome = true → UplinksSettled s →
      ∃ t, exec .noticeTimerExpiry s = .next t ∧ t.settings = s.settings ∧ t.filter = s.filter ∧
        (s.notices.records = [] → t.notices = { s.notices with timer := none }) ∧
        (s.notices.records ≠ [] → 2 ≤ freeBlocks s → 1 ≤ freeHandles s →
          s.bay.service.entries.length < 16 →
          t.notices =
            { s.notices with
              records := s.notices.records.drop 8, dropped := 0
              noticesSent := s.notices.noticesSent + 1
              timer := some (s.settings.noticeSpacing * 1000) } ∧
          (StoreInv s → ∃ h g x, t = bayChoice x ∧ handleOf s h = none ∧ handleOf x h = some g ∧
            x.bay.service =
              { s.bay.service with
                entries := s.bay.service.entries ++
                  [{ handle := h, seqOffset := false, fcsCorrupt := false }] } ∧
            (∀ q, q ≠ .service → x.bay.queue q = s.bay.queue q) ∧ g.refs = 1 ∧ g.tag = none ∧
            storedFrame x g = sealFrame 64
              (addrOctets s.settings.noticeDestination ++ addrOctets s.loader.stationAddress ++
                beOctets 2 s.settings.managementMarker.toNat ++
                [0xC0, s.notices.dropped, BitVec.ofNat 8 (s.notices.records.take 8).length] ++
                (s.notices.records.take 8).flatMap eventOctets)))) ∧
    (s.notices.timer = none → exec .noticeTimerExpiry s = .next s)

/-! ### Links and egress -/

/-- In QUIET or RUN. DOWN with the link UP is handled to a state with link and PHY down, nothing on the
wire, all four queues empty, drop counters, Overflow flags, maps and cursor kept, Link Downs one higher,
Transmit Aborts one higher if a copy was on the wire, LINK-DOWN handed to the Notice Queue, one reference
released for each queue entry and for the transmission, and the other uplink with its counters, bay queues,
tables, Settings and Loader unchanged. UP with the link DOWN is handled to the state with PHY and link UP
and LINK-UP handed to the Notice Queue, nothing else changed. A handle with no reference left is free with
its blocks, another has that many fewer, one in quarantine is kept, and one that fails its check is
quarantined with HANDLE-CHECK reported once by this uplink; each entry counts one Flush Drop or, in
quarantine, one Quarantine Drop. That an indication the link state already has changes the PHY level alone
is the model's choice (log 9: R108 speaks of each change of an indication). In LOADING every indication
changes the PHY level alone. (R108, R109, R150, R151, R32, R36, R37) -/
def Obligations.LinkIndications : Prop :=
  ∀ (u : Uplink) (s : State),
    (s.serving = true → (s.uplink u).linkUp = true → ∃ x, HandledTo (exec (.linkStateDown u) s) x ∧
      (x.uplink u).linkUp = false ∧ (x.uplink u).phy = false ∧ (x.uplink u).tx = none ∧
      (∀ q, ((x.uplink u).queue q).entries = [] ∧
        ((x.uplink u).queue q).drops = ((s.uplink u).queue q).drops ∧
        ((x.uplink u).queue q).overflow = ((s.uplink u).queue q).overflow ∧
        ((x.uplink u).queue q).residenceDrops = ((s.uplink u).queue q).residenceDrops) ∧
      (x.uplink u).activeMap = (s.uplink u).activeMap ∧ (x.uplink u).stagedMap = (s.uplink u).stagedMap ∧
      (x.uplink u).cursor = (s.uplink u).cursor ∧ (x.uplink u).applyPending = (s.uplink u).applyPending ∧
      x.port (uplinkPort u) =
        { s.port (uplinkPort u) with
          linkDowns := (s.port (uplinkPort u)).linkDowns + 1
          transmitAborts := (s.port (uplinkPort u)).transmitAborts +
            (if (s.uplink u).tx.isSome then 1 else 0) } ∧
      x.notices = s.notices.add
        { kind := .linkDown, whr := BitVec.ofNat 8 (pathNumber u), cls := 0xFF, detail := 0, addr := 0,
          time := s.stationTime } ∧
      Flushed u s x ∧ x.port (uplinkPort (other u)) = s.port (uplinkPort (other u)) ∧
      x.uplink (other u) = s.uplink (other u) ∧ (∀ q, x.bay.queue q = s.bay.queue q) ∧
      x.filter = s.filter ∧ x.pairing = s.pairing ∧ x.presence = s.presence ∧
      x.settings = s.settings ∧ x.loader = s.loader ∧ x.faults = s.faults) ∧
    (s.serving = true → (s.uplink u).linkUp = false →
      HandledTo (exec (.linkStateDown u) s) (s.onUplink u fun e => { e with phy := false })) ∧
    (s.serving = true → (s.uplink u).linkUp = false →
      HandledTo (exec (.linkStateUp u) s)
        ((s.onUplink u fun e => { e with phy := true, linkUp := true }).onNotices fun n =>
          n.add { kind := .linkUp, whr := BitVec.ofNat 8 (pathNumber u), cls := 0xFF, detail := 0,
                  addr := 0, time := s.stationTime })) ∧
    (s.serving = true → (s.uplink u).linkUp = true →
      HandledTo (exec (.linkStateUp u) s) (s.onUplink u fun e => { e with phy := true })) ∧
    (s.serving = false →
      exec (.linkStateDown u) s = .next (s.onUplink u fun e => { e with phy := false }) ∧
      exec (.linkStateUp u) s = .next (s.onUplink u fun e => { e with phy := true }))

/-- On an uplink: out of chip reset with a copy on the wire, the completion is handled to a state with the
uplink idle, the copy's octets added to what it has sent, and Frames Sent one higher. A handle whose Check
holds and whose count is 2 or more has one reference less; at 1 (or below) it is free with all its blocks. A
quarantined handle is left alone. A handle whose Check fails is quarantined with its blocks and HANDLE-CHECK
is reported. With nothing on the wire nothing changes (log 3). On B: out of chip reset. A frame on B's wire
is handled to a state with its octets added to what B has sent, Frames Sent of B one higher, and its handle,
if its Check holds and it has one reference, free with its blocks; bay queues, uplinks and tables are
unchanged. A pause frame on the wire is handled to a state with its octets added and Frames Sent unchanged.
In both cases, with Bay Pause off for the first, a pause that was pending is then on the wire, counted under
Pauses Sent, and with none pending B is idle. With nothing of its kind on the wire neither command changes
anything (log 3). (R149, R155, R156, R32, R36, R37) -/
def Obligations.CompletionsReleaseTheirFrames : Prop :=
  (∀ (u : Uplink) (s : State),
    (∀ w, s.resetN = true → (s.uplink u).tx = some w →
      ∃ x, HandledTo (exec (.uplinkTransmissionComplete u) s) x ∧
        x.uplink u = { s.uplink u with tx := none, sent := (s.uplink u).sent ++ [w.wire.octets] } ∧
        x.uplink (other u) = s.uplink (other u) ∧ (∀ q, x.bay.queue q = s.bay.queue q) ∧
        x.port (uplinkPort u) =
          { s.port (uplinkPort u) with framesSent := (s.port (uplinkPort u)).framesSent + 1 } ∧
        x.filter = s.filter ∧ x.pairing = s.pairing ∧ x.notices = s.notices ∧
        (∀ h, h ≠ w.handle → handleOf x h = handleOf s h) ∧
        ∀ r, handleOf s w.handle = some r →
          (r.quarantined = true → x.store = s.store ∧ x.reports = s.reports) ∧
          (r.quarantined = false → r.check = 0 → 1 < r.refs →
            handleOf x w.handle = some { r with refs := r.refs - 1 } ∧
            x.store.blocks = s.store.blocks) ∧
          (r.quarantined = false → r.check = 0 → r.refs ≤ 1 →
            handleOf x w.handle = none ∧
            x.store.blocks = s.store.blocks.filter fun b => b.2.owner != .held w.handle) ∧
          (r.quarantined = false → r.check ≠ 0 →
            handleOf x w.handle = some { r with quarantined := true } ∧
            (∀ b k, (b, k) ∈ x.store.blocks → k.owner ≠ .held w.handle) ∧
            x.reports = s.reports ++
              [{ kind := .handleCheck, location := w.handle, port := some (uplinkPort u),
                 cls := none }])) ∧
    ((s.uplink u).tx = none → exec (.uplinkTransmissionComplete u) s = .next s)) ∧
  ∀ s : State,
    (∀ h w, s.resetN = true → s.bay.tx = some (.frame h w) →
      ∃ x, HandledTo (exec .bayTransmissionComplete s) x ∧
        x.bay.sent = s.bay.sent ++ [w.octets] ∧ (∀ q, x.bay.queue q = s.bay.queue q) ∧
        x.portB.framesSent = s.portB.framesSent + 1 ∧ OnlyStorage s x ∧
        (∀ g, g ≠ h → handleOf x g = handleOf s g) ∧
        (∀ r, handleOf s h = some r → r.quarantined = false → r.check = 0 → r.refs ≤ 1 →
          handleOf x h = none ∧
          x.store.blocks = s.store.blocks.filter fun b => b.2.owner != .held h) ∧
        (s.settings.bayPause = false →
          (s.pause.pending = none → x.bay.tx = none ∧ x.portB.pausesSent = s.portB.pausesSent) ∧
          (∀ q, s.pause.pending = some q → x.pause.pending = none ∧
            x.portB.pausesSent = s.portB.pausesSent + 1 ∧
            x.bay.tx = some (.pause q (putOnWire s.loader.straps.bay1000
              (pauseFrame s.loader.stationAddress q)))))) ∧
    ((∀ h w, s.bay.tx ≠ some (.frame h w)) → exec .bayTransmissionComplete s = .next s) ∧
    (∀ p w, s.resetN = true → s.bay.tx = some (.pause p w) →
      ∃ x, HandledTo (exec .pauseFrameComplete s) x ∧ OnlyStorage s x ∧ x.store = s.store ∧
        x.bay.sent = s.bay.sent ++ [w.octets] ∧ x.portB.framesSent = s.portB.framesSent ∧
        (s.pause.pending = none → x.bay.tx = none ∧ x.portB = s.portB) ∧
        (∀ q, s.pause.pending = some q → x.pause.pending = none ∧
          x.portB.pausesSent = s.portB.pausesSent + 1 ∧
          x.bay.tx = some (.pause q (putOnWire s.loader.straps.bay1000
            (pauseFrame s.loader.stationAddress q))))) ∧
    ((∀ p w, s.bay.tx ≠ some (.pause p w)) → exec .pauseFrameComplete s = .next s)

/-- With the link UP and nothing on the wire, let q be the queue the current slot names, or, where that is
empty, the first non-empty one in the order Event, Timing, Stream, General. If the head of q passes the
screening (handle live, Checks of handle and blocks holding, not over its Residence Limit), the choice puts
it on the wire at the uplink's speed, takes it from q, touches no other queue, counts a Fall-Through Start
just when it fell through, and moves the cursor by one. When the cursor wraps with Apply Pending set, the
staged map and counts become active and stay staged, Apply Pending is cleared and SLOT-APPLIED is handed to
the Notice Queue with the uplink and these counts. If the head of q fails, it leaves q with the effect of
the first test that fails, and the choice is made again with the cursor and the rest of the uplink unmoved:
quarantined, Quarantine Drops rises by 1 and nothing else changes; with a wrong Check, the handle is
quarantined and HANDLE-CHECK reported for this port; over the Residence Limit, Residence Drops of q rises by
1; with a bad block, BLOCK-CHECK is reported for this port and the frame's class. In the last two one
reference is released, and the last one frees the handle. (R145, R146, R148, R143, R13, R32, R35, R36, R37)
-/
def Obligations.SlotChoiceStartsTheHead : Prop :=
  (∀ (u : Uplink) (q : SlotClass) (fell : Bool) (e : QueueEntry) (rest : List QueueEntry) (r : Handle)
    (s : State),
    (s.uplink u).linkUp = true → (s.uplink u).tx = none →
    (fell = false → q = (s.uplink u).slot) →
    (fell = true → ((s.uplink u).queue (s.uplink u).slot).entries = [] ∧
      ∀ p, slotRank p < slotRank q → ((s.uplink u).queue p).entries = []) →
    ((s.uplink u).queue q).entries = e :: rest → handleOf s e.handle = some r →
    r.quarantined = false → r.check = 0 → firstBadBlock s r.blocks = none →
    (uplinkLimit s.settings q = 0 ∨ age s.stationTime r.arrival ≤ uplinkLimit s.settings q * 1000) →
    ∃ x, x = uplinkChoice u s ∧
      (x.uplink u).tx = some
        { handle := e.handle, queue := q, seqOffset := e.seqOffset, fcsCorrupt := e.fcsCorrupt,
          wire := putOnWire (uplinkFast s.settings u) (copyOctets u e s) } ∧
      ((x.uplink u).queue q).entries = rest ∧
      (∀ p, p ≠ q → (x.uplink u).queue p = (s.uplink u).queue p) ∧
      (x.uplink u).cursor = (s.uplink u).cursor + 1 ∧
      (x.uplink u).fallThroughStarts = (s.uplink u).fallThroughStarts + (if fell then 1 else 0) ∧
      (((s.uplink u).cursor = 63 ∧ (s.uplink u).applyPending = true →
        (x.uplink u).activeMap = (s.uplink u).stagedMap ∧
        (x.uplink u).activeCounts = (s.uplink u).stagedCounts ∧ (x.uplink u).applyPending = false ∧
        x.notices = s.notices.add
          { kind := .slotApplied, whr := BitVec.ofNat 8 (pathNumber u), cls := 0xFF
            detail := BitVec.ofNat 24 ((s.uplink u).stagedCounts.event * 65536 +
              (s.uplink u).stagedCounts.timing * 256 + (s.uplink u).stagedCounts.stream)
            addr := 0, time := s.stationTime })) ∧
      (x.uplink u).stagedMap = (s.uplink u).stagedMap ∧
      (x.uplink u).stagedCounts = (s.uplink u).stagedCounts ∧
      (¬ ((s.uplink u).cursor = 63 ∧ (s.uplink u).applyPending = true) →
        (x.uplink u).activeMap = (s.uplink u).activeMap ∧
        (x.uplink u).applyPending = (s.uplink u).applyPending ∧ x.notices = s.notices) ∧
      x.store = s.store ∧ x.uplink (other u) = s.uplink (other u) ∧ OnlyEgress s x) ∧
  ∀ (u : Uplink) (q : SlotClass) (fell : Bool) (e : QueueEntry) (rest : List QueueEntry) (r : Handle)
    (s : State),
    (s.uplink u).linkUp = true → (s.uplink u).tx = none →
    (fell = false → q = (s.uplink u).slot) →
    (fell = true → ((s.uplink u).queue (s.uplink u).slot).entries = [] ∧
      ∀ p, slotRank p < slotRank q → ((s.uplink u).queue p).entries = []) →
    ((s.uplink u).queue q).entries = e :: rest → handleOf s e.handle = some r →
    (r.quarantined = true ∨ r.check ≠ 0 ∨ UplinkAged s q r ∨ (firstBadBlock s r.blocks).isSome = true) →
    ∃ y n, uplinkChoice u s = uplinkChoice u y ∧ OnlyEgress s y ∧ y.notices = s.notices ∧
      y.uplink (other u) = s.uplink (other u) ∧ (∀ p, y.bay.queue p = s.bay.queue p) ∧
      y.uplink u = ((s.uplink u).onQueue q fun k =>
        { k with entries := rest, residenceDrops := k.residenceDrops + n }) ∧
      (∀ h, h ≠ e.handle → handleOf y h = handleOf s h) ∧
      (r.quarantined = true → n = 0 ∧
        y = { s with
          u1 := y.u1, u2 := y.u2
          store := { s.store with quarantineDrops := s.store.quarantineDrops + 1 } }) ∧
      (r.quarantined = false → r.check ≠ 0 → n = 0 ∧
        handleOf y e.handle = some { r with quarantined := true } ∧
        y.reports = s.reports ++
          [{ kind := .handleCheck, location := e.handle, port := some (uplinkPort u), cls := none }]) ∧
      (r.quarantined = false → r.check = 0 →
        handleOf y e.handle = if r.refs ≤ 1 then none else some { r with refs := r.refs - 1 }) ∧
      (r.quarantined = false → r.check = 0 → UplinkAged s q r → n = 1 ∧ y.reports = s.reports) ∧
      (∀ b, r.quarantined = false → r.check = 0 → ¬ UplinkAged s q r →
        firstBadBlock s r.blocks = some b → n = 0 ∧
        y.reports = s.reports ++
          [{ kind := .blockCheck, location := b, port := some (uplinkPort u), cls := some r.cls }])

/-- An entry offered to an uplink queue: below its capacity (Event and Timing 64, Stream and General 256) it
joins the tail, drops and Overflow flag unchanged, store unchanged. At capacity the queued entries are
untouched, Queue Drops rises by 1, Overflow is set, and one reference of its handle is released. Either way
the other queues of the uplink and the other uplink are unchanged, in either link state. (R139) -/
def Obligations.OffersJoinOrAreDropped : Prop :=
  ∀ (p : Option Port) (u : Uplink) (q : SlotClass) (e : QueueEntry) (s : State),
    ∃ x, x = offerUplink p u q e s ∧
      (uplinkCapacity .event = 64 ∧ uplinkCapacity .timing = 64 ∧ uplinkCapacity .stream = 256 ∧
        uplinkCapacity .general = 256) ∧
      (((s.uplink u).queue q).entries.length < uplinkCapacity q →
        (x.uplink u).queue q =
          { (s.uplink u).queue q with entries := ((s.uplink u).queue q).entries ++ [e] } ∧
        x.store = s.store) ∧
      (uplinkCapacity q ≤ ((s.uplink u).queue q).entries.length →
        (x.uplink u).queue q =
          { (s.uplink u).queue q with drops := ((s.uplink u).queue q).drops + 1, overflow := true } ∧
        x.store = (release p e.handle s).store) ∧
      (∀ k, k ≠ q → (x.uplink u).queue k = (s.uplink u).queue k) ∧
      x.uplink (other u) = s.uplink (other u)

/-- A frame offered to a bay queue below its capacity (Event and Timing 64, Service 16, Stream and General
256) joins the tail and is answered taken; at capacity it is answered refused, Queue Drops rises by 1,
Overflow is set and its reference is released; other queues are unchanged. With B free, no pause pending and
no hold, the choice takes the first non-empty queue in the order Event, Service, Timing, Stream, General. A
head that passes screening is on the wire at B's speed, its tag removed, and has left its queue, nothing
else changed. A quarantined head, one whose handle Check fails, one over its Residence Limit or one with a
bad block leaves its queue, with the effect of its test, and the choice is made again. In any other state
the choice does nothing. (R153, R154, R146, R6, R36, R37) -/
def Obligations.BayOffersAndChoice : Prop :=
  (bayCapacity .event = 64 ∧ bayCapacity .service = 16 ∧ bayCapacity .timing = 64 ∧
    bayCapacity .stream = 256 ∧ bayCapacity .general = 256) ∧
  (∀ (p : Option Port) (q : BayQueue) (h : Nat) (s : State), ∃ a x, offerBay p q h s = (a, x) ∧
    ((s.bay.queue q).entries.length < bayCapacity q → a = true ∧ x.store = s.store ∧
      x.bay.queue q =
        { s.bay.queue q with
          entries := (s.bay.queue q).entries ++
            [{ handle := h, seqOffset := false, fcsCorrupt := false }] }) ∧
    (bayCapacity q ≤ (s.bay.queue q).entries.length → a = false ∧
      x.store = (release p h s).store ∧
      x.bay.queue q =
        { s.bay.queue q with drops := (s.bay.queue q).drops + 1, overflow := true }) ∧
    (∀ k, k ≠ q → x.bay.queue k = s.bay.queue k) ∧ x.u1 = s.u1 ∧ x.u2 = s.u2) ∧
  (∀ (q : BayQueue) (e : QueueEntry) (rest : List QueueEntry) (r : Handle) (s : State),
    s.bay.tx = none → s.pause.pending = none → s.bay.held = false →
    (∀ p, bayRank p < bayRank q → (s.bay.queue p).entries = []) →
    (s.bay.queue q).entries = e :: rest → handleOf s e.handle = some r →
    (r.quarantined = false → r.check = 0 → ¬ BayAged s q r → firstBadBlock s r.blocks = none →
      ∃ x, x = bayChoice s ∧ OnlyStorage s x ∧ x.store = s.store ∧ x.pause = s.pause ∧
        x.portB = s.portB ∧ x.reports = s.reports ∧
        x.bay.tx = some (.frame e.handle (putOnWire s.loader.straps.bay1000
          (bayOctets (storedFrame s r) r.tag.isSome))) ∧
        x.bay.queue q = { s.bay.queue q with entries := rest } ∧
        (∀ p, p ≠ q → x.bay.queue p = s.bay.queue p) ∧ x.bay.held = false ∧
        x.bay.pauseTimer = s.bay.pauseTimer ∧ x.bay.sent = s.bay.sent) ∧
    (r.quarantined = true ∨ r.check ≠ 0 ∨ BayAged s q r ∨ (firstBadBlock s r.blocks).isSome = true →
      ∃ y, bayChoice s = bayChoice y ∧ OnlyStorage s y ∧
        (∀ p, p ≠ q → y.bay.queue p = s.bay.queue p) ∧
        (∀ h, h ≠ e.handle → handleOf y h = handleOf s h) ∧
        (r.quarantined = true → y.bay.queue q = { s.bay.queue q with entries := rest } ∧
          y.store = { s.store with quarantineDrops := s.store.quarantineDrops + 1 } ∧
          y.reports = s.reports) ∧
        (r.quarantined = false → r.check ≠ 0 →
          y.bay.queue q = { s.bay.queue q with entries := rest } ∧
          handleOf y e.handle = some { r with quarantined := true } ∧
          y.reports = s.reports ++
            [{ kind := .handleCheck, location := e.handle, port := some .b, cls := none }]) ∧
        (r.quarantined = false → r.check = 0 → r.refs ≤ 1 → handleOf y e.handle = none) ∧
        (r.quarantined = false → r.check = 0 → BayAged s q r →
          y.bay.queue q =
            { s.bay.queue q with
              entries := rest, residenceDrops := (s.bay.queue q).residenceDrops + 1 } ∧
          y.reports = s.reports) ∧
        (∀ b, r.quarantined = false → r.check = 0 → ¬ BayAged s q r →
          firstBadBlock s r.blocks = some b →
          y.bay.queue q = { s.bay.queue q with entries := rest } ∧
          y.reports = s.reports ++
            [{ kind := .blockCheck, location := b, port := some .b, cls := some r.cls }]))) ∧
  ∀ s : State,
    (s.bay.tx ≠ none ∨ s.pause.pending ≠ none ∨ s.bay.held = true ∨
      ∀ q, (s.bay.queue q).entries = []) → bayChoice s = s

/-- For counts whose sum is at most 64: the map has 64 slots; slot k goes to the class of largest credit
after the counts are added (ties in the order Event, Timing, Stream, General), whose credit falls by 64;
before the adding of any slot the credits sum to 0, and after it to 64, so that the winner's is positive; a
class of count 0 never has a credit above 0; after slot 63 all four credits are 0; and Event, Timing and
Stream have won exactly their counts, General 64 minus their sum. (R141) -/
def Obligations.SlotMapsServeEachCountExactly : Prop :=
  ∀ c : SlotCounts, c.event + c.timing + c.stream ≤ 64 →
    MapOf c (buildMap c) ∧
    (∀ k, k < 64 → (buildMap c)[k]? = some ((creditsAfter c k).add c).winner) ∧
    (∀ k, k ≤ 64 →
      (creditsAfter c k).event + (creditsAfter c k).timing + (creditsAfter c k).stream +
        (creditsAfter c k).general = 0 ∧
      (c.event = 0 → (creditsAfter c k).event ≤ 0) ∧ (c.timing = 0 → (creditsAfter c k).timing ≤ 0) ∧
      (c.stream = 0 → (creditsAfter c k).stream ≤ 0) ∧
      (c.general = 0 → (creditsAfter c k).general ≤ 0)) ∧
    (∀ k, k < 64 →
      match ((creditsAfter c k).add c).winner with
      | .event   => 0 < ((creditsAfter c k).add c).event
      | .timing  => 0 < ((creditsAfter c k).add c).timing
      | .stream  => 0 < ((creditsAfter c k).add c).stream
      | .general => 0 < ((creditsAfter c k).add c).general) ∧
    creditsAfter c 64 = { event := 0, timing := 0, stream := 0, general := 0 }

/-! ### Frames and storage -/

/-- For every Tag Marker, uplink, stored frame of at least 16 octets, tag fields, Sequence Offset and
FCS-Corrupt flag: octets 12 and 13 of what the uplink sends are the Tag Marker, and reading the tag back
gives the stored Sequence (plus 1 under Sequence Offset), the uplink's own path number, and the stored
Epoch, Class and Interval. What is sent is 6 octets longer than what is stored. (R3, R5, R148, R136) -/
def Obligations.TagRoundTrip : Prop :=
  ∀ (m : BitVec 16) (u : Uplink) (f : List Octet) (t : TagFields) (so fc : Bool), 16 ≤ f.length →
    u16At (uplinkOctets m u f (some t) so fc) 12 = m ∧
    readTag (uplinkOctets m u f (some t) so fc) =
      { seq := t.seq + (if so then 1 else 0), path := pathNumber u, epoch := t.epoch,
        cls := classCode t.cls, interval := t.interval } ∧
    (uplinkOctets m u f (some t) so fc).length = f.length + 6

/-- For every stored frame of 64 octets or more whose FCS matches, every Tag Marker, uplink and tag fields:
what the uplink sends has a matching FCS, and what B sends for it after removing the tag is the frame as it
was stored, octet for octet. (R5, R6, R148, R154) -/
def Obligations.TagInsertionAndRemovalCancel : Prop :=
  ∀ (m : BitVec 16) (u : Uplink) (f : List Octet) (t : TagFields) (so : Bool),
    64 ≤ f.length → fcsGood f = true →
    fcsGood (uplinkOctets m u f (some t) so false) = true ∧
    bayOctets (uplinkOctets m u f (some t) so false) true = f

/-- With the pools in canonical form, a frame offered under the floors of its class is admitted if and only
if, after its blocks and one handle are taken, free blocks are at least the block floor and free handles at
least the handle floor. An admitted frame takes exactly its blocks and one handle; for a refused one there
is no new state, so the pools are unchanged. The floors are General Floor and General Handle Floor for class
0, Stream Floor and 0 for class 1, and 0 and 0 for classes 2 to 4 and for frames built in the part; a
management request from B is offered as class 0. (R30) -/
def Obligations.AdmissionKeepsTheFloors : Prop :=
  ∀ (f : List Octet) (c : TClass) (t : Option TagFields) (s : State), StoreInv s →
    ((admitReceived f c t s).isSome = true ↔
      blocksNeeded f.length + blockFloor s.settings c ≤ freeBlocks s ∧
      1 + handleFloor s.settings c ≤ freeHandles s) ∧
    (∀ h x, admitReceived f c t s = some (h, x) →
      freeBlocks x + blocksNeeded f.length = freeBlocks s ∧ freeHandles x + 1 = freeHandles s ∧
      blockFloor s.settings c ≤ freeBlocks x ∧ handleFloor s.settings c ≤ freeHandles x) ∧
    blockFloor s.settings .general = s.settings.generalFloor ∧
    handleFloor s.settings .general = s.settings.generalHandleFloor ∧
    blockFloor s.settings .stream = s.settings.streamFloor ∧ handleFloor s.settings .stream = 0 ∧
    (c = .timing ∨ c = .event ∨ c = .presence →
      blockFloor s.settings c = 0 ∧ handleFloor s.settings c = 0) ∧
    (((admitBuilt f c s).1).isSome = true ↔ blocksNeeded f.length ≤ freeBlocks s ∧ 1 ≤ freeHandles s) ∧
    ((admitBuilt f c s).1 = none → (admitBuilt f c s).2.store.blocks = s.store.blocks ∧
      (admitBuilt f c s).2.store.handles = s.store.handles) ∧
    (∀ w, admitReceived f .general none s = none → bayRequest w f s = countIntakeDrop .b .general s)

/-- With the pools in canonical form and room for the frame: the handle taken was free, its fields are the
frame's length, class, arrival time and tag fields with check code agreeing, its blocks' octets in list
order are the frame, every block in its list was free, and every other live handle that names only non-free
blocks reads back as before. (R28, R29, R1) -/
def Obligations.StoredFramesReadBack : Prop :=
  ∀ (f : List Octet) (c : TClass) (t : Option TagFields) (s : State), StoreInv s →
    blocksNeeded f.length ≤ freeBlocks s → 1 ≤ freeHandles s →
    ∃ r x, x = storeFrame f c t s ∧ handleOf s (lowestHandle s) = none ∧
      handleOf x (lowestHandle s) = some r ∧ storedFrame x r = f ∧ r.length = f.length ∧ r.cls = c ∧
      r.arrival = s.stationTime ∧ r.tag = t ∧ r.quarantined = false ∧ r.check = 0 ∧
      r.blocks.length = blocksNeeded f.length ∧
      (∀ b, b ∈ r.blocks → Tbl.look s.store.blocks b = none) ∧
      (∀ h, h ≠ lowestHandle s → handleOf x h = handleOf s h) ∧
      (∀ g, (∀ b, b ∈ g.blocks → (Tbl.look s.store.blocks b).isSome = true) →
        storedFrame x g = storedFrame s g)

/-! ### Events and faults -/

/-- For every event raised, in every part state: with fewer than 32 records held the record, its Time the
Station Time of the raising, joins the tail and Events Queued rises by 1, Dropped and Events Lost unchanged.
With 32 held the record is lost, Dropped rises by 1 unless it stands at 255, and Events Lost rises by 1.
Nothing else changes. (R182) -/
def Obligations.EventsJoinOrAreLost : Prop :=
  ∀ (k : EventKind) (w : Nat) (c : Option TClass) (d : Nat) (a : Address) (s : State),
    (s.notices.records.length < 32 →
      raise k w c d a s =
        { s with
          notices :=
            { s.notices with
              records := s.notices.records ++
                [{ kind := k, whr := BitVec.ofNat 8 w, cls := classOctet c, detail := BitVec.ofNat 24 d,
                   addr := a, time := s.stationTime }]
              eventsQueued := s.notices.eventsQueued + 1 } }) ∧
    (32 ≤ s.notices.records.length →
      raise k w c d a s =
        { s with
          notices :=
            { s.notices with
              dropped := if s.notices.dropped = 255 then 255 else s.notices.dropped + 1
              eventsLost := s.notices.eventsLost + 1 } })

/-- Out of chip reset, for a report that does not escalate: its kind's Fault Count rises by 1. With Primary
empty it becomes Primary, FAULT goes high and the FAULT event is raised; with Primary alone occupied it
becomes Held and the event is raised; with both occupied the Excess count rises by 1 up to 255 and no event
is raised. The report leaves those in flight (log 5), and nothing else changes. Out of chip reset, a
HANDLE-CHECK report taken with Primary occupied answers a state in LOADING with READY low and the tables,
queues and Settings as engine reset leaves them (Overflow Epoch 0 in LOADING is the model's choice, log 35).
Primary and the FAULT pin are kept, the report is Held or counted in Excess, the Self-Reset count rises by 1
up to 65,535, Reset Announce is set, Station Time runs on, and every other report in flight is lost. (R160,
R161, R162, R163, R164, R166, R191) -/
def Obligations.FaultReportsAreCapturedOrEscalate : Prop :=
  (∀ (r : FaultReport) (s : State), s.resetN = true →
    ¬ (r.kind = .handleCheck ∧ s.faults.primary.isSome = true) →
    ∃ x, HandledTo (exec (.faultReport r) s) x ∧
      x = { s with faults := x.faults, notices := x.notices, reports := s.reports.erase r } ∧
      (s.faults.primary = none →
        x.faults =
          { s.faults with
            primary := some (recordOf r s.stationTime), faultPin := true
            counts := s.faults.counts.inc r.kind } ∧
        x.notices = (raiseFault r s).notices) ∧
      (s.faults.primary.isSome = true → s.faults.held = none →
        x.faults =
          { s.faults with
            held := some (recordOf r s.stationTime), counts := s.faults.counts.inc r.kind } ∧
        x.notices = (raiseFault r s).notices) ∧
      (s.faults.primary.isSome = true → s.faults.held.isSome = true →
        x.faults =
          { s.faults with excess := satInc s.faults.excess, counts := s.faults.counts.inc r.kind } ∧
        x.notices = s.notices)) ∧
  ∀ (r : FaultReport) (s : State), s.resetN = true → r.kind = .handleCheck →
    s.faults.primary.isSome = true →
    ∃ t, exec (.faultReport r) s = .next t ∧ t.loader.part = .loading ∧ t.loader.ready = false ∧
      t.store = State.reset.store ∧ t.filter = State.reset.filter ∧ t.pairing = State.reset.pairing ∧
      t.presence = State.reset.presence ∧ t.notices = State.reset.notices ∧ t.reports = [] ∧
      t.settings = Settings.defaults s.loader.straps classifierAfterReset ∧
      (∀ u q, ((t.uplink u).queue q).entries = []) ∧ (∀ u, (t.uplink u).tx = none) ∧
      (∀ q, (t.bay.queue q).entries = []) ∧ t.bay.tx = none ∧ t.stationTime = s.stationTime ∧
      t.loader.straps = s.loader.straps ∧ t.loader.stationAddress = s.loader.stationAddress ∧
      t.faults =
        { s.faults with
          held := if s.faults.held.isSome then s.faults.held else some (recordOf r s.stationTime)
          excess := if s.faults.held.isSome then satInc s.faults.excess else s.faults.excess
          counts := s.faults.counts.inc .handleCheck
          selfResets := satInc s.faults.selfResets
          resetAnnounce := true }

/-- An admissible FAULT-ACK with Count 0, whatever its Object and Index, which it does not read (log 19):
with Primary occupied and Held occupied it is answered OK with Primary's five Values, Held moves into
Primary and FAULT stays high; with Held empty, Primary is emptied, the Excess count returns to 0 and FAULT
goes low; with Primary empty it is answered NOT-FOUND. A Count other than 0 is answered BAD-REQUEST. The
Index of an OK reply, which R178 gives no value for, is the request's (the model's choice, log 33). (R167,
R166, R178) -/
def Obligations.FaultAckReturnsThePrimaryRecord : Prop :=
  ∀ (r : Request) (s : State), Admissible .faultAck r s →
    (r.count ≠ 0 → AnsweredFrom (exec (.faultAck r) s) 0x0D r (refuse r .badRequest) s) ∧
    (r.count = 0 →
    (∀ p h, s.faults.primary = some p → s.faults.held = some h →
      AnsweredFrom (exec (.faultAck r) s) 0x0D r (okValues r (recordVals p))
        { s with faults := { s.faults with primary := some h, held := none } }) ∧
    (∀ p, s.faults.primary = some p → s.faults.held = none →
      AnsweredFrom (exec (.faultAck r) s) 0x0D r (okValues r (recordVals p))
        { s with faults := { s.faults with primary := none, excess := 0, faultPin := false } }) ∧
    (s.faults.primary = none → AnsweredFrom (exec (.faultAck r) s) 0x0D r (refuse r .notFound) s))

/-! ### Requests -/

/-- For every kind of request, in QUIET or RUN: a Count above 32, or (except for READ) more Values counted
than the frame holds, is answered BAD-REQUEST. Of well-formed requests from an uplink, Line Access NONE
discards each with Management Discards of that port one higher and no reply, and READ answers DENIED to all
but READ, ENTRY-READ and ORIGIN-READ. SLOT-APPLY and INJECT that get so far are answered NOT-NOW outside
RUN. Nothing else changes. In LOADING and in chip reset a request has no effect (log 30). (R170, R171, R172,
R10) -/
def Obligations.RequestsAreJudgedInOrder : Prop :=
  ∀ (k : ReqKind) (r : Request) (s : State),
    (s.serving = true → 32 < r.count.toNat ∨ (k ≠ .read ∧ r.values.length < r.count.toNat) →
      AnsweredFrom (exec (commandOf k r) s) k.code r (refuse r .badRequest) s) ∧
    (s.serving = true → r.count.toNat ≤ 32 → (k = .read ∨ r.count.toNat ≤ r.values.length) →
      (r.port ≠ .b → s.settings.lineAccess = .none →
        HandledTo (exec (commandOf k r) s)
          (s.onPort r.port fun c => { c with managementDiscards := c.managementDiscards + 1 })) ∧
      (r.port ≠ .b → s.settings.lineAccess = .read → k ≠ .read → k ≠ .entryRead → k ≠ .originRead →
        AnsweredFrom (exec (commandOf k r) s) k.code r (refuse r .denied) s) ∧
      ((r.port = .b ∨ s.settings.lineAccess = .full) → k = .slotApply ∨ k = .inject →
        s.loader.part ≠ .run →
        AnsweredFrom (exec (commandOf k r) s) k.code r (refuse r .notNow) s)) ∧
    (s.serving = false → exec (commandOf k r) s = .next s)

/-- An admissible READ: an object of neither table is answered BAD-OBJECT, whatever its Index and Count
(that the Object is judged first where R173 gives both codes is read from step 4 of R170, DEDUCED, log 24);
Count 0 BAD-REQUEST; items past the object's end OUT-OF-RANGE; otherwise OK with the Count items from Index
on. The state the reply is sent from is the state the request found. (R173, R170) -/
def Obligations.ReadReturnsTheItems : Prop :=
  ∀ (r : Request) (s : State), Admissible .read r s →
    (objectItems s r.object.toNat = none →
      AnsweredFrom (exec (.read r) s) 0x01 r (refuse r .badObject) s) ∧
    (∀ l, objectItems s r.object.toNat = some l →
      (r.count = 0 → AnsweredFrom (exec (.read r) s) 0x01 r (refuse r .badRequest) s) ∧
      (r.count ≠ 0 → l.length < r.index.toNat + r.count.toNat →
        AnsweredFrom (exec (.read r) s) 0x01 r (refuse r .outOfRange) s) ∧
      (r.count ≠ 0 → r.index.toNat + r.count.toNat ≤ l.length →
        AnsweredFrom (exec (.read r) s) 0x01 r
          (okValues r ((l.drop r.index.toNat).take r.count.toNat)) s))

/-- An admissible WRITE of a setting that may be written, with Index 0 and Count 1: a value in range is
written and answered OK; a numeric value out of range is written as the nearer end and answered OK-CLAMPED
with the clamp flag set; any other is answered OUT-OF-RANGE and nothing is written. The reply carries the
value now held, the new store differs from the old in that setting alone, and the state the reply is sent
from is that store with the setting's action done. That action: clearing Honor Pause ends Held and stops its
timer; writing Epoch Seed gives the Epoch counter its value; clearing Bay Pause with Pause Asserted set
makes a pause of quanta 0 pending (on the wire and counted at once when B is free: log 13), clears Pause
Asserted and stops the refresh timer; with Bay Pause clear otherwise, and for Honor Pause set, nothing.
Suspect Threshold and the pause settings with Bay Pause set have theirs in their own statements; no other
setting has one. U1 Speed and U2 Speed are answered BAD-OBJECT, another Index or Count BAD-REQUEST. A WRITE
of a classifier entry with Count 1 to 4 and all items within the four: with every value in range (EtherType
16 bits, Mask 8, Class 0..3, Paired 0..1) these items are written, every other item and entry kept, and it
is answered OK with the values; with any out of range OUT-OF-RANGE, nothing written, whatever the clamp
flag; past the four items BAD-REQUEST. (Count 0 is left open, log 20.) A WRITE of a read-only object or of
none is answered BAD-OBJECT. Where BAD-OBJECT and BAD-REQUEST both hold, the Object is judged first: read
from step 4 of R170, DEDUCED, log 24. (R174, R175, R170, R157, R115, R34, R33) -/
def Obligations.WriteSetsOneSetting : Prop :=
  ((∀ (n : SettingName) (r : Request) (s : State), Admissible .write r s →
    SettingName.ofObject r.object.toNat = some n →
    (n.writable = false → AnsweredFrom (exec (.write r) s) 0x02 r (refuse r .badObject) s) ∧
    (n.writable = true → (r.index ≠ 0 ∨ r.count ≠ 1) →
      AnsweredFrom (exec (.write r) s) 0x02 r (refuse r .badRequest) s) ∧
    (∀ v rest, n.writable = true → r.index = 0 → r.count = 1 → r.values = v :: rest →
      (n.kind.judge (clampFlag r) v.toNat = none →
        AnsweredFrom (exec (.write r) s) 0x02 r (refuse r .outOfRange) s) ∧
      (∀ w clamped, n.kind.judge (clampFlag r) v.toNat = some (w, clamped) → ∃ st,
        n.get st = w ∧ (∀ m, m ≠ n → m.get st = m.get s.settings) ∧
        st.classifier = s.settings.classifier ∧
        AnsweredFrom (exec (.write r) s) 0x02 r
          { status := if clamped then .okClamped else .ok, index := 0, values := [val w] }
          (settingAction n { s with settings := st })))) ∧
  ∀ (r : Request) (s : State), Admissible .write r s → SettingName.ofObject r.object.toNat = none →
    (r.object.toNat < 0x0140 ∨ 0x0147 < r.object.toNat →
      AnsweredFrom (exec (.write r) s) 0x02 r (refuse r .badObject) s) ∧
    (∀ k, k < 8 → r.object.toNat = 0x0140 + k →
      (4 < r.index.toNat + r.count.toNat →
        AnsweredFrom (exec (.write r) s) 0x02 r (refuse r .badRequest) s) ∧
      (r.count ≠ 0 → r.index.toNat + r.count.toNat ≤ 4 →
        ((∀ i v, (carried r)[i]? = some v →
            v.toNat ≤ [0xFFFF, 0xFF, 3, 1].getD (r.index.toNat + i) 0) →
          ∃ st, st = { s.settings with classifier := st.classifier } ∧
            (∀ j, j < 8 → j ≠ k → st.classifier[j]? = s.settings.classifier[j]?) ∧
            (∀ i, i < 4 → (st.classifierEntry k).items[i]? =
              if r.index.toNat ≤ i ∧ i < r.index.toNat + r.count.toNat then
                ((carried r)[i - r.index.toNat]?).map BitVec.toNat
              else (s.settings.classifierEntry k).items[i]?) ∧
            AnsweredFrom (exec (.write r) s) 0x02 r (okValues r (carried r))
              { s with settings := st }) ∧
        ((∃ i v, (carried r)[i]? = some v ∧
            [0xFFFF, 0xFF, 3, 1].getD (r.index.toNat + i) 0 < v.toNat) →
          AnsweredFrom (exec (.write r) s) 0x02 r (refuse r .outOfRange) s)))) ∧
  ∀ y : State,
    (∀ n, n ∉ [SettingName.suspectThreshold, .bayPause, .pauseOn, .pauseOff, .honorPause, .epochSeed] →
      settingAction n y = y) ∧
    settingAction .honorPause y =
      (if y.settings.honorPause = true then y
       else { y with bay := { y.bay with held := false, pauseTimer := none } }) ∧
    settingAction .epochSeed y =
      { y with pairing := { y.pairing with epochCounter := BitVec.ofNat 3 y.settings.epochSeed } } ∧
    (∀ n, n = .bayPause ∨ n = .pauseOn ∨ n = .pauseOff → y.settings.bayPause = false →
      (y.pause.asserted = false → settingAction n y = y) ∧
      (y.pause.asserted = true → ∃ x, x = settingAction n y ∧
        x = { y with pause := x.pause, bay := x.bay, portB := x.portB } ∧
        x.pause.asserted = false ∧ x.pause.refresh = none ∧
        (y.bay.tx = none → x.pause.pending = none ∧
          x.bay = { y.bay with
            tx := some (.pause 0 (putOnWire y.loader.straps.bay1000
              (pauseFrame y.loader.stationAddress 0))) } ∧
          x.portB = { y.portB with pausesSent := y.portB.pausesSent + 1 }) ∧
        (y.bay.tx ≠ none → x.pause.pending = some 0 ∧ x.bay = y.bay ∧ x.portB = y.portB)))

/-! ### Source Table requests -/

/-- An admissible ENTRY-READ with Object 0 (part A) or 1 (part B): by index, above 511 is answered
OUT-OF-RANGE, a FREE entry OK with the single Value 0, another whose Check holds OK with the part asked for.
By key (Count 3), whatever the Index (the model's choice, log 43), a key that no entry of its bucket holds
is answered NOT-FOUND, one held by an entry whose Check holds OK with that entry's index and part; a key
that is no key OUT-OF-RANGE. In these the state the reply is sent from is the state the request found. An
entry whose Check fails is read as FREE: by index the answer is OK with the single Value 0, by key
NOT-FOUND, from the state in which that entry is FREE and every other is kept, Entries In Use is one lower,
Pinned In Use and both summary counts are counted anew, a network whose count has changed is judged with its
event (in the order of log 18), and ENTRY-CHECK is reported with the index, the request's port, and the
class of the key for a read by key. Part A has 32 Values, part B 21. (R55, R176, R43, R41, R47, R97) -/
def Obligations.EntryReadReturnsTheEntry : Prop :=
  ∀ (r : Request) (s : State), Admissible .entryRead r s → r.object.toNat ≤ 1 →
    (∀ e now, (entryPart r e now).length = if r.object = 0 then 32 else 21) ∧
    (r.count = 0 → 511 < r.index.toNat →
      AnsweredFrom (exec (.entryRead r) s) 0x03 r (refuse r .outOfRange) s) ∧
    (r.count = 0 → r.index.toNat ≤ 511 → entryOf s r.index.toNat = none →
      AnsweredFrom (exec (.entryRead r) s) 0x03 r (okValues r [0]) s) ∧
    (∀ e, r.count = 0 → r.index.toNat ≤ 511 → entryOf s r.index.toNat = some e → e.check = 0 →
      AnsweredFrom (exec (.entryRead r) s) 0x03 r (okValues r (entryPart r e s.stationTime)) s) ∧
    (∀ e, r.count = 0 → r.index.toNat ≤ 511 → entryOf s r.index.toNat = some e → e.check ≠ 0 →
      ∃ y, EntryFreed r.index.toNat (some r.port) none s y ∧
        AnsweredFrom (exec (.entryRead r) s) 0x03 r (okValues r [0]) y) ∧
    (r.count = 3 → keyOfValues (carried r) = none →
      AnsweredFrom (exec (.entryRead r) s) 0x03 r (refuse r .outOfRange) s) ∧
    (∀ a c, r.count = 3 → keyOfValues (carried r) = some (a, c) →
      (∀ i d, i / 4 = bucketOf a c → entryOf s i = some d → ¬ (d.addr = a ∧ d.cls = c)) →
      AnsweredFrom (exec (.entryRead r) s) 0x03 r (refuse r .notFound) s) ∧
    (∀ i e, r.count = 3 → keyOfValues (carried r) = some (e.addr, e.cls) → TableInv s →
      entryOf s i = some e → e.check = 0 →
      AnsweredFrom (exec (.entryRead r) s) 0x03 r (okIndex i (entryPart r e s.stationTime)) s) ∧
    (∀ i e, r.count = 3 → keyOfValues (carried r) = some (e.addr, e.cls) → TableInv s →
      entryOf s i = some e → e.check ≠ 0 →
      ∃ y, EntryFreed i (some r.port) (some e.cls) s y ∧
        AnsweredFrom (exec (.entryRead r) s) 0x03 r (refuse r .notFound) y)

/-- An admissible ENTRY-PIN with Object 0, Count 3 or 4, a key, a Silence Limit of at most 65,535, or one
above it with the clamp flag set, which counts as 65,535, and every entry of the key's bucket passing its
Check, under the table's invariant. A key that is PINNED already, in a bucket of up to three PINNED, is
answered with its index, its Silence Limit replaced (0 for none, Silent clear) and nothing else changed.
With fewer than 3 PINNED entries in the bucket the answer is the index of an entry of that bucket that is
PINNED with the key and the limit; every other entry is as before, and Pinned In Use has risen by 1 just
when the key was not PINNED before. The status is OK, or OK-CLAMPED for a limit clamped. With 3 PINNED
entries and the key not PINNED it is answered TABLE-FULL and nothing changes. A key that is none, or a limit
above 65,535 without the clamp flag, is answered OUT-OF-RANGE and nothing changes (also where the pin would
be refused with TABLE-FULL or the entry fail its Check: the model's choice, log 45). Where the key's entry
fails its Check, or the entry that R45 takes for a new key in a full bucket with fewer than 3 PINNED, the
request does what it does once that entry is freed and ENTRY-CHECK reported with its index and the request's
port, and the class of the key where the key was looked up (of two networks judged, Network 2 first: log
18). The Index is not read (the model's choice, log 43). (R48, R49, R50, R176, R45, R47) -/
def Obligations.EntryPinPinsTheKey : Prop :=
  ((∀ (a : Address) (c : TClass) (limit : Nat) (st : Status) (r : Request) (s : State),
    Admissible .entryPin r s → r.object = 0 → r.count = 3 ∨ r.count = 4 →
    keyOfValues (carried r) = some (a, c) →
    (pinLimit r ≤ 65535 ∧ limit = pinLimit r ∧ st = .ok) ∨
      (65535 < pinLimit r ∧ clampFlag r = true ∧ limit = 65535 ∧ st = .okClamped) →
    TableInv s → (∀ i d, i / 4 = bucketOf a c → entryOf s i = some d → d.check = 0) →
    (∀ i d, entryOf s i = some d → d.addr = a → d.cls = c → d.state = .pinned → ∃ x,
      AnsweredFrom (exec (.entryPin r) s) 0x04 r
        { status := st, index := BitVec.ofNat 16 i, values := [] } x ∧
      entryOf x i = some { d with silence := pinSilence limit } ∧
      (∀ j, j ≠ i → entryOf x j = entryOf s j) ∧
      x = { s with filter := { s.filter with entries := x.filter.entries } }) ∧
    (pinnedInBucket s (bucketOf a c) < 3 → ∃ i e x,
      AnsweredFrom (exec (.entryPin r) s) 0x04 r
        { status := st, index := BitVec.ofNat 16 i, values := [] } x ∧ i / 4 = bucketOf a c ∧
      entryOf x i = some e ∧ e.addr = a ∧ e.cls = c ∧ e.state = .pinned ∧ e.check = 0 ∧
      e.silence = pinSilence limit ∧
      (∀ j, j ≠ i → entryOf x j = entryOf s j) ∧ OnlyFilter s x ∧
      x.filter.pinnedInUse = s.filter.pinnedInUse +
        (if ((entryOf s i).any fun d => d.addr == a && d.cls == c && d.state == .pinned) then 0
         else 1)) ∧
    (pinnedInBucket s (bucketOf a c) = 3 →
      (∀ i d, entryOf s i = some d → d.addr = a → d.cls = c → d.state = .active) →
      AnsweredFrom (exec (.entryPin r) s) 0x04 r (refuse r .tableFull) s)) ∧
  ∀ (a : Address) (c : TClass) (i : Nat) (e : Entry) (r : Request) (s : State), Admissible .entryPin r s →
    r.object = 0 → r.count = 3 ∨ r.count = 4 → keyOfValues (carried r) = some (a, c) →
    pinLimit r ≤ 65535 ∨ clampFlag r = true → TableInv s → entryOf s i = some e → e.check ≠ 0 →
    (e.addr = a → e.cls = c →
      ∃ y, EntryFreed i (some r.port) (some c) s y ∧ exec (.entryPin r) s = exec (.entryPin r) y) ∧
    ((∀ j d, entryOf s j = some d → ¬ (d.addr = a ∧ d.cls = c)) → Replaced i (bucketOf a c) s →
      pinnedInBucket s (bucketOf a c) < 3 →
      ∃ y, EntryFreed i (some r.port) none s y ∧ exec (.entryPin r) s = exec (.entryPin r) y)) ∧
  ∀ (r : Request) (s : State), Admissible .entryPin r s → r.object = 0 → r.count = 3 ∨ r.count = 4 →
    (keyOfValues (carried r) = none ∨ (65535 < pinLimit r ∧ clampFlag r = false)) →
    AnsweredFrom (exec (.entryPin r) s) 0x04 r (refuse r .outOfRange) s

/-- Admissible ENTRY-UNPIN and ENTRY-REMOVE requests with Object 0, Count 3 and a key, under the table's
invariant. For a key held by an entry whose Check holds, both are answered OK with its index. Unpin leaves a
PINNED entry ACTIVE with no Silence Limit, all else of it kept, Pinned In Use one lower, and an ACTIVE one
as it was. Remove leaves the entry FREE, Removed one higher and Entries In Use one lower. Every other entry
is kept. For a key no entry holds both are answered NOT-FOUND and nothing changes. For a key held by an
entry whose Check fails both are answered NOT-FOUND, from the state in which that entry is freed and
ENTRY-CHECK reported with its index, the request's port and the class; Removed is kept (of two networks
judged, Network 2 first: log 18). The Index is not read (the model's choice, log 43). (R52, R53, R46, R176,
R47) -/
def Obligations.EntryUnpinAndRemove : Prop :=
  ∀ (r : Request) (s : State), r.object = 0 → r.count = 3 → TableInv s →
    (∀ i e, keyOfValues (carried r) = some (e.addr, e.cls) → entryOf s i = some e → e.check = 0 →
      (Admissible .entryUnpin r s → ∃ x,
        AnsweredFrom (exec (.entryUnpin r) s) 0x05 r (okIndex i []) x ∧ OnlyFilter s x ∧
        (e.state = .pinned → entryOf x i = some { e with state := .active, silence := none } ∧
          x.filter.pinnedInUse = s.filter.pinnedInUse - 1) ∧
        (e.state = .active → x = s) ∧ (∀ j, j ≠ i → entryOf x j = entryOf s j)) ∧
      (Admissible .entryRemove r s → ∃ x,
        AnsweredFrom (exec (.entryRemove r) s) 0x06 r (okIndex i []) x ∧ OnlyFilter s x ∧
        entryOf x i = none ∧ (∀ j, j ≠ i → entryOf x j = entryOf s j) ∧
        x.filter.entriesInUse = s.filter.entriesInUse - 1 ∧
        x.filter.counters =
          { s.filter.counters with removed := s.filter.counters.removed + 1 })) ∧
    (∀ a c, keyOfValues (carried r) = some (a, c) →
      (∀ i d, entryOf s i = some d → ¬ (d.addr = a ∧ d.cls = c)) →
      (Admissible .entryUnpin r s →
        AnsweredFrom (exec (.entryUnpin r) s) 0x05 r (refuse r .notFound) s) ∧
      (Admissible .entryRemove r s →
        AnsweredFrom (exec (.entryRemove r) s) 0x06 r (refuse r .notFound) s)) ∧
    (∀ i e, keyOfValues (carried r) = some (e.addr, e.cls) → entryOf s i = some e → e.check ≠ 0 →
      ∃ y, EntryFreed i (some r.port) (some e.cls) s y ∧
        (Admissible .entryUnpin r s →
          AnsweredFrom (exec (.entryUnpin r) s) 0x05 r (refuse r .notFound) y) ∧
        (Admissible .entryRemove r s →
          AnsweredFrom (exec (.entryRemove r) s) 0x06 r (refuse r .notFound) y))

/-- An admissible FLUSH-TABLE with Object, Index and Count 0 is answered OK from a state in which the
non-FREE entries are just the PINNED ones whose Check held, each with its key, State, Silence Limit, Peer
Status, Missing counts and counters kept, no window, no twin, no skew average, both paths UNSEEN with no
Last Arrival and no miss run, and Created now; both summary counts are 0; and nothing outside the Source
Table, the Notice Queue and the reports in flight has changed. The Index of an OK reply, which R180 gives no
value for, is the request's (the model's choice, log 33). (R54, R97, R180) -/
def Obligations.FlushTableKeepsThePinnedKeys : Prop :=
  ∀ (r : Request) (s : State), Admissible .flushTable r s → r.object = 0 → r.index = 0 → r.count = 0 →
    Tbl.wf s.filter.entries = true →
    ∃ x, AnsweredFrom (exec (.flushTable r) s) 0x0F r (okValues r []) x ∧ OnlyFilter s x ∧
      x.filter.single1 = 0 ∧ x.filter.single2 = 0 ∧
      (∀ i e, entryOf s i = some e → e.state = .pinned → e.check = 0 →
        entryOf x i = some
          { e with
            window := none, twins := [], skewAverage := none, sampleCount := 0, skewAlarm := false
            path1 := { state := .unseen, lastArrival := none, missRun := 0, missing := e.path1.missing }
            path2 := { state := .unseen, lastArrival := none, missRun := 0, missing := e.path2.missing }
            created := s.stationTime }) ∧
      (∀ i e, entryOf s i = some e → e.state = .active ∨ e.check ≠ 0 → entryOf x i = none) ∧
      (∀ i, entryOf s i = none → entryOf x i = none)

/-! ### Origin Table requests -/

/-- Under the Origin Table's invariant, for admissible requests with Object 0, Count 2 and an address held
by entry i whose Check holds: ORIGIN-READ is answered OK with i and the entry, nothing changed. ORIGIN-PIN
is answered OK with i; a LEARNED entry becomes PINNED, all else of it kept, Origin Pinned one higher, and a
PINNED one is as it was. ORIGIN-REMOVE is answered DENIED for entry 0, nothing changed, and OK for another,
which is FREE afterwards, Origin Removed one higher and Origin In Use one lower. Every other entry is kept.
Where entry i fails its Check, ORIGIN-CHECK is reported with i, the request's port and no class. An entry of
1..63 is FREE then, Origin In Use one lower and Origin Pinned counted anew; READ and REMOVE are answered
NOT-FOUND, and PIN creates the address in the lowest FREE entry with the next epoch, both levels one higher.
Entry 0 is rebuilt: PINNED, the station address, the next epoch, sequences 0, Last Seen now, both levels
kept; READ returns it, PIN is answered OK and REMOVE DENIED. ORIGIN-READ by index (Count 0): above 63 is
answered OUT-OF-RANGE, a FREE entry OK with the single Value 0, another OK with the entry; one that fails
its Check is freed and returned as FREE, or, entry 0, rebuilt and returned. A request by address does not
read its Index (log 43). (R128, R129, R130, R177, R114, R116) -/
def Obligations.OriginRequestsOnOneAddress : Prop :=
  (∀ (i : Nat) (e : OriginEntry) (r : Request) (s : State), r.object = 0 → r.count = 2 → OriginInv s →
    addrOfValues (carried r) = some e.addr → originOf s i = some e → e.check = 0 →
    (Admissible .originRead r s →
      AnsweredFrom (exec (.originRead r) s) 0x07 r (okIndex i (originVals e s.stationTime)) s) ∧
    (Admissible .originPin r s → ∃ x,
      AnsweredFrom (exec (.originPin r) s) 0x08 r (okIndex i []) x ∧ OnlyPairing s x ∧
      (e.state = .pinned → x = s) ∧
      (e.state = .learned → originOf x i = some { e with state := .pinned } ∧
        x.pairing.originPinned = s.pairing.originPinned + 1 ∧
        x.pairing.epochCounter = s.pairing.epochCounter) ∧
      (∀ j, j ≠ i → originOf x j = originOf s j)) ∧
    (Admissible .originRemove r s →
      (i = 0 → AnsweredFrom (exec (.originRemove r) s) 0x09 r (refuse r .denied) s) ∧
      (i ≠ 0 → ∃ x, AnsweredFrom (exec (.originRemove r) s) 0x09 r (okIndex i []) x ∧
        OnlyPairing s x ∧ originOf x i = none ∧ (∀ j, j ≠ i → originOf x j = originOf s j) ∧
        x.pairing.originInUse = s.pairing.originInUse - 1 ∧
        x.pairing.counters =
          { s.pairing.counters with originRemoved := s.pairing.counters.originRemoved + 1 }))) ∧
  (∀ (i : Nat) (e : OriginEntry) (r : Request) (s : State), r.object = 0 → r.count = 2 → OriginInv s →
    addrOfValues (carried r) = some e.addr → originOf s i = some e → e.check ≠ 0 →
    ∃ y, OriginFails i (some r.port) none s y ∧
      (i ≠ 0 →
        (Admissible .originRead r s →
          AnsweredFrom (exec (.originRead r) s) 0x07 r (refuse r .notFound) y) ∧
        (Admissible .originRemove r s →
          AnsweredFrom (exec (.originRemove r) s) 0x09 r (refuse r .notFound) y) ∧
        (Admissible .originPin r s → ∃ k x, 1 ≤ k ∧ k ≤ i ∧ originOf y k = none ∧
          (∀ j, 1 ≤ j → j < k → (originOf y j).isSome = true) ∧
          AnsweredFrom (exec (.originPin r) s) 0x08 r (okIndex k []) x ∧ OnlyPairing y x ∧
          x.reports = y.reports ∧
          originOf x k = some
            { state := .pinned, addr := e.addr, epoch := s.pairing.epochCounter,
              next := { general := 0, stream := 0, timing := 0, event := 0, presence := 0 },
              lastSeen := s.stationTime, check := 0 } ∧
          (∀ j, j ≠ k → originOf x j = originOf y j) ∧
          x.pairing.originInUse = y.pairing.originInUse + 1 ∧
          x.pairing.originPinned = y.pairing.originPinned + 1 ∧
          x.pairing.epochCounter = s.pairing.epochCounter + 1 ∧
          x.pairing.counters = s.pairing.counters)) ∧
      (i = 0 →
        (∀ d, originOf y 0 = some d → Admissible .originRead r s →
          AnsweredFrom (exec (.originRead r) s) 0x07 r (okIndex 0 (originVals d s.stationTime)) y) ∧
        (Admissible .originPin r s →
          AnsweredFrom (exec (.originPin r) s) 0x08 r (okIndex 0 []) y) ∧
        (Admissible .originRemove r s →
          AnsweredFrom (exec (.originRemove r) s) 0x09 r (refuse r .denied) y))) ∧
  ∀ (r : Request) (s : State), Admissible .originRead r s → r.object = 0 → r.count = 0 →
    (63 < r.index.toNat → AnsweredFrom (exec (.originRead r) s) 0x07 r (refuse r .outOfRange) s) ∧
    (r.index.toNat ≤ 63 → originOf s r.index.toNat = none →
      AnsweredFrom (exec (.originRead r) s) 0x07 r (okIndex r.index.toNat [0]) s) ∧
    ∀ e, r.index.toNat ≤ 63 → originOf s r.index.toNat = some e →
      (e.check = 0 → AnsweredFrom (exec (.originRead r) s) 0x07 r
        (okIndex r.index.toNat (originVals e s.stationTime)) s) ∧
      (e.check ≠ 0 → ∃ y, OriginFails r.index.toNat (some r.port) none s y ∧
        (r.index.toNat ≠ 0 →
          AnsweredFrom (exec (.originRead r) s) 0x07 r (okIndex r.index.toNat [0]) y) ∧
        (∀ d, r.index.toNat = 0 → originOf y 0 = some d →
          AnsweredFrom (exec (.originRead r) s) 0x07 r (okIndex 0 (originVals d s.stationTime)) y))

/-- For admissible requests with Object 0, Count 2 and an address no Origin entry holds: ORIGIN-READ and
ORIGIN-REMOVE are answered NOT-FOUND, nothing changed. ORIGIN-PIN with a FREE entry among 1..63 is answered
OK with the lowest one, now PINNED with that address, the Epoch Counter's epoch (which advances), sequences
0 and Last Seen now, both levels one higher and every other entry kept. With none FREE it is answered
TABLE-FULL, nothing changed. The Index is not read (the model's choice, log 43). (R128, R129, R130, R114,
R115, R177) -/
def Obligations.OriginRequestsOnAnUnknownAddress : Prop :=
  ∀ (a : Address) (r : Request) (s : State), r.object = 0 → r.count = 2 →
    addrOfValues (carried r) = some a → (∀ i e, (i, e) ∈ s.pairing.entries → e.addr ≠ a) →
    (Admissible .originRead r s →
      AnsweredFrom (exec (.originRead r) s) 0x07 r (refuse r .notFound) s) ∧
    (Admissible .originRemove r s →
      AnsweredFrom (exec (.originRemove r) s) 0x09 r (refuse r .notFound) s) ∧
    (Admissible .originPin r s →
      (∀ i, 1 ≤ i → i ≤ 63 → originOf s i = none → (∀ j, 1 ≤ j → j < i → (originOf s j).isSome = true) →
        ∃ x, AnsweredFrom (exec (.originPin r) s) 0x08 r (okIndex i []) x ∧ OnlyPairing s x ∧
          originOf x i = some
            { state := .pinned, addr := a, epoch := s.pairing.epochCounter,
              next := { general := 0, stream := 0, timing := 0, event := 0, presence := 0 },
              lastSeen := s.stationTime, check := 0 } ∧
          (∀ j, j ≠ i → originOf x j = originOf s j) ∧
          x.pairing.originInUse = s.pairing.originInUse + 1 ∧
          x.pairing.originPinned = s.pairing.originPinned + 1 ∧
          x.pairing.epochCounter = s.pairing.epochCounter + 1) ∧
      ((∀ i, 1 ≤ i → i ≤ 63 → (originOf s i).isSome = true) →
        AnsweredFrom (exec (.originPin r) s) 0x08 r (refuse r .tableFull) s))

/-! ### Requests on egress, counters and the part -/

/-- Admissible requests with Object 0. SLOT-STAGE (Count 3) of uplink 1 or 2: with Apply Pending set
NOT-NOW, whatever its counts (where their sum is above 64 R142 and R178 give OUT-OF-RANGE too, and the order
is the model's choice, log 44); with counts whose sum is above 64 OUT-OF-RANGE; else OK with the staged
counts written and the staged map built from them, the active map kept. SLOT-APPLY (Count 0): OK with Apply
Pending set. Another Index is answered OUT-OF-RANGE by both. INJECT (Count 4, Index 0): OK with the
Injection Control written when the four Values name a Target, Class Filter, Mode and Kind, else
OUT-OF-RANGE. The Index of an OK reply, which R178 gives no value for, is the request's (the model's choice,
log 33). (R142, R143, R132, R178) -/
def Obligations.SlotAndInjectRequests : Prop :=
  ∀ (r : Request) (s : State), r.object = 0 →
    (∀ u c, Admissible .slotStage r s → r.count = 3 → r.index.toNat = pathNumber u →
      ((s.uplink u).applyPending = true →
        AnsweredFrom (exec (.slotStage r) s) 0x0A r (refuse r .notNow) s) ∧
      ((s.uplink u).applyPending = false →
        carried r = [BitVec.ofNat 32 c.event, BitVec.ofNat 32 c.timing, BitVec.ofNat 32 c.stream] →
        c.event < 2 ^ 32 → c.timing < 2 ^ 32 → c.stream < 2 ^ 32 →
        (c.event + c.timing + c.stream ≤ 64 →
          AnsweredFrom (exec (.slotStage r) s) 0x0A r (okValues r [])
            (s.onUplink u fun e => { e with stagedCounts := c, stagedMap := buildMap c })) ∧
        (64 < c.event + c.timing + c.stream →
          AnsweredFrom (exec (.slotStage r) s) 0x0A r (refuse r .outOfRange) s))) ∧
    (∀ u, Admissible .slotApply r s → r.count = 0 → r.index.toNat = pathNumber u →
      AnsweredFrom (exec (.slotApply r) s) 0x0B r (okValues r [])
        (s.onUplink u fun e => { e with applyPending := true })) ∧
    (r.index.toNat ≠ 1 → r.index.toNat ≠ 2 →
      (Admissible .slotStage r s → r.count = 3 →
        AnsweredFrom (exec (.slotStage r) s) 0x0A r (refuse r .outOfRange) s) ∧
      (Admissible .slotApply r s → r.count = 0 →
        AnsweredFrom (exec (.slotApply r) s) 0x0B r (refuse r .outOfRange) s)) ∧
    (Admissible .inject r s → r.count = 4 → r.index = 0 →
      (∀ j, carried r = [val (targetCode j.target), val (filterCode j.filter), val (modeCode j.mode),
          val (kindCode j.kind)] →
        AnsweredFrom (exec (.inject r) s) 0x0C r (okValues r [])
          { s with pairing := { s.pairing with injection := j } }) ∧
      (injectionOf (carried r) = none →
        AnsweredFrom (exec (.inject r) s) 0x0C r (refuse r .outOfRange) s))

/-- An admissible CLEAR-COUNTERS with Object 0 and Count 0 is answered OK from: PORT 1, all port counters 0;
QUEUE 2, drops, Overflow flags, Residence Drops, Flush Drops, Fall-Through Starts, Quarantine Drops and
Internal Drops 0 with the queued entries, links, maps and transmissions kept; FILTER 3, the filter counters
and the counters of every entry 0 with its key, window, paths and twins kept; ORIGIN 4, the pairing counters
0; NOTICE 5, the notice counters 0 with the records and Dropped kept. Nothing else changes. Another Index is
answered OUT-OF-RANGE. The Index of an OK reply, which R179 gives no value for, is the request's (the
model's choice, log 33). (R179, R62, R137, R159, R184) -/
def Obligations.ClearCountersClearsOneGroup : Prop :=
  ∀ (r : Request) (s : State), Admissible .clearCounters r s → r.object = 0 → r.count = 0 →
    (r.index = 1 → AnsweredFrom (exec (.clearCounters r) s) 0x0E r (okValues r [])
      { s with portU1 := PortCounters.zero, portU2 := PortCounters.zero, portB := PortCounters.zero }) ∧
    (r.index = 2 → ∃ x, AnsweredFrom (exec (.clearCounters r) s) 0x0E r (okValues r []) x ∧
      x = { s with
            u1 := x.u1, u2 := x.u2, bay := x.bay
            store := { s.store with quarantineDrops := 0, internalDrops := 0 } } ∧
      (∀ u, x.uplink u =
        { s.uplink u with
          event := (x.uplink u).event, timing := (x.uplink u).timing, stream := (x.uplink u).stream,
          general := (x.uplink u).general, flushDrops := 0, fallThroughStarts := 0 } ∧
        ∀ q, (x.uplink u).queue q =
          { entries := ((s.uplink u).queue q).entries, drops := 0, overflow := false,
            residenceDrops := 0 }) ∧
      (∀ q, x.bay.queue q =
        { entries := (s.bay.queue q).entries, drops := 0, overflow := false, residenceDrops := 0 }) ∧
      x.bay.tx = s.bay.tx ∧ x.bay.held = s.bay.held ∧ x.bay.pauseTimer = s.bay.pauseTimer) ∧
    (r.index = 3 → ∃ x, AnsweredFrom (exec (.clearCounters r) s) 0x0E r (okValues r []) x ∧
      x = { s with filter := { s.filter with
              entries := x.filter.entries, counters := FilterCounters.zero } } ∧
      ∀ i, entryOf x i = (entryOf s i).map fun e =>
        { e with
          accepted := 0, repeats := 0, late := 0, stale := 0, resync := 0, samePath := 0,
          unmatched := 0, path1 := { e.path1 with missing := 0 },
          path2 := { e.path2 with missing := 0 }, check := 0 }) ∧
    (r.index = 4 → AnsweredFrom (exec (.clearCounters r) s) 0x0E r (okValues r [])
      { s with pairing := { s.pairing with counters := PairingCounters.zero } }) ∧
    (r.index = 5 → AnsweredFrom (exec (.clearCounters r) s) 0x0E r (okValues r [])
      { s with
        notices :=
          { s.notices with
            noticesSent := 0, eventsQueued := 0, eventsLost := 0, noticeRefusals := 0,
            repliesBuilt := 0 } }) ∧
    (r.index.toNat = 0 ∨ 5 < r.index.toNat →
      AnsweredFrom (exec (.clearCounters r) s) 0x0E r (refuse r .outOfRange) s)

/-- With the pools in canonical form and storage for the reply: Replies Built rises by 1, and no other
handle is touched. For a request from B, with room in the Service queue, the reply joins its tail and the
handle it names holds the reply's octets with one reference; with that queue full its Queue Drops rises by
1, its Overflow flag is set, and the handle is free again with its blocks. For a request from an uplink with
neither link UP, No-Link Drops rises by 1, both uplinks are as before and the handle is free again with its
blocks. With either link UP and entry 0's Check holding, an UP uplink with room in its Timing queue has a
copy at that queue's tail, one whose Timing queue is full has Queue Drops one higher and Overflow set, and a
DOWN one is as before, Link-Down Copies counting it; the handle has as many references as copies joined and
is free with none; it holds the reply's octets, tagged with entry 0's next class-2 sequence and Epoch, and
that sequence advances by 1. Injection does not touch it. With either link UP and entry 0's Check failing,
the reply goes out as it does once entry 0 is rebuilt and ORIGIN-CHECK reported with the request's port and
class 2. Without storage, Replies Built and Internal Drops rise by 1 and nothing else changes. (R11, R181,
R126, R121, R123, R116, R139, R153, R31, R32) -/
def Obligations.RepliesAreDelivered : Prop :=
  (∀ (code : Octet) (r : Request) (a : Answer) (s : State), StoreInv s →
    blocksNeeded (replyOctets code r a s).length ≤ freeBlocks s → 1 ≤ freeHandles s →
    ∃ h x, x = sendReply code r a s ∧ handleOf s h = none ∧
      (∀ k, k ≠ h → handleOf x k = handleOf s k) ∧
      x.notices = { s.notices with repliesBuilt := s.notices.repliesBuilt + 1 } ∧
      (r.port = .b → x.u1 = s.u1 ∧ x.u2 = s.u2 ∧ x.pairing = s.pairing ∧
        (∀ q, q ≠ .service → x.bay.queue q = s.bay.queue q) ∧
        (s.bay.service.entries.length < 16 → ∃ g,
          handleOf x h = some g ∧ storedFrame x g = replyOctets code r a s ∧ g.refs = 1 ∧ g.tag = none ∧
          x.bay.service =
            { s.bay.service with
              entries := s.bay.service.entries ++
                [{ handle := h, seqOffset := false, fcsCorrupt := false }] }) ∧
        (16 ≤ s.bay.service.entries.length → handleOf x h = none ∧
          x.bay.service =
            { s.bay.service with drops := s.bay.service.drops + 1, overflow := true } ∧
          (BlockInv s → ∀ b, Tbl.look x.store.blocks b = Tbl.look s.store.blocks b))) ∧
      (r.port ≠ .b → anyLinkUp s = false → handleOf x h = none ∧
        (∀ u, x.uplink u = s.uplink u) ∧ (∀ q, x.bay.queue q = s.bay.queue q) ∧
        x.pairing =
          { s.pairing with
            counters := { s.pairing.counters with noLinkDrops := s.pairing.counters.noLinkDrops + 1 } } ∧
        (BlockInv s → ∀ b, Tbl.look x.store.blocks b = Tbl.look s.store.blocks b)) ∧
      (∀ e n, r.port ≠ .b → anyLinkUp s = true → originOf s 0 = some e → e.check = 0 →
        n = [Uplink.u1, .u2].countP (fun u =>
          (s.uplink u).linkUp && decide ((s.uplink u).timing.entries.length < 64)) →
        (n = 0 → handleOf x h = none) ∧
        (0 < n → ∃ g, handleOf x h = some g ∧ storedFrame x g = replyOctets code r a s ∧ g.refs = n ∧
          g.tag = some
            { seq := e.next.timing, path := none, epoch := e.epoch, cls := .timing,
              interval := BitVec.ofNat 8 s.settings.declaredInterval.timing }) ∧
        (∀ u,
          ((s.uplink u).linkUp = false → x.uplink u = s.uplink u) ∧
          ((s.uplink u).linkUp = true → (s.uplink u).timing.entries.length < 64 →
            x.uplink u = { s.uplink u with
              timing := { (s.uplink u).timing with
                entries := (s.uplink u).timing.entries ++
                  [{ handle := h, seqOffset := false, fcsCorrupt := false }] } }) ∧
          ((s.uplink u).linkUp = true → 64 ≤ (s.uplink u).timing.entries.length →
            x.uplink u = { s.uplink u with
              timing := { (s.uplink u).timing with
                drops := (s.uplink u).timing.drops + 1, overflow := true } })) ∧
        (∀ q, x.bay.queue q = s.bay.queue q) ∧
        originOf x 0 = some
          { e with next := { e.next with timing := e.next.timing + 1 }, lastSeen := s.stationTime } ∧
        (∀ i, i ≠ 0 → originOf x i = originOf s i) ∧
        x.pairing =
          { s.pairing with
            entries := x.pairing.entries
            counters :=
              { s.pairing.counters with
                linkDownCopies := s.pairing.counters.linkDownCopies +
                  (if s.u1.linkUp && s.u2.linkUp then 0 else 1) } })) ∧
  (∀ (code : Octet) (r : Request) (a : Answer) (s : State),
    freeBlocks s < blocksNeeded (replyOctets code r a s).length ∨ freeHandles s = 0 →
    sendReply code r a s =
      { s with
        notices := { s.notices with repliesBuilt := s.notices.repliesBuilt + 1 }
        store := { s.store with internalDrops := s.store.internalDrops + 1 } }) ∧
  ∀ (code : Octet) (r : Request) (a : Answer) (e : OriginEntry) (s : State), r.port ≠ .b →
    anyLinkUp s = true → blocksNeeded (replyOctets code r a s).length ≤ freeBlocks s →
    1 ≤ freeHandles s → originOf s 0 = some e → e.check ≠ 0 →
    ∃ y, OriginFails 0 (some r.port) (some .timing) s y ∧
      sendReply code r a s = sendReply code r a y

/-! ### Arrivals -/

/-- In QUIET or RUN, under the table and storage invariants, for a tagged uplink frame that passes every
test of the Intake and whose storage is admitted, from a source and class the Source Table does not hold,
every entry of its bucket passing its Check, with room in the bay queue: UPLINK_ARRIVAL is handled to a
state in which an entry of the key's bucket is ACTIVE with that key, its window at the sequence and Epoch of
the tag with that sequence alone seen, one Accepted, the arriving path PRESENT, the other UNSEEN, and one
twin record; the frame, octet for octet, is stored with one reference and joins the tail of that queue;
Frames Received rises by 1; and every other entry, both uplinks, the Pairing Unit and the Settings are
unchanged. Where the entry of the key fails its Check, or the one that R45 takes for a new key in a full
bucket, an admitted tagged frame that passes the tests is handled as it is once that entry is freed and
ENTRY-CHECK reported with its index, this uplink, and the class of a key looked up (of two networks judged,
Network 2 first: log 18). (R17, R25, R39, R44, R45, R47, R64, R66, R68, R78, R92, R153) -/
def Obligations.FirstCopyReachesTheBay : Prop :=
  (∀ (u : Uplink) (f : List Octet) (t : Tag) (s : State), s.serving = true → StoreInv s → TableInv s →
    fcsGood f = true → 64 ≤ f.length → f.length ≤ 1528 →
    (walkUplink s.settings.tagMarker f).tagged = true →
    isPause (walkUplink s.settings.tagMarker f) f = false →
    (readTag f).valid ((walkUplink s.settings.tagMarker f).type f) s.settings.presenceMarker = some t →
    t.path = u → t.cls ≠ .presence → isOwnOrigin s (sourceOf f) = false →
    destOf f ≠ s.loader.stationAddress → 1 ≤ s.settings.missLimit →
    admits s f.length (blockFloor s.settings t.cls) (handleFloor s.settings t.cls) = true →
    (∀ i d, entryOf s i = some d → ¬ (d.addr = sourceOf f ∧ d.cls = t.cls)) →
    (∀ i d, i / 4 = bucketOf (sourceOf f) t.cls → entryOf s i = some d → d.check = 0) →
    (s.bay.queue (bayQueueOf t.cls)).entries.length < bayCapacity (bayQueueOf t.cls) →
    ∃ i h g x, HandledTo (exec (.uplinkArrival u f) s) x ∧ i / 4 = bucketOf (sourceOf f) t.cls ∧
      entryOf x i = some
        (({ newEntry (sourceOf f) t.cls .active none s.stationTime with
            window := some
              { head := t.seq, seen := 1, epoch := t.epoch, prevEpoch := none,
                lastAccept := s.stationTime }
            declaredInterval := t.interval
            twins := [{ seq := t.seq, firstPath := u, firstTime := s.stationTime }]
            accepted := 1 } : Entry).setPath u
          { state := .present, lastArrival := some s.stationTime, missRun := 0, missing := 0 }) ∧
      (∀ j, j ≠ i → entryOf x j = entryOf s j) ∧
      handleOf s h = none ∧ handleOf x h = some g ∧ storedFrame x g = f ∧ g.refs = 1 ∧
      g.cls = t.cls ∧
      g.tag = some { seq := t.seq, path := some u, epoch := t.epoch, cls := t.cls,
                     interval := t.interval } ∧
      x.bay.queue (bayQueueOf t.cls) =
        { s.bay.queue (bayQueueOf t.cls) with
          entries := (s.bay.queue (bayQueueOf t.cls)).entries ++
            [{ handle := h, seqOffset := false, fcsCorrupt := false }] } ∧
      (∀ q, q ≠ bayQueueOf t.cls → x.bay.queue q = s.bay.queue q) ∧
      x.port (uplinkPort u) =
        { s.port (uplinkPort u) with framesReceived := (s.port (uplinkPort u)).framesReceived + 1 } ∧
      x.u1 = s.u1 ∧ x.u2 = s.u2 ∧ x.pairing = s.pairing ∧ x.settings = s.settings ∧
      x.loader = s.loader ∧ x.presence = s.presence ∧ x.faults = s.faults) ∧
  ∀ (u : Uplink) (f : List Octet) (t : Tag) (i : Nat) (d : Entry) (s : State), s.serving = true →
    TableInv s → TagPasses u f t s → isOwnOrigin s (sourceOf f) = false →
    admits s f.length (blockFloor s.settings t.cls) (handleFloor s.settings t.cls) = true →
    entryOf s i = some d → d.check ≠ 0 →
    (d.addr = sourceOf f → d.cls = t.cls →
      ∃ y, EntryFreed i (some (uplinkPort u)) (some t.cls) s y ∧
        exec (.uplinkArrival u f) s = exec (.uplinkArrival u f) y) ∧
    ((∀ j e, entryOf s j = some e → ¬ (e.addr = sourceOf f ∧ e.cls = t.cls)) →
      Replaced i (bucketOf (sourceOf f) t.cls) s →
      ∃ y, EntryFreed i (some (uplinkPort u)) none s y ∧
        exec (.uplinkArrival u f) s = exec (.uplinkArrival u f) y)

/-- In QUIET or RUN, under the table and storage invariants, for a tagged uplink frame that passes every
test of the Intake and whose storage is admitted, held by an entry whose Check holds, whose window is in
force with the frame's Epoch and has seen its sequence: UPLINK_ARRIVAL is handled to a state in which no bay
queue, no handle and no uplink has changed, and the entry has one more Repeat and Last Use now with the same
window and Accepted count. Where its one twin record is of this sequence and of the other path and has not
timed out, the record is gone, the arriving path's miss run is 0, and the Skew Average and Sample Count have
taken one sample. (R17, R25, R64, R66, R73, R83, R84, R28) -/
def Obligations.SecondCopyIsDiscarded : Prop :=
  ∀ (u : Uplink) (f : List Octet) (t : Tag) (i : Nat) (e : Entry) (w : Window) (s : State),
    s.serving = true → StoreInv s → TableInv s →
    fcsGood f = true → 64 ≤ f.length → f.length ≤ 1528 →
    (walkUplink s.settings.tagMarker f).tagged = true →
    isPause (walkUplink s.settings.tagMarker f) f = false →
    (readTag f).valid ((walkUplink s.settings.tagMarker f).type f) s.settings.presenceMarker = some t →
    t.path = u → t.cls ≠ .presence → isOwnOrigin s (sourceOf f) = false →
    admits s f.length (blockFloor s.settings t.cls) (handleFloor s.settings t.cls) = true →
    entryOf s i = some e → e.addr = sourceOf f → e.cls = t.cls → e.check = 0 → e.window = some w →
    t.epoch = w.epoch → age s.stationTime w.lastAccept ≤ s.settings.windowHold * 1000 →
    (seqDiff t.seq w.head = 0 ∨ (-63 ≤ seqDiff t.seq w.head ∧ seqDiff t.seq w.head ≤ -1 ∧
      w.seen.getLsbD (-(seqDiff t.seq w.head)).toNat = true)) →
    ∃ d x, HandledTo (exec (.uplinkArrival u f) s) x ∧ entryOf x i = some d ∧
      d.repeats = satInc e.repeats ∧ d.accepted = e.accepted ∧ d.window = e.window ∧
      d.lastUse = s.stationTime ∧ d.addr = e.addr ∧ d.cls = e.cls ∧ d.state = e.state ∧
      (∀ j, j ≠ i → entryOf x j = entryOf s j) ∧ (∀ h, handleOf x h = handleOf s h) ∧
      (∀ q, x.bay.queue q = s.bay.queue q) ∧ x.u1 = s.u1 ∧ x.u2 = s.u2 ∧ x.pairing = s.pairing ∧
      (x.filter.counters.path1Discarded, x.filter.counters.path2Discarded) =
        (match u with
          | .u1 => (s.filter.counters.path1Discarded + 1, s.filter.counters.path2Discarded)
          | .u2 => (s.filter.counters.path1Discarded, s.filter.counters.path2Discarded + 1)) ∧
      (∀ r, e.twins = [r] → r.seq = t.seq → r.firstPath = other u →
        age s.stationTime r.firstTime ≤ s.settings.twinTimeout * 1000 →
        d.twins = [] ∧ (d.path u).missRun = 0 ∧ d.sampleCount = satInc e.sampleCount ∧
        d.skewAverage = some
          (nextAverage e.skewAverage
            (signedSkew (age s.stationTime r.firstTime) r.firstPath)))

/-- In RUN, under the storage and Origin Table invariants, for a bay frame that passes every test, is
addressed past the part, is decided paired and admitted, from an address held by an entry whose Check holds,
with injection OFF and room in its class queue on each uplink that is UP: BAY_ARRIVAL is handled to a state
in which, with either link UP, the frame is stored octet for octet, tagged with the entry's next sequence of
its class and its Epoch, one reference for each copy; each uplink that is UP has a copy at the tail of that
queue and the other is unchanged; that sequence alone has advanced by 1, with Last Seen now; Paired Frames
has risen by 1 and Link-Down Copies by 1 if one link is down. With neither UP, No-Link Drops rises by 1, no
sequence is taken and no handle is kept. In QUIET and RUN, where the sender's entry fails its Check, a frame
admitted (paired or not) is handled as it is once that entry is freed, or entry 0 rebuilt, with ORIGIN-CHECK
reported with its index, Port 3 (B) and the class of the frame. (R18, R24, R117, R119, R121, R122, R123,
R116) -/
def Obligations.PairedBayFrameIsCopiedToBothUplinks : Prop :=
  (∀ (f : List Octet) (c : TClass) (i : Nat) (e : OriginEntry) (s : State),
    s.resetN = true → s.loader.part = .run → StoreInv s → OriginInv s →
    fcsGood f = true → 64 ≤ f.length → f.length ≤ 1522 → u16At f 12 ≠ s.settings.tagMarker →
    isPause (walkBay f) f = false → destOf f ≠ s.loader.stationAddress →
    classify s.settings ((walkBay f).type f) (walkBay f).priority = c →
    pairedDecision s.settings ((walkBay f).type f) (walkBay f).priority = true →
    admits s f.length (blockFloor s.settings c) (handleFloor s.settings c) = true →
    originOf s i = some e → e.addr = sourceOf f → e.check = 0 → s.pairing.injection.mode = .off →
    (∀ u, (s.uplink u).linkUp = true →
      ((s.uplink u).queue (slotClassOf c)).entries.length < uplinkCapacity (slotClassOf c)) →
    ∃ x, HandledTo (exec (.bayArrival f) s) x ∧ (∀ j, j ≠ i → originOf x j = originOf s j) ∧
      x.portB.framesReceived = s.portB.framesReceived + 1 ∧ x.filter = s.filter ∧
      x.settings = s.settings ∧ x.loader = s.loader ∧ (∀ q, x.bay.queue q = s.bay.queue q) ∧
      (anyLinkUp s = true →
        originOf x i = some
          { e with next := e.next.set c (e.next.get c + 1), lastSeen := s.stationTime } ∧
        x.pairing.counters =
          { s.pairing.counters with
            pairedFrames := s.pairing.counters.pairedFrames + 1
            linkDownCopies := s.pairing.counters.linkDownCopies +
              (if s.u1.linkUp && s.u2.linkUp then 0 else 1) } ∧
        ∃ h g, handleOf s h = none ∧ handleOf x h = some g ∧ storedFrame x g = f ∧ g.cls = c ∧
          g.refs = (if s.u1.linkUp && s.u2.linkUp then 2 else 1) ∧
          g.tag = some { seq := e.next.get c, path := none, epoch := e.epoch, cls := c,
                         interval := BitVec.ofNat 8 (s.settings.intervalOf c) } ∧
          (∀ u, (s.uplink u).linkUp = true →
            (x.uplink u).queue (slotClassOf c) =
              { (s.uplink u).queue (slotClassOf c) with
                entries := ((s.uplink u).queue (slotClassOf c)).entries ++
                  [{ handle := h, seqOffset := false, fcsCorrupt := false }] } ∧
            ∀ q, q ≠ slotClassOf c → (x.uplink u).queue q = (s.uplink u).queue q) ∧
          (∀ u, (s.uplink u).linkUp = false → x.uplink u = s.uplink u)) ∧
      (anyLinkUp s = false →
        originOf x i = some { e with lastSeen := s.stationTime } ∧
        x.pairing.counters =
          { s.pairing.counters with noLinkDrops := s.pairing.counters.noLinkDrops + 1 } ∧
        (∀ h, handleOf x h = handleOf s h) ∧ x.u1 = s.u1 ∧ x.u2 = s.u2)) ∧
  ∀ (f : List Octet) (c : TClass) (i : Nat) (e : OriginEntry) (s : State), BayPasses f s → OriginInv s →
    destOf f ≠ s.loader.stationAddress →
    classify s.settings ((walkBay f).type f) (walkBay f).priority = c →
    admits s f.length (blockFloor s.settings c) (handleFloor s.settings c) = true →
    originOf s i = some e → e.addr = sourceOf f → e.check ≠ 0 →
    ∃ y, OriginFails i (some .b) (some c) s y ∧ exec (.bayArrival f) s = exec (.bayArrival f) y

/-- For a bay frame that passes every test, is addressed past the part and admitted, under the storage and
Origin Table invariants. From an address no entry holds, with a FREE entry among 1..63, the lowest one is
LEARNED with that address, the Epoch Counter's epoch and Last Seen now, the counter one higher; its next
sequence of the frame's class is 1 if the frame is stamped (decided paired in RUN with a link UP), else 0,
as are the others. Decided paired in QUIET, a frame takes no sequence, Quiet Drops rises by 1 and no handle
or uplink changes. Decided unpaired, with room in its General queue, it joins the General queue of U1 if U1
is UP, else of U2 if U2 is UP, untagged, octet for octet, with one reference, and Unpaired Frames rises by
1. Decided paired in RUN with a link UP and room in the class queues, it is tagged with the next sequence
and Epoch of its sender's entry, with sequence 0 and the new epoch of an entry it learns, or, untabled with
no entry FREE, with the Overflow counter's, which advances and counts one Proxy Overflow; each uplink that
is UP has one copy at its queue's tail, but one that the Injection Control targets, when it matches, has it
omitted, marked FCS-Corrupt or marked with Sequence Offset; a ONCE is spent by a match; Injected Copies
counts the injected; and the handle has a reference for each copy, or is free with none. (R24, R114, R117,
R118, R119, R120, R121, R123, R125, R133, R134, R136) -/
def Obligations.BayFramesOutsidePairing : Prop :=
  (∀ (f : List Octet) (c : TClass) (s : State),
    s.serving = true → StoreInv s → OriginInv s →
    fcsGood f = true → 64 ≤ f.length → f.length ≤ 1522 → u16At f 12 ≠ s.settings.tagMarker →
    isPause (walkBay f) f = false → destOf f ≠ s.loader.stationAddress →
    classify s.settings ((walkBay f).type f) (walkBay f).priority = c →
    admits s f.length (blockFloor s.settings c) (handleFloor s.settings c) = true →
    (∀ i, 1 ≤ i → i ≤ 63 → originOf s i = none → (∀ j, 1 ≤ j → j < i → (originOf s j).isSome = true) →
      (∀ j d, originOf s j = some d → d.addr ≠ sourceOf f) →
      ∃ x, HandledTo (exec (.bayArrival f) s) x ∧
        originOf x i = some
          { state := .learned, addr := sourceOf f, epoch := s.pairing.epochCounter,
            next :=
              ({ general := 0, stream := 0, timing := 0, event := 0, presence := 0 } : PerClass (BitVec 16)).set c
                (if pairedDecision s.settings ((walkBay f).type f) (walkBay f).priority = true ∧
                    s.loader.part = .run ∧ anyLinkUp s = true then 1 else 0),
            lastSeen := s.stationTime, check := 0 } ∧
        (∀ j, j ≠ i → originOf x j = originOf s j) ∧
        x.pairing.epochCounter = s.pairing.epochCounter + 1 ∧
        x.pairing.originInUse = s.pairing.originInUse + 1 ∧
        x.pairing.counters.originLearned = s.pairing.counters.originLearned + 1) ∧
    (∀ i e, originOf s i = some e → e.addr = sourceOf f → e.check = 0 →
      (s.loader.part = .quiet →
        pairedDecision s.settings ((walkBay f).type f) (walkBay f).priority = true →
        ∃ x, HandledTo (exec (.bayArrival f) s) x ∧
          x.pairing.counters =
            { s.pairing.counters with quietDrops := s.pairing.counters.quietDrops + 1 } ∧
          originOf x i = some { e with lastSeen := s.stationTime } ∧
          (∀ j, j ≠ i → originOf x j = originOf s j) ∧
          (∀ h, handleOf x h = handleOf s h) ∧ x.u1 = s.u1 ∧ x.u2 = s.u2) ∧
      (∀ u, pairedDecision s.settings ((walkBay f).type f) (walkBay f).priority = false →
        (s.uplink u).linkUp = true → (u = .u2 → s.u1.linkUp = false) →
        (s.uplink u).general.entries.length < 256 →
        ∃ h g x, HandledTo (exec (.bayArrival f) s) x ∧ handleOf s h = none ∧ handleOf x h = some g ∧
          storedFrame x g = f ∧ g.refs = 1 ∧ g.tag = none ∧
          x.pairing.counters =
            { s.pairing.counters with unpairedFrames := s.pairing.counters.unpairedFrames + 1 } ∧
          originOf x i = some { e with lastSeen := s.stationTime } ∧
          x.uplink u = { s.uplink u with general := { (s.uplink u).general with
            entries := (s.uplink u).general.entries ++
              [{ handle := h, seqOffset := false, fcsCorrupt := false }] } } ∧
          x.uplink (other u) = s.uplink (other u)))) ∧
  ∀ (f : List Octet) (c : TClass) (seq : BitVec 16) (epoch : BitVec 3) (s : State),
    BayPasses f s → s.loader.part = .run → StoreInv s → OriginInv s →
    destOf f ≠ s.loader.stationAddress →
    classify s.settings ((walkBay f).type f) (walkBay f).priority = c →
    pairedDecision s.settings ((walkBay f).type f) (walkBay f).priority = true →
    admits s f.length (blockFloor s.settings c) (handleFloor s.settings c) = true →
    (s.u1.linkUp = true ∨ s.u2.linkUp = true) →
    (∀ u, (s.uplink u).linkUp = true →
      ((s.uplink u).queue (slotClassOf c)).entries.length < uplinkCapacity (slotClassOf c)) →
    Numbers s (sourceOf f) c seq epoch →
    ∃ h x, HandledTo (exec (.bayArrival f) s) x ∧ handleOf s h = none ∧
      (∀ g, g ≠ h → handleOf x g = handleOf s g) ∧ PairedCopies s x c h f seq epoch ∧
      x.pairing.counters.pairedFrames = s.pairing.counters.pairedFrames + 1 ∧
      ((∀ i e, originOf s i = some e → e.addr ≠ sourceOf f) →
        (∀ i, 1 ≤ i → i ≤ 63 → (originOf s i).isSome = true) →
        (∀ i, originOf x i = originOf s i) ∧
        x.pairing.overflowSequence = s.pairing.overflowSequence + 1 ∧
        x.pairing.overflowEpoch = s.pairing.overflowEpoch ∧
        x.pairing.counters.proxyOverflow = s.pairing.counters.proxyOverflow + 1) ∧
      (∀ i e, originOf s i = some e → e.addr = sourceOf f → e.check = 0 →
        originOf x i = some
          { e with next := e.next.set c (e.next.get c + 1), lastSeen := s.stationTime })

/-- Out of chip reset every arrival counts one Frame Received on its port. With a wrong FCS it counts one
FCS Error, with a length under 64 or over the longest (1,528 tagged and 1,522 untagged on an uplink, 1,522
on B) one Length Error, and nothing else changes; on an uplink a pause frame counts one Pause Discard
likewise. In QUIET and RUN a presence frame of the part itself counts one Own Presence; from its own uplink
it sets Loop Raised, from the other Joined Raised, with Last Seen now, raising LOOP or NETWORKS-JOINED just
when the flag was clear. On B a pause frame counts one Pause Received; honoured with quanta not 0 it sets
Held and starts the timer at 512 bit times a quantum, with quanta 0 it ends the hold, and unhonoured it does
no more. One that finds B Held or makes it Held also screens (which values screen: log 36; by age alone, the
handle's check being verified in the release: log 40): the entries at the front of the Event, Timing and
Stream queues that are over their Residence Limit leave, counted under Residence Drops, up to a head that is
not; other handles and queues are kept. On an uplink a tag error counts one Tag Error, a tag of the other
path one Tag Error and one Path Mismatch, and a source that an Origin entry holds one Own-Origin. A
bay-tagged frame counts one Bay-Tagged. In LOADING every other frame is received and no more, the part's own
presence frame counting one Own Presence. In QUIET and RUN an untagged uplink frame counts one Untagged
Discard with Pass Untagged clear, and to the station address one Station Discard with it set; so does a bay
frame to the station address that is no request. (R16, R17, R18, R19, R20, R21, R26, R27, R105, R157, R158,
R190) -/
def Obligations.ArrivalsThatStopAtTheIntake : Prop :=
  ((∀ (u : Uplink) (f : List Octet) (s : State), s.resetN = true →
    (fcsGood f = false → HandledTo (exec (.uplinkArrival u f) s)
      (s.onPort (uplinkPort u) fun c =>
        { c with framesReceived := c.framesReceived + 1, fcsErrors := c.fcsErrors + 1 })) ∧
    (fcsGood f = true →
      f.length < 64 ∨ (if (walkUplink s.settings.tagMarker f).tagged then 1528 else 1522) < f.length →
      HandledTo (exec (.uplinkArrival u f) s)
        (s.onPort (uplinkPort u) fun c =>
          { c with framesReceived := c.framesReceived + 1, lengthErrors := c.lengthErrors + 1 })) ∧
    (fcsGood f = true → 64 ≤ f.length → f.length ≤ 1522 →
      (isPause (walkUplink s.settings.tagMarker f) f = true →
        HandledTo (exec (.uplinkArrival u f) s)
          (s.onPort (uplinkPort u) fun c =>
            { c with framesReceived := c.framesReceived + 1, pauseDiscards := c.pauseDiscards + 1 })) ∧
      (∀ t, isPause (walkUplink s.settings.tagMarker f) f = false →
        (walkUplink s.settings.tagMarker f).tagged = true →
        (readTag f).valid ((walkUplink s.settings.tagMarker f).type f) s.settings.presenceMarker =
          some t →
        t.cls = .presence →
        presenceIdentity (walkUplink s.settings.tagMarker f) f = s.loader.stationAddress →
        s.loader.part ≠ .loading →
        ∃ x, HandledTo (exec (.uplinkArrival u f) s) x ∧
          x = { s with portU1 := x.portU1, portU2 := x.portU2, presence := x.presence,
                       notices := x.notices } ∧
          x.port (uplinkPort u) =
            { s.port (uplinkPort u) with
              framesReceived := (s.port (uplinkPort u)).framesReceived + 1
              ownPresence := (s.port (uplinkPort u)).ownPresence + 1 } ∧
          x.presence.own (other u) = s.presence.own (other u) ∧
          (t.path = u →
            x.presence.own u =
              { s.presence.own u with loopRaised := true, loopLastSeen := some s.stationTime } ∧
            ((s.presence.own u).loopRaised = true → x.notices = s.notices) ∧
            ((s.presence.own u).loopRaised = false → x.notices = s.notices.add
              { kind := .loop, whr := BitVec.ofNat 8 (pathNumber u), cls := 0xFF, detail := 0,
                addr := 0, time := s.stationTime })) ∧
          (t.path ≠ u →
            x.presence.own u =
              { s.presence.own u with joinedRaised := true, joinedLastSeen := some s.stationTime } ∧
            ((s.presence.own u).joinedRaised = true → x.notices = s.notices) ∧
            ((s.presence.own u).joinedRaised = false → x.notices = s.notices.add
              { kind := .networksJoined, whr := BitVec.ofNat 8 (pathNumber u), cls := 0xFF,
                detail := 0, addr := 0, time := s.stationTime }))))) ∧
  ∀ (f : List Octet) (s : State), s.resetN = true →
    (fcsGood f = false → HandledTo (exec (.bayArrival f) s)
      (s.onPort .b fun c =>
        { c with framesReceived := c.framesReceived + 1, fcsErrors := c.fcsErrors + 1 })) ∧
    (fcsGood f = true → f.length < 64 ∨ 1522 < f.length → HandledTo (exec (.bayArrival f) s)
      (s.onPort .b fun c =>
        { c with framesReceived := c.framesReceived + 1, lengthErrors := c.lengthErrors + 1 })) ∧
    (fcsGood f = true → 64 ≤ f.length → f.length ≤ 1522 → u16At f 12 ≠ s.settings.tagMarker →
      s.loader.part ≠ .loading → isPause (walkBay f) f = true →
      ∃ x, HandledTo (exec (.bayArrival f) s) x ∧
        x.portB.framesReceived = s.portB.framesReceived + 1 ∧
        x.portB.pauseReceived = s.portB.pauseReceived + 1 ∧
        (s.settings.honorPause = false → x.bay = s.bay ∧ x.store = s.store) ∧
        (s.settings.honorPause = true → pauseQuanta (walkBay f) f = 0 → s.bay.held = false →
          x.bay = { s.bay with held := false, pauseTimer := none } ∧ x.store = s.store) ∧
        (s.settings.honorPause = true → pauseQuanta (walkBay f) f = 0 →
          x.bay.held = false ∧ x.bay.pauseTimer = none ∧ x.portB.pauseHolds = s.portB.pauseHolds) ∧
        (s.settings.honorPause = true → pauseQuanta (walkBay f) f ≠ 0 →
          x.bay.held = true ∧ x.portB.pauseHolds = s.portB.pauseHolds + 1 ∧
          x.bay.pauseTimer = some ((pauseQuanta (walkBay f) f).toNat * 64 *
            (if s.loader.straps.bay1000 then 8 else 80))) ∧
        (s.settings.honorPause = true → pauseQuanta (walkBay f) f ≠ 0 ∨ s.bay.held = true →
          ∃ d1 d2 d3, ScreenedHeld s x .event d1 ∧ ScreenedHeld s x .timing d2 ∧
            ScreenedHeld s x .stream d3 ∧ x.bay.service = s.bay.service ∧
            x.bay.general = s.bay.general ∧
            (∀ h, (∀ e, e ∈ d1 ++ d2 ++ d3 → e.handle ≠ h) → handleOf x h = handleOf s h) ∧
            ∀ e r, e ∈ d1 ++ d2 ++ d3 → handleOf s e.handle = some r → r.quarantined = false →
              r.check = 0 → r.refs ≤ 1 → handleOf x e.handle = none))) ∧
  (∀ (u : Uplink) (f : List Octet) (s : State), s.resetN = true → fcsGood f = true → 64 ≤ f.length →
    (f.length ≤ 1528 → (walkUplink s.settings.tagMarker f).tagged = true →
      isPause (walkUplink s.settings.tagMarker f) f = false →
      ((readTag f).valid ((walkUplink s.settings.tagMarker f).type f) s.settings.presenceMarker = none →
        CountedAs (exec (.uplinkArrival u f) s) (uplinkPort u)
          (fun c => { c with tagErrors := c.tagErrors + 1 }) s) ∧
      (∀ t, (readTag f).valid ((walkUplink s.settings.tagMarker f).type f) s.settings.presenceMarker =
          some t →
        (t.cls = .presence →
          presenceIdentity (walkUplink s.settings.tagMarker f) f = s.loader.stationAddress →
          s.loader.part = .loading →
          CountedAs (exec (.uplinkArrival u f) s) (uplinkPort u)
            (fun c => { c with ownPresence := c.ownPresence + 1 }) s) ∧
        ((t.cls = .presence →
            presenceIdentity (walkUplink s.settings.tagMarker f) f ≠ s.loader.stationAddress) →
          t.path ≠ u →
          CountedAs (exec (.uplinkArrival u f) s) (uplinkPort u)
            (fun c => { c with tagErrors := c.tagErrors + 1, pathMismatch := c.pathMismatch + 1 }) s))) ∧
    ((∃ t, TagPasses u f t s) ∨ UntaggedPasses f s →
      ((∃ i e, (i, e) ∈ s.pairing.entries ∧ e.addr = sourceOf f) →
        CountedAs (exec (.uplinkArrival u f) s) (uplinkPort u)
          (fun c => { c with ownOrigin := c.ownOrigin + 1 }) s) ∧
      ((∀ i e, (i, e) ∈ s.pairing.entries → e.addr ≠ sourceOf f) → s.loader.part = .loading →
        CountedAs (exec (.uplinkArrival u f) s) (uplinkPort u) id s)) ∧
    (UntaggedPasses f s → (∀ i e, (i, e) ∈ s.pairing.entries → e.addr ≠ sourceOf f) →
      s.loader.part ≠ .loading →
      (s.settings.passUntagged = false → CountedAs (exec (.uplinkArrival u f) s) (uplinkPort u)
        (fun c => { c with untaggedDiscards := c.untaggedDiscards + 1 }) s) ∧
      (s.settings.passUntagged = true → destOf f = s.loader.stationAddress →
        CountedAs (exec (.uplinkArrival u f) s) (uplinkPort u)
          (fun c => { c with stationDiscards := c.stationDiscards + 1 }) s))) ∧
  ∀ (f : List Octet) (s : State), s.resetN = true → fcsGood f = true → 64 ≤ f.length → f.length ≤ 1522 →
    (u16At f 12 = s.settings.tagMarker → CountedAs (exec (.bayArrival f) s) .b
      (fun c => { c with bayTagged := c.bayTagged + 1 }) s) ∧
    (u16At f 12 ≠ s.settings.tagMarker → s.loader.part = .loading →
      CountedAs (exec (.bayArrival f) s) .b id s) ∧
    (BayPasses f s → destOf f = s.loader.stationAddress →
      (walkBay f).type f ≠ s.settings.managementMarker →
      CountedAs (exec (.bayArrival f) s) .b
        (fun c => { c with stationDiscards := c.stationDiscards + 1 }) s)

/-- In QUIET or RUN, with the pools in canonical form. An untagged uplink frame that passes the tests, from
an address no Origin entry holds, to another address than the part's, with Pass Untagged set: admitted under
the floors of the class the classifier gives it, with room in that bay queue, it is stored octet for octet
with one reference and no tag, at the queue's tail, tables and uplinks unchanged; with that queue full Queue
Drops rises by 1, Overflow is set and no handle is kept; not admitted it counts one Intake Drop of that
class. A bay frame to the station address of the management Type, and a tagged uplink frame of classes 0..3
so addressed whose verdict lets it go on: stored, its request is read by the layout of 1.5 and served as
that request's own row, and its storage is freed after (log 15); a Code of 0x80 or above is discarded and
counted, a code of no kind answered BAD-REQUEST; not admitted on B it counts an Intake Drop of class 0. A
tagged frame so addressed of another Type counts one Station Discard and its storage is freed. (R10, R22,
R24, R25, R26, R28, R30, R153) -/
def Obligations.ArrivalsReachTheBayAndTheAgent : Prop :=
  (∀ (u : Uplink) (f : List Octet) (c : TClass) (s : State), s.serving = true → StoreInv s →
    UntaggedPasses f s → (∀ i e, (i, e) ∈ s.pairing.entries → e.addr ≠ sourceOf f) →
    destOf f ≠ s.loader.stationAddress → s.settings.passUntagged = true →
    classify s.settings ((walkUplink s.settings.tagMarker f).type f)
      (walkUplink s.settings.tagMarker f).priority = c →
    (admits s f.length (blockFloor s.settings c) (handleFloor s.settings c) = true →
      ∃ h x, HandledTo (exec (.uplinkArrival u f) s) x ∧ handleOf s h = none ∧
        (∀ g, g ≠ h → handleOf x g = handleOf s g) ∧ x.filter = s.filter ∧ x.pairing = s.pairing ∧
        x.u1 = s.u1 ∧ x.u2 = s.u2 ∧ x.notices = s.notices ∧ x.settings = s.settings ∧
        (∀ q, q ≠ bayQueueOf c → x.bay.queue q = s.bay.queue q) ∧
        x.port (uplinkPort u) =
          { s.port (uplinkPort u) with
            framesReceived := (s.port (uplinkPort u)).framesReceived + 1 } ∧
        ((s.bay.queue (bayQueueOf c)).entries.length < bayCapacity (bayQueueOf c) →
          ∃ g, handleOf x h = some g ∧ storedFrame x g = f ∧ g.refs = 1 ∧ g.cls = c ∧ g.tag = none ∧
            x.bay.queue (bayQueueOf c) =
              { s.bay.queue (bayQueueOf c) with
                entries := (s.bay.queue (bayQueueOf c)).entries ++
                  [{ handle := h, seqOffset := false, fcsCorrupt := false }] }) ∧
        (bayCapacity (bayQueueOf c) ≤ (s.bay.queue (bayQueueOf c)).entries.length →
          handleOf x h = none ∧
          x.bay.queue (bayQueueOf c) =
            { s.bay.queue (bayQueueOf c) with
              drops := (s.bay.queue (bayQueueOf c)).drops + 1, overflow := true })) ∧
    (admits s f.length (blockFloor s.settings c) (handleFloor s.settings c) = false →
      CountedAs (exec (.uplinkArrival u f) s) (uplinkPort u)
        (fun k => { k with intakeDrops := k.intakeDrops.set c (k.intakeDrops.get c + 1) }) s)) ∧
  (∀ (f : List Octet) (s : State), BayPasses f s → StoreInv s →
    destOf f = s.loader.stationAddress → (walkBay f).type f = s.settings.managementMarker →
    (admits s f.length s.settings.generalFloor s.settings.generalHandleFloor = true →
      ∃ h g y, handleOf s h = none ∧ handleOf y h = some g ∧ storedFrame y g = f ∧
        y = storeFrame f .general none
          (s.onPort .b fun c => { c with framesReceived := c.framesReceived + 1 }) ∧
        AgentTakes (exec (.bayArrival f) s) .b h (walkBay f) f y) ∧
    (admits s f.length s.settings.generalFloor s.settings.generalHandleFloor = false →
      CountedAs (exec (.bayArrival f) s) .b
        (fun k => { k with intakeDrops := k.intakeDrops.set .general (k.intakeDrops.general + 1) }) s)) ∧
  ∀ (u : Uplink) (f : List Octet) (t : Tag) (i : Nat) (v : Verdict) (y z : State), y.serving = true →
    StoreInv y → TagPasses u f t y → t.cls ≠ .presence →
    (∀ i e, (i, e) ∈ y.pairing.entries → e.addr ≠ sourceOf f) →
    destOf f = y.loader.stationAddress →
    admits y f.length (blockFloor y.settings t.cls) (handleFloor y.settings t.cls) = true →
    screen t (sourceOf f)
      (storeFrame f t.cls
        (some { seq := t.seq, path := some u, epoch := t.epoch, cls := t.cls, interval := t.interval })
        (y.onPort (uplinkPort u) fun c => { c with framesReceived := c.framesReceived + 1 })) =
      (i, v, z) →
    goesOn y.settings v = true →
    ∃ h g, handleOf y h = none ∧ handleOf z h = some g ∧ storedFrame z g = f ∧
      ((walkUplink y.settings.tagMarker f).type f = y.settings.managementMarker →
        AgentTakes (exec (.uplinkArrival u f) y) (uplinkPort u) h (walkUplink y.settings.tagMarker f) f
          z) ∧
      ((walkUplink y.settings.tagMarker f).type f ≠ y.settings.managementMarker →
        HandledTo (exec (.uplinkArrival u f) y) (freeHandle h
          (z.onPort (uplinkPort u) fun c => { c with stationDiscards := c.stationDiscards + 1 })))

/-! ### Duplicate Filter and path health -/

/-- For every Jump Limit J in 64..32,767, window with Head H and sequence s there is one d in
-32,768..32,767 with d = s - H modulo 65,536. Exactly one of five holds: d = 0 (Equal), 1..J (Ahead),
-63..-1 (Behind within the window), -J..-64 (Behind beyond it), or Jump (less than -J, or greater than J).
By test 4 of R66, the tests before it not holding, Equal is REPEAT, Ahead AHEAD, Behind within the window
REPEAT or LATE as the Seen flag at -d is set or clear, Behind beyond STALE, and Jump a sequence jump. With H
= 65,530 and s = 3, d is 9; with H = 3 and s = 65,535 it is -4; with H = 0 and s = 32,768 it is -32,768.
(R65, R66) -/
def Obligations.SequenceBands : Prop :=
  (∀ (j : Nat) (w : Window) (s : BitVec 16), 64 ≤ j → j ≤ 32767 →
    ∃ d : Int, d = seqDiff s w.head ∧ -32768 ≤ d ∧ d ≤ 32767 ∧
      (65536 : Int) ∣ d - ((s.toNat : Int) - (w.head.toNat : Int)) ∧
      [decide (d = 0), decide (1 ≤ d ∧ d ≤ j), decide (-63 ≤ d ∧ d ≤ -1),
        decide (-(j : Int) ≤ d ∧ d ≤ -64), decide (d < -(j : Int) ∨ (j : Int) < d)].count true = 1 ∧
      (d = 0 → sequenceVerdict j w s = .repeated) ∧
      (1 ≤ d → d ≤ j → sequenceVerdict j w s = .ahead) ∧
      (-63 ≤ d → d ≤ -1 → w.seen.getLsbD (-d).toNat = true → sequenceVerdict j w s = .repeated) ∧
      (-63 ≤ d → d ≤ -1 → w.seen.getLsbD (-d).toNat = false → sequenceVerdict j w s = .late) ∧
      (-(j : Int) ≤ d → d ≤ -64 → sequenceVerdict j w s = .stale) ∧
      (d < -(j : Int) ∨ (j : Int) < d → sequenceVerdict j w s = .sequenceJump)) ∧
  seqDiff 3 65530 = 9 ∧ seqDiff 65535 3 = -4 ∧ seqDiff 32768 0 = -32768

/-- For every Settings store, arrival time, tag, entry and filter counters: if screening the arrival gives
an accepted verdict (FIRST, either JUMP, AHEAD or LATE), then the entry it leaves gives REPEAT to every
later arrival of the same sequence and Epoch that comes within Window Hold of it, whatever the Settings then
are. (R66, R68, R69, R70, R71, R72) -/
def Obligations.AnAcceptedSequenceRepeats : Prop :=
  ∀ (st st' : Settings) (now later : Time) (t : Tag) (x y : Screening) (v : Verdict) (ev : Option Bool),
    screenEntry st now t x = (y, v, ev) → v.accepting = true →
    age later now ≤ st'.windowHold * 1000 →
    verdictOf st' later t.seq t.epoch y.entry.window = .repeated

/-- For an arrival of sequence difference d at a window in force, no twin record having timed out. AHEAD:
Head at the sequence, each Seen flag d further, offset 0 set; records more than 63 behind leave with a miss
each. LATE: the flag at -d set. JUMP: a window of that sequence alone, with the new Epoch and the old as
Previous (epoch jump) or the same epochs (sequence jump), the twins gone without a miss. All four append a
record, the oldest of four leaving with a miss, and count one Accepted. STALE: window, twins, paths and
Accepted kept; PASS counts Stale Passed and lets the frame go on, DISCARD counts a discard. A window past
Window Hold: FIRST. Records timed out leave first, with a miss each. A REPEAT that matches a twin of the
other path judges the Skew Alarm on the new average. UPLINK_ARRIVAL at a held, checked entry leaves it so,
but for the path arrival; with no path event the notices gain just the skew event, its Where by the
average's sign; a frame that goes on joins its bay queue, or, of class 4, leaves as Peer Status the Status
Copy equal to another, or one Body Error; one that does not goes nowhere. (R68, R69, R70, R71, R72, R74,
R78, R79, R80, R85, R103, R104) -/
def Obligations.VerdictsShapeTheEntry : Prop :=
  (∀ (st : Settings) (now : Time) (t : Tag) (e : Entry) (w : Window) (c : FilterCounters)
      (y : Screening) (v : Verdict) (ev : Option Bool), 64 ≤ st.jumpLimit →
    screenEntry st now t { entry := e, counters := c } = (y, v, ev) → e.window = some w →
    (∀ r, r ∈ e.twins → age now r.firstTime ≤ st.twinTimeout * 1000) →
    y.entry.lastUse = now ∧
    (st.windowHold * 1000 < age now w.lastAccept → v = .first true ∧
      y.entry.window = some
        { head := t.seq, seen := 1, epoch := t.epoch, prevEpoch := none, lastAccept := now } ∧
      TwinsJoined now t [] [] e c y ∧ y.counters.windowExpiries = c.windowExpiries + 1) ∧
    (age now w.lastAccept ≤ st.windowHold * 1000 →
      (t.epoch = w.epoch → 1 ≤ seqDiff t.seq w.head → seqDiff t.seq w.head ≤ st.jumpLimit →
        v = .ahead ∧
        (∃ seen, y.entry.window = some { w with head := t.seq, seen := seen, lastAccept := now } ∧
          ∀ k, k < 64 → seen.getLsbD k =
            (k == 0 || (decide (seqDiff t.seq w.head ≤ k) &&
              w.seen.getLsbD (k - (seqDiff t.seq w.head).toNat)))) ∧
        TwinsJoined now t (e.twins.filter fun r => decide ((t.seq - r.seq).toNat ≤ 63))
          (e.twins.filter fun r => decide (63 < (t.seq - r.seq).toNat)) e c y ∧
        y.entry.late = e.late ∧ y.entry.stale = e.stale ∧ y.entry.resync = e.resync) ∧
      (t.epoch = w.epoch → -63 ≤ seqDiff t.seq w.head → seqDiff t.seq w.head ≤ -1 →
        w.seen.getLsbD (-seqDiff t.seq w.head).toNat = false → v = .late ∧
        (∃ seen, y.entry.window = some { w with seen := seen, lastAccept := now } ∧
          ∀ k, seen.getLsbD k = (k == (-seqDiff t.seq w.head).toNat || w.seen.getLsbD k)) ∧
        TwinsJoined now t e.twins [] e c y ∧
        y.entry.late = satInc e.late ∧ y.entry.stale = e.stale ∧ y.entry.resync = e.resync) ∧
      ((t.epoch ≠ w.epoch ∧ w.prevEpoch ≠ some t.epoch) ∨
          (t.epoch = w.epoch ∧ (seqDiff t.seq w.head < -(st.jumpLimit : Int) ∨
            (st.jumpLimit : Int) < seqDiff t.seq w.head)) →
        v = (if t.epoch = w.epoch then .sequenceJump else .epochJump) ∧
        y.entry.window = some
          { head := t.seq, seen := 1, epoch := t.epoch,
            prevEpoch := if t.epoch = w.epoch then w.prevEpoch else some w.epoch,
            lastAccept := now } ∧
        TwinsJoined now t [] [] e c y ∧
        y.entry.late = e.late ∧ y.entry.stale = e.stale ∧ y.entry.resync = satInc e.resync) ∧
      ((t.epoch ≠ w.epoch ∧ w.prevEpoch = some t.epoch) ∨
          (t.epoch = w.epoch ∧ -(st.jumpLimit : Int) ≤ seqDiff t.seq w.head ∧
            seqDiff t.seq w.head ≤ -64) →
        v.isStale = true ∧ v.accepting = false ∧ goesOn st v = st.stalePass ∧
        y.entry = { e with stale := satInc e.stale, lastUse := now, silence := y.entry.silence } ∧
        y.counters.staleEpochs = c.staleEpochs + (if t.epoch = w.epoch then 0 else 1) ∧
        y.counters.stalePassed = c.stalePassed + (if st.stalePass then 1 else 0) ∧
        (y.counters.path1Discarded, y.counters.path2Discarded) =
          (match st.stalePass, t.path with
            | true, _ => (c.path1Discarded, c.path2Discarded)
            | false, .u1 => (c.path1Discarded + 1, c.path2Discarded)
            | false, .u2 => (c.path1Discarded, c.path2Discarded + 1))) ∧
      (∀ r, t.epoch = w.epoch → sequenceVerdict st.jumpLimit w t.seq = .repeated →
        e.twins.find? (fun r => r.seq == t.seq) = some r → r.firstPath = other t.path →
        ∃ avg, avg = nextAverage e.skewAverage (signedSkew (age now r.firstTime) r.firstPath) ∧
          v = .repeated ∧ y.entry.skewAverage = some avg ∧ y.entry.twins = e.twins.erase r ∧
          (e.skewAlarm = false → 0 < st.skewLimit → 8 * st.skewLimit < avg.natAbs →
            y.entry.skewAlarm = true ∧ ev = some true) ∧
          (e.skewAlarm = true → st.skewLimit = 0 ∨ avg.natAbs ≤ 4 * st.skewLimit →
            y.entry.skewAlarm = false ∧ ev = some false) ∧
          (e.skewAlarm = false → st.skewLimit = 0 ∨ avg.natAbs ≤ 8 * st.skewLimit →
            y.entry.skewAlarm = false ∧ ev = none) ∧
          (e.skewAlarm = true → 0 < st.skewLimit → 4 * st.skewLimit < avg.natAbs →
            y.entry.skewAlarm = true ∧ ev = none)))) ∧
  (∀ (st : Settings) (now : Time) (t : Tag) (e : Entry) (c : FilterCounters) (a b : List Twin),
    e.twins = a ++ b → (∀ r, r ∈ a → st.twinTimeout * 1000 < age now r.firstTime) →
    (∀ r, b.head? = some r → age now r.firstTime ≤ st.twinTimeout * 1000) →
    ∃ d : Entry, d = { e with twins := b, path1 := e.missed .u1 a, path2 := e.missed .u2 a } ∧
      screenEntry st now t { entry := e, counters := c } =
        screenEntry st now t
          { entry := d
            counters := { c with twinTimeouts := c.twinTimeouts + BitVec.ofNat 32 a.length } }) ∧
  ∀ (u : Uplink) (f : List Octet) (t : Tag) (i : Nat) (e : Entry) (s : State),
    s.serving = true → StoreInv s → TableInv s → TagPasses u f t s → isOwnOrigin s (sourceOf f) = false →
    admits s f.length (blockFloor s.settings t.cls) (handleFloor s.settings t.cls) = true →
    entryOf s i = some e → e.addr = sourceOf f → e.cls = t.cls → e.check = 0 →
    (t.cls ≠ .presence → destOf f ≠ s.loader.stationAddress) →
    ∃ y v ev d x,
      screenEntry s.settings s.stationTime t { entry := e, counters := s.filter.counters } =
        (y, v, ev) ∧
      HandledTo (exec (.uplinkArrival u f) s) x ∧ entryOf x i = some d ∧
      d = { y.entry with
        path1 := d.path1, path2 := d.path2, peerStatus := d.peerStatus, check := 0 } ∧
      (∀ p, (d.path p).missing = (y.entry.path p).missing) ∧
      (∀ j, j ≠ i → entryOf x j = entryOf s j) ∧
      x.filter.counters =
        { y.counters with
          pathsLost := x.filter.counters.pathsLost, pathsRestored := x.filter.counters.pathsRestored
          bodyErrors := x.filter.counters.bodyErrors } ∧
      ((e.path u).state = .present →
        y.entry.isLost (other u) = true ∨
          y.entry.failed (other u) s.settings.missLimit s.stationTime = false →
        x.notices =
          (match ev with
            | none => s.notices
            | some high => s.notices.add
              { kind := if high then .skewHigh else .skewNormal
                whr := (match compare 0 (y.entry.skewAverage.getD 0) with
                  | .lt => 1
                  | .gt => 2
                  | .eq => 0)
                cls := classOctet (some e.cls), detail := BitVec.ofInt 24 (y.entry.skewAverage.getD 0)
                addr := e.addr, time := s.stationTime })) ∧
      (goesOn s.settings v = false ∨ t.cls = .presence →
        (∀ h, handleOf x h = handleOf s h) ∧ ∀ q, x.bay.queue q = s.bay.queue q) ∧
      (goesOn s.settings v = false ∨ t.cls ≠ .presence →
        d.peerStatus = e.peerStatus ∧ x.filter.counters.bodyErrors = y.counters.bodyErrors) ∧
      (∀ a b c, t.cls = .presence → goesOn s.settings v = true →
        [0, 1, 2].map (statusCopy (walkUplink s.settings.tagMarker f) f) = [a, b, c] →
        (a = b ∨ a = c → d.peerStatus = some a) ∧ (b = c → d.peerStatus = some b) ∧
        (a ≠ b → a ≠ c → b ≠ c → d.peerStatus = e.peerStatus) ∧
        x.filter.counters.bodyErrors = y.counters.bodyErrors +
          (if a ≠ b ∧ a ≠ c ∧ b ≠ c then 1 else 0)) ∧
      (t.cls ≠ .presence → goesOn s.settings v = true →
        (s.bay.queue (bayQueueOf t.cls)).entries.length < bayCapacity (bayQueueOf t.cls) →
        ∃ h g, handleOf s h = none ∧ handleOf x h = some g ∧ storedFrame x g = f ∧ g.refs = 1 ∧
          x.bay.queue (bayQueueOf t.cls) =
            { s.bay.queue (bayQueueOf t.cls) with
              entries := (s.bay.queue (bayQueueOf t.cls)).entries ++
                [{ handle := h, seqOffset := false, fcsCorrupt := false }] })

/-- For a non-FREE entry: after a path arrival on path p at the entry, path p is PRESENT with Last Arrival
now, its miss run 0 if it was not PRESENT and kept if it was; the other path is LOST just when it was LOST
or has failed (its miss run at the Miss Limit or above, or its silence over 3 declared intervals), with its
times and counts kept. The count of sources that have lost path p falls by 1 if p was LOST, and that of the
other path rises by 1 if it becomes LOST. Everything else of the entry, and every other entry, is kept.
Paths Restored rises by 1 if p was LOST, Paths Lost by 1 if the other path becomes LOST, and no other filter
counter. The events of the arrival join in this order, each where its cause holds: PATH-RESTORED with Where
p, the event of network p if its flag changes, PATH-LOST with the other path as Where and its miss run in
the Detail, the event of that network; a path event has the entry's class and address, and its index times
256 in the Detail. In the handling of an arrival (R64) the path arrival comes after the screening of the
entry, whose SKEW-HIGH or SKEW-NORMAL joins ahead of these, with the entry's class and address and its
average as Detail, Where by its sign. A network's Suspect flag is judged just when its count changes: set at
a count of the threshold or above, cleared below the clear level (half the threshold, at least 1), kept
between. A rise or fall of a count by 1 raises NETWORK-SUSPECT or NETWORK-CLEAR, with the network as Where
and the count as Detail, just when the flag changes. A written threshold has both networks judged against
the counts as they stand, the events in the order Network 2, Network 1 (log 18). (R91, R92, R93, R96, R97,
R98, R99, R85, R64, R13) -/
def Obligations.PathArrivalsUpdateBothPaths : Prop :=
  (∀ (i : Nat) (p : Uplink) (e : Entry) (s : State), entryOf s i = some e →
    ∃ d x, x = pathArrival i p s ∧ entryOf x i = some d ∧ OnlyFilter s x ∧
      (∀ j, j ≠ i → entryOf x j = entryOf s j) ∧
      d = ({ e with path1 := d.path1, path2 := d.path2, check := d.check } : Entry) ∧
      d.path p =
        { e.path p with
          state := .present, lastArrival := some s.stationTime
          missRun := if (e.path p).state = .present then (e.path p).missRun else 0 } ∧
      d.path (other p) =
        { e.path (other p) with
          state :=
            if e.isLost (other p) || decide (s.settings.missLimit ≤ (e.path (other p)).missRun.toNat) ||
              (decide (0 < e.declaredInterval.toNat) &&
                decide (3 * e.declaredInterval.toNat * 1000 < e.silenceOf (other p) s.stationTime))
            then .lost else (e.path (other p)).state } ∧
      x.filter.lostCount p = s.filter.lostCount p - (if e.isLost p then 1 else 0) ∧
      x.filter.lostCount (other p) = s.filter.lostCount (other p) +
        (if d.isLost (other p) && !e.isLost (other p) then 1 else 0) ∧
      (∀ n, x.filter.suspect n =
        if x.filter.lostCount n ≠ s.filter.lostCount n ∨ (n = p ∧ e.isLost p = true) then
          suspectAfter s.settings.suspectThreshold (x.filter.lostCount n) (s.filter.suspect n)
        else s.filter.suspect n) ∧
      x.filter.counters =
        { s.filter.counters with
          pathsRestored := s.filter.counters.pathsRestored + (if e.isLost p then 1 else 0)
          pathsLost := s.filter.counters.pathsLost +
            (if d.isLost (other p) && !e.isLost (other p) then 1 else 0) } ∧
      x.notices =
        (([(p, EventKind.pathRestored, 0)].filter fun _ => e.isLost p).map (pathEvent i e s.stationTime) ++
          networkEvents [p] s x ++
          ([(other p, EventKind.pathLost, (e.path (other p)).missRun.toNat)].filter fun _ =>
            d.isLost (other p) && !e.isLost (other p)).map (pathEvent i e s.stationTime) ++
          networkEvents [other p] s x).foldl Notices.add s.notices) ∧
  (∀ (i : Nat) (t : Tag) (e : Entry) (s : State), entryOf s i = some e →
    ∃ sc v ev y, (sc, v, ev) =
        screenEntry s.settings s.stationTime t { entry := e, counters := s.filter.counters } ∧
      screenAt i t s = (v, pathArrival i t.path y) ∧
      entryOf y i = some { sc.entry with check := 0 } ∧ (∀ j, j ≠ i → entryOf y j = entryOf s j) ∧
      y = { s with
        filter := { s.filter with entries := y.filter.entries, counters := sc.counters }
        notices := y.notices } ∧
      (ev = none → y.notices = s.notices) ∧
      (∀ high avg, ev = some high → avg = sc.entry.skewAverage.getD 0 → y.notices = s.notices.add
        { kind := if high then .skewHigh else .skewNormal, whr := BitVec.ofNat 8 (skewWhere avg)
          cls := BitVec.ofNat 8 (classCode sc.entry.cls), detail := BitVec.ofInt 24 avg
          addr := sc.entry.addr, time := s.stationTime })) ∧
  (∀ (n : Uplink) (s x : State), x = raiseLost n s ∨ x = lowerLost n s →
    x = { s with filter := x.filter, notices := x.notices } ∧
    (raiseLost n s).filter.lostCount n = s.filter.lostCount n + 1 ∧
    (lowerLost n s).filter.lostCount n = s.filter.lostCount n - 1 ∧
    x.filter.lostCount (other n) = s.filter.lostCount (other n) ∧
    x.filter.suspect n = suspectAfter s.settings.suspectThreshold (x.filter.lostCount n) (s.filter.suspect n) ∧
    x.filter.suspect (other n) = s.filter.suspect (other n) ∧
    (x.filter.suspect n = s.filter.suspect n → x.notices = s.notices) ∧
    (x.filter.suspect n ≠ s.filter.suspect n → x.notices = s.notices.add
      { kind := if x.filter.suspect n then .networkSuspect else .networkClear
        whr := BitVec.ofNat 8 (pathNumber n), cls := 0xFF
        detail := BitVec.ofNat 24 (x.filter.lostCount n), addr := 0, time := s.stationTime })) ∧
  ∀ s : State, ∃ x, x = settingAction .suspectThreshold s ∧
    x = { s with filter := x.filter, notices := x.notices } ∧
    (∀ n, x.filter.lostCount n = s.filter.lostCount n ∧
      x.filter.suspect n =
        suspectAfter s.settings.suspectThreshold (s.filter.lostCount n) (s.filter.suspect n)) ∧
    x.notices = (networkEvents [.u2, .u1] s x).foldl Notices.add s.notices

/-- For every entry without both paths LOST: health reads 1 (BOTH) just when both paths are PRESENT, 2
(SINGLE-1) just when path 2 is LOST, 3 (SINGLE-2) just when path 1 is LOST, and 0 (PENDING) just when
neither is LOST and one or both are UNSEEN. It is the fifth Value of an entry's part A, and the two Path
States are the thirteenth and fourteenth. (R95, R176) -/
def Obligations.HealthFollowsThePaths : Prop :=
  ∀ (e : Entry) (now : Time), ¬ (e.path1.state = .lost ∧ e.path2.state = .lost) →
    (e.health = 1 ↔ e.path1.state = .present ∧ e.path2.state = .present) ∧
    (e.health = 2 ↔ e.path2.state = .lost) ∧ (e.health = 3 ↔ e.path1.state = .lost) ∧
    (e.health = 0 ↔ e.path1.state ≠ .lost ∧ e.path2.state ≠ .lost ∧
      (e.path1.state = .unseen ∨ e.path2.state = .unseen)) ∧
    (entryPartA e now)[4]? = some (val e.health) ∧
    (entryPartA e now)[12]? = some (val (pathStateCode e.path1.state)) ∧
    (entryPartA e now)[13]? = some (val (pathStateCode e.path2.state))

/-! ### Invariants that every step keeps -/

/-- For every state that has Held occupied only while Primary is, the Excess count above 0 only while
Primary is occupied, and the FAULT pin high just while Primary is occupied: the state after any step has the
same. (R161, R166) -/
def Obligations.FaultRecordsStayInOrder : Prop :=
  ∀ s t : State, FaultInv s → step s = .next t → FaultInv t

/-- For every state in which READY is high just outside LOADING, the part is in LOADING while RESET_N is
low, the quiet timer runs only in QUIET, the presence timer only in RUN, and in LOADING neither link is UP:
the state after any step has the same. (R185, R190, R100, R108) -/
def Obligations.PartStateRulesItsTimersAndLinks : Prop :=
  ∀ s t : State, PartInv s ∧ LoadingInv s → step s = .next t → PartInv t ∧ LoadingInv t

/-- For every state in which no non-FREE Source Table entry has both Path States LOST, no such entry has
after any step. (R94) -/
def Obligations.NoEntryLosesBothPaths : Prop :=
  ∀ s t : State, PathInv s → step s = .next t → PathInv t

/-- For every state whose Source Table has entries 0..511 with strictly rising numbers, each in the bucket
of its key, no two with the same address and class, and no bucket with more than 3 PINNED entries: the table
after any step has the same. And for every state in which each entry with a window has seen its Head and has
at most 4 twin records, with distinct sequences within 63 behind the Head whose flags are set, and each
entry without one has none: so it is after any step. (R38, R42, R48, R67, R77) -/
def Obligations.SourceTableKeepsItsForm : Prop :=
  (∀ s t : State, TableInv s → step s = .next t → TableInv t) ∧
  ∀ s t : State, WindowInv s → step s = .next t → WindowInv t

/-- For every state whose Source Table has its form and whose four levels equal the number of non-FREE
entries, of PINNED entries, and of entries whose path 2 (Single-1) or path 1 (Single-2) is LOST: the levels
after any step equal these numbers. That the levels are registers of their own is the model's choice (log
28). The same of Origin In Use and Origin Pinned, for every state whose Origin Table has its form and whose
part state rules its timers. (R38, R46, R47, R96, R113) -/
def Obligations.LevelsCountWhatTheyName : Prop :=
  (∀ s t : State, TableInv s → LevelInv s → step s = .next t → LevelInv t) ∧
  ∀ s t : State, PartInv s → OriginInv s → OriginLevelInv s → step s = .next t →
    OriginLevelInv t

/-- For every state whose pools hold blocks 0..2,047 and handles 0..1,023 with strictly rising numbers, in
which no uplink or bay queue is over its capacity and the Notice Queue holds at most 32 records, and in
which an uplink whose link is DOWN sends nothing and holds nothing: the state after any step has the same.
(R28, R139, R153, R182, R109, R151) -/
def Obligations.PoolsAndQueuesKeepTheirBounds : Prop :=
  ∀ s t : State, StoreInv s ∧ QueueInv s ∧ LinkInv s → step s = .next t →
    StoreInv t ∧ QueueInv t ∧ LinkInv t

/-- For every state with the pools in canonical form in which free, held and quarantined blocks are 2,048, a
held block is in the list of the live handle that holds it and the blocks of such a list are held by it, and
in which a live handle's Reference Count is 1 or 2 and equals the queue entries and transmissions that name
it, nothing naming a free handle: so it is after any step. And for every such state whose part state rules
its timers and links, if outside RUN every tagged frame that an uplink queues or sends is of class 2 with a
reply's Code, 0x80 or above: so it is after any step. (R28, R32, R120) -/
def Obligations.ReferencesNameWhatIsQueued : Prop :=
  (∀ s t : State, StoreInv s → BlockInv s → RefInv s → step s = .next t → BlockInv t ∧ RefInv t) ∧
  ∀ s t : State, PartInv s ∧ LoadingInv s → StoreInv s ∧ LinkInv s → BlockInv s → RefInv s →
    ReplyInv s → step s = .next t → ReplyInv t

/-- For every state whose Origin Table has entries 0..63 with strictly rising numbers, no address twice, no
entry in LOADING, and otherwise entry 0 PINNED with the station address, and whose part state rules its
timers: the table after any step has the same. (R113, R114, R117, R131) -/
def Obligations.OriginTableKeepsItsForm : Prop :=
  ∀ s t : State, PartInv s → OriginInv s → step s = .next t → OriginInv t

/-- For every state in which the active and the staged map of both uplinks have 64 slots with exactly the
stored counts of Event, Timing and Stream and the rest General: the maps and counts after any step have the
same, whatever was staged, applied, loaded or reset. (R141, R142, R143, R144) -/
def Obligations.SlotMapsKeepTheirCounts : Prop :=
  ∀ s t : State, SlotInv s → step s = .next t → SlotInv t

/-- The state after chip reset has the fault records in order, the part state's rules, no entry with both
paths LOST, the forms of the Source Table, Origin Table and pools, the levels of both tables, windows that
fit their twins, the queue bounds, the rule of DOWN uplinks, blocks and references in order, no tagged copy,
and the slot maps of their counts. (R185, R140, R144) -/
def Obligations.ResetMeetsTheInvariants : Prop :=
  FaultInv State.reset ∧ PartInv State.reset ∧ LoadingInv State.reset ∧ PathInv State.reset ∧
    TableInv State.reset ∧ LevelInv State.reset ∧ StoreInv State.reset ∧ QueueInv State.reset ∧
    LinkInv State.reset ∧ OriginInv State.reset ∧ SlotInv State.reset ∧
    WindowInv State.reset ∧ OriginLevelInv State.reset ∧ BlockInv State.reset ∧ RefInv State.reset ∧
    ReplyInv State.reset

end
end

