-- ==== Sys2Proof/Laws/State.lean ====
section
/-! SUPPORT. One lemma per field per update of the state. -/

namespace Sys2Proof.Machine

section
variable (s : State) (f : Loader → Loader)
@[simp] theorem State.onLoader_resetN : (s.onLoader f).resetN = s.resetN := rfl
@[simp] theorem State.onLoader_stationTime : (s.onLoader f).stationTime = s.stationTime := rfl
@[simp] theorem State.onLoader_loader : (s.onLoader f).loader = f s.loader := rfl
@[simp] theorem State.onLoader_settings : (s.onLoader f).settings = s.settings := rfl
@[simp] theorem State.onLoader_store : (s.onLoader f).store = s.store := rfl
@[simp] theorem State.onLoader_portU1 : (s.onLoader f).portU1 = s.portU1 := rfl
@[simp] theorem State.onLoader_portU2 : (s.onLoader f).portU2 = s.portU2 := rfl
@[simp] theorem State.onLoader_portB : (s.onLoader f).portB = s.portB := rfl
@[simp] theorem State.onLoader_pause : (s.onLoader f).pause = s.pause := rfl
@[simp] theorem State.onLoader_filter : (s.onLoader f).filter = s.filter := rfl
@[simp] theorem State.onLoader_presence : (s.onLoader f).presence = s.presence := rfl
@[simp] theorem State.onLoader_pairing : (s.onLoader f).pairing = s.pairing := rfl
@[simp] theorem State.onLoader_u1 : (s.onLoader f).u1 = s.u1 := rfl
@[simp] theorem State.onLoader_u2 : (s.onLoader f).u2 = s.u2 := rfl
@[simp] theorem State.onLoader_bay : (s.onLoader f).bay = s.bay := rfl
@[simp] theorem State.onLoader_faults : (s.onLoader f).faults = s.faults := rfl
@[simp] theorem State.onLoader_notices : (s.onLoader f).notices = s.notices := rfl
@[simp] theorem State.onLoader_reports : (s.onLoader f).reports = s.reports := rfl
@[simp] theorem State.onLoader_freeUses : (s.onLoader f).freeUses = s.freeUses := rfl
@[simp] theorem State.onLoader_pending : (s.onLoader f).pending = s.pending := rfl
@[simp] theorem State.onLoader_port (p : Port) : (s.onLoader f).port p = s.port p := by cases p <;> rfl
@[simp] theorem State.onLoader_uplink (u : Uplink) : (s.onLoader f).uplink u = s.uplink u := by cases u <;> rfl
end

section
variable (s : State) (f : Settings → Settings)
@[simp] theorem State.onSettings_resetN : (s.onSettings f).resetN = s.resetN := rfl
@[simp] theorem State.onSettings_stationTime : (s.onSettings f).stationTime = s.stationTime := rfl
@[simp] theorem State.onSettings_loader : (s.onSettings f).loader = s.loader := rfl
@[simp] theorem State.onSettings_settings : (s.onSettings f).settings = f s.settings := rfl
@[simp] theorem State.onSettings_store : (s.onSettings f).store = s.store := rfl
@[simp] theorem State.onSettings_portU1 : (s.onSettings f).portU1 = s.portU1 := rfl
@[simp] theorem State.onSettings_portU2 : (s.onSettings f).portU2 = s.portU2 := rfl
@[simp] theorem State.onSettings_portB : (s.onSettings f).portB = s.portB := rfl
@[simp] theorem State.onSettings_pause : (s.onSettings f).pause = s.pause := rfl
@[simp] theorem State.onSettings_filter : (s.onSettings f).filter = s.filter := rfl
@[simp] theorem State.onSettings_presence : (s.onSettings f).presence = s.presence := rfl
@[simp] theorem State.onSettings_pairing : (s.onSettings f).pairing = s.pairing := rfl
@[simp] theorem State.onSettings_u1 : (s.onSettings f).u1 = s.u1 := rfl
@[simp] theorem State.onSettings_u2 : (s.onSettings f).u2 = s.u2 := rfl
@[simp] theorem State.onSettings_bay : (s.onSettings f).bay = s.bay := rfl
@[simp] theorem State.onSettings_faults : (s.onSettings f).faults = s.faults := rfl
@[simp] theorem State.onSettings_notices : (s.onSettings f).notices = s.notices := rfl
@[simp] theorem State.onSettings_reports : (s.onSettings f).reports = s.reports := rfl
@[simp] theorem State.onSettings_freeUses : (s.onSettings f).freeUses = s.freeUses := rfl
@[simp] theorem State.onSettings_pending : (s.onSettings f).pending = s.pending := rfl
@[simp] theorem State.onSettings_port (p : Port) : (s.onSettings f).port p = s.port p := by cases p <;> rfl
@[simp] theorem State.onSettings_uplink (u : Uplink) : (s.onSettings f).uplink u = s.uplink u := by cases u <;> rfl
end

section
variable (s : State) (f : FrameStore → FrameStore)
@[simp] theorem State.onStore_resetN : (s.onStore f).resetN = s.resetN := rfl
@[simp] theorem State.onStore_stationTime : (s.onStore f).stationTime = s.stationTime := rfl
@[simp] theorem State.onStore_loader : (s.onStore f).loader = s.loader := rfl
@[simp] theorem State.onStore_settings : (s.onStore f).settings = s.settings := rfl
@[simp] theorem State.onStore_store : (s.onStore f).store = f s.store := rfl
@[simp] theorem State.onStore_portU1 : (s.onStore f).portU1 = s.portU1 := rfl
@[simp] theorem State.onStore_portU2 : (s.onStore f).portU2 = s.portU2 := rfl
@[simp] theorem State.onStore_portB : (s.onStore f).portB = s.portB := rfl
@[simp] theorem State.onStore_pause : (s.onStore f).pause = s.pause := rfl
@[simp] theorem State.onStore_filter : (s.onStore f).filter = s.filter := rfl
@[simp] theorem State.onStore_presence : (s.onStore f).presence = s.presence := rfl
@[simp] theorem State.onStore_pairing : (s.onStore f).pairing = s.pairing := rfl
@[simp] theorem State.onStore_u1 : (s.onStore f).u1 = s.u1 := rfl
@[simp] theorem State.onStore_u2 : (s.onStore f).u2 = s.u2 := rfl
@[simp] theorem State.onStore_bay : (s.onStore f).bay = s.bay := rfl
@[simp] theorem State.onStore_faults : (s.onStore f).faults = s.faults := rfl
@[simp] theorem State.onStore_notices : (s.onStore f).notices = s.notices := rfl
@[simp] theorem State.onStore_reports : (s.onStore f).reports = s.reports := rfl
@[simp] theorem State.onStore_freeUses : (s.onStore f).freeUses = s.freeUses := rfl
@[simp] theorem State.onStore_pending : (s.onStore f).pending = s.pending := rfl
@[simp] theorem State.onStore_port (p : Port) : (s.onStore f).port p = s.port p := by cases p <;> rfl
@[simp] theorem State.onStore_uplink (u : Uplink) : (s.onStore f).uplink u = s.uplink u := by cases u <;> rfl
end

section
variable (s : State) (f : PauseEmission → PauseEmission)
@[simp] theorem State.onPause_resetN : (s.onPause f).resetN = s.resetN := rfl
@[simp] theorem State.onPause_stationTime : (s.onPause f).stationTime = s.stationTime := rfl
@[simp] theorem State.onPause_loader : (s.onPause f).loader = s.loader := rfl
@[simp] theorem State.onPause_settings : (s.onPause f).settings = s.settings := rfl
@[simp] theorem State.onPause_store : (s.onPause f).store = s.store := rfl
@[simp] theorem State.onPause_portU1 : (s.onPause f).portU1 = s.portU1 := rfl
@[simp] theorem State.onPause_portU2 : (s.onPause f).portU2 = s.portU2 := rfl
@[simp] theorem State.onPause_portB : (s.onPause f).portB = s.portB := rfl
@[simp] theorem State.onPause_pause : (s.onPause f).pause = f s.pause := rfl
@[simp] theorem State.onPause_filter : (s.onPause f).filter = s.filter := rfl
@[simp] theorem State.onPause_presence : (s.onPause f).presence = s.presence := rfl
@[simp] theorem State.onPause_pairing : (s.onPause f).pairing = s.pairing := rfl
@[simp] theorem State.onPause_u1 : (s.onPause f).u1 = s.u1 := rfl
@[simp] theorem State.onPause_u2 : (s.onPause f).u2 = s.u2 := rfl
@[simp] theorem State.onPause_bay : (s.onPause f).bay = s.bay := rfl
@[simp] theorem State.onPause_faults : (s.onPause f).faults = s.faults := rfl
@[simp] theorem State.onPause_notices : (s.onPause f).notices = s.notices := rfl
@[simp] theorem State.onPause_reports : (s.onPause f).reports = s.reports := rfl
@[simp] theorem State.onPause_freeUses : (s.onPause f).freeUses = s.freeUses := rfl
@[simp] theorem State.onPause_pending : (s.onPause f).pending = s.pending := rfl
@[simp] theorem State.onPause_port (p : Port) : (s.onPause f).port p = s.port p := by cases p <;> rfl
@[simp] theorem State.onPause_uplink (u : Uplink) : (s.onPause f).uplink u = s.uplink u := by cases u <;> rfl
end

section
variable (s : State) (f : Filter → Filter)
@[simp] theorem State.onFilter_resetN : (s.onFilter f).resetN = s.resetN := rfl
@[simp] theorem State.onFilter_stationTime : (s.onFilter f).stationTime = s.stationTime := rfl
@[simp] theorem State.onFilter_loader : (s.onFilter f).loader = s.loader := rfl
@[simp] theorem State.onFilter_settings : (s.onFilter f).settings = s.settings := rfl
@[simp] theorem State.onFilter_store : (s.onFilter f).store = s.store := rfl
@[simp] theorem State.onFilter_portU1 : (s.onFilter f).portU1 = s.portU1 := rfl
@[simp] theorem State.onFilter_portU2 : (s.onFilter f).portU2 = s.portU2 := rfl
@[simp] theorem State.onFilter_portB : (s.onFilter f).portB = s.portB := rfl
@[simp] theorem State.onFilter_pause : (s.onFilter f).pause = s.pause := rfl
@[simp] theorem State.onFilter_filter : (s.onFilter f).filter = f s.filter := rfl
@[simp] theorem State.onFilter_presence : (s.onFilter f).presence = s.presence := rfl
@[simp] theorem State.onFilter_pairing : (s.onFilter f).pairing = s.pairing := rfl
@[simp] theorem State.onFilter_u1 : (s.onFilter f).u1 = s.u1 := rfl
@[simp] theorem State.onFilter_u2 : (s.onFilter f).u2 = s.u2 := rfl
@[simp] theorem State.onFilter_bay : (s.onFilter f).bay = s.bay := rfl
@[simp] theorem State.onFilter_faults : (s.onFilter f).faults = s.faults := rfl
@[simp] theorem State.onFilter_notices : (s.onFilter f).notices = s.notices := rfl
@[simp] theorem State.onFilter_reports : (s.onFilter f).reports = s.reports := rfl
@[simp] theorem State.onFilter_freeUses : (s.onFilter f).freeUses = s.freeUses := rfl
@[simp] theorem State.onFilter_pending : (s.onFilter f).pending = s.pending := rfl
@[simp] theorem State.onFilter_port (p : Port) : (s.onFilter f).port p = s.port p := by cases p <;> rfl
@[simp] theorem State.onFilter_uplink (u : Uplink) : (s.onFilter f).uplink u = s.uplink u := by cases u <;> rfl
end

section
variable (s : State) (f : PresenceUnit → PresenceUnit)
@[simp] theorem State.onPresence_resetN : (s.onPresence f).resetN = s.resetN := rfl
@[simp] theorem State.onPresence_stationTime : (s.onPresence f).stationTime = s.stationTime := rfl
@[simp] theorem State.onPresence_loader : (s.onPresence f).loader = s.loader := rfl
@[simp] theorem State.onPresence_settings : (s.onPresence f).settings = s.settings := rfl
@[simp] theorem State.onPresence_store : (s.onPresence f).store = s.store := rfl
@[simp] theorem State.onPresence_portU1 : (s.onPresence f).portU1 = s.portU1 := rfl
@[simp] theorem State.onPresence_portU2 : (s.onPresence f).portU2 = s.portU2 := rfl
@[simp] theorem State.onPresence_portB : (s.onPresence f).portB = s.portB := rfl
@[simp] theorem State.onPresence_pause : (s.onPresence f).pause = s.pause := rfl
@[simp] theorem State.onPresence_filter : (s.onPresence f).filter = s.filter := rfl
@[simp] theorem State.onPresence_presence : (s.onPresence f).presence = f s.presence := rfl
@[simp] theorem State.onPresence_pairing : (s.onPresence f).pairing = s.pairing := rfl
@[simp] theorem State.onPresence_u1 : (s.onPresence f).u1 = s.u1 := rfl
@[simp] theorem State.onPresence_u2 : (s.onPresence f).u2 = s.u2 := rfl
@[simp] theorem State.onPresence_bay : (s.onPresence f).bay = s.bay := rfl
@[simp] theorem State.onPresence_faults : (s.onPresence f).faults = s.faults := rfl
@[simp] theorem State.onPresence_notices : (s.onPresence f).notices = s.notices := rfl
@[simp] theorem State.onPresence_reports : (s.onPresence f).reports = s.reports := rfl
@[simp] theorem State.onPresence_freeUses : (s.onPresence f).freeUses = s.freeUses := rfl
@[simp] theorem State.onPresence_pending : (s.onPresence f).pending = s.pending := rfl
@[simp] theorem State.onPresence_port (p : Port) : (s.onPresence f).port p = s.port p := by cases p <;> rfl
@[simp] theorem State.onPresence_uplink (u : Uplink) : (s.onPresence f).uplink u = s.uplink u := by cases u <;> rfl
end

section
variable (s : State) (f : Pairing → Pairing)
@[simp] theorem State.onPairing_resetN : (s.onPairing f).resetN = s.resetN := rfl
@[simp] theorem State.onPairing_stationTime : (s.onPairing f).stationTime = s.stationTime := rfl
@[simp] theorem State.onPairing_loader : (s.onPairing f).loader = s.loader := rfl
@[simp] theorem State.onPairing_settings : (s.onPairing f).settings = s.settings := rfl
@[simp] theorem State.onPairing_store : (s.onPairing f).store = s.store := rfl
@[simp] theorem State.onPairing_portU1 : (s.onPairing f).portU1 = s.portU1 := rfl
@[simp] theorem State.onPairing_portU2 : (s.onPairing f).portU2 = s.portU2 := rfl
@[simp] theorem State.onPairing_portB : (s.onPairing f).portB = s.portB := rfl
@[simp] theorem State.onPairing_pause : (s.onPairing f).pause = s.pause := rfl
@[simp] theorem State.onPairing_filter : (s.onPairing f).filter = s.filter := rfl
@[simp] theorem State.onPairing_presence : (s.onPairing f).presence = s.presence := rfl
@[simp] theorem State.onPairing_pairing : (s.onPairing f).pairing = f s.pairing := rfl
@[simp] theorem State.onPairing_u1 : (s.onPairing f).u1 = s.u1 := rfl
@[simp] theorem State.onPairing_u2 : (s.onPairing f).u2 = s.u2 := rfl
@[simp] theorem State.onPairing_bay : (s.onPairing f).bay = s.bay := rfl
@[simp] theorem State.onPairing_faults : (s.onPairing f).faults = s.faults := rfl
@[simp] theorem State.onPairing_notices : (s.onPairing f).notices = s.notices := rfl
@[simp] theorem State.onPairing_reports : (s.onPairing f).reports = s.reports := rfl
@[simp] theorem State.onPairing_freeUses : (s.onPairing f).freeUses = s.freeUses := rfl
@[simp] theorem State.onPairing_pending : (s.onPairing f).pending = s.pending := rfl
@[simp] theorem State.onPairing_port (p : Port) : (s.onPairing f).port p = s.port p := by cases p <;> rfl
@[simp] theorem State.onPairing_uplink (u : Uplink) : (s.onPairing f).uplink u = s.uplink u := by cases u <;> rfl
end

section
variable (s : State) (f : BayEgress → BayEgress)
@[simp] theorem State.onBay_resetN : (s.onBay f).resetN = s.resetN := rfl
@[simp] theorem State.onBay_stationTime : (s.onBay f).stationTime = s.stationTime := rfl
@[simp] theorem State.onBay_loader : (s.onBay f).loader = s.loader := rfl
@[simp] theorem State.onBay_settings : (s.onBay f).settings = s.settings := rfl
@[simp] theorem State.onBay_store : (s.onBay f).store = s.store := rfl
@[simp] theorem State.onBay_portU1 : (s.onBay f).portU1 = s.portU1 := rfl
@[simp] theorem State.onBay_portU2 : (s.onBay f).portU2 = s.portU2 := rfl
@[simp] theorem State.onBay_portB : (s.onBay f).portB = s.portB := rfl
@[simp] theorem State.onBay_pause : (s.onBay f).pause = s.pause := rfl
@[simp] theorem State.onBay_filter : (s.onBay f).filter = s.filter := rfl
@[simp] theorem State.onBay_presence : (s.onBay f).presence = s.presence := rfl
@[simp] theorem State.onBay_pairing : (s.onBay f).pairing = s.pairing := rfl
@[simp] theorem State.onBay_u1 : (s.onBay f).u1 = s.u1 := rfl
@[simp] theorem State.onBay_u2 : (s.onBay f).u2 = s.u2 := rfl
@[simp] theorem State.onBay_bay : (s.onBay f).bay = f s.bay := rfl
@[simp] theorem State.onBay_faults : (s.onBay f).faults = s.faults := rfl
@[simp] theorem State.onBay_notices : (s.onBay f).notices = s.notices := rfl
@[simp] theorem State.onBay_reports : (s.onBay f).reports = s.reports := rfl
@[simp] theorem State.onBay_freeUses : (s.onBay f).freeUses = s.freeUses := rfl
@[simp] theorem State.onBay_pending : (s.onBay f).pending = s.pending := rfl
@[simp] theorem State.onBay_port (p : Port) : (s.onBay f).port p = s.port p := by cases p <;> rfl
@[simp] theorem State.onBay_uplink (u : Uplink) : (s.onBay f).uplink u = s.uplink u := by cases u <;> rfl
end

section
variable (s : State) (f : FaultUnit → FaultUnit)
@[simp] theorem State.onFaults_resetN : (s.onFaults f).resetN = s.resetN := rfl
@[simp] theorem State.onFaults_stationTime : (s.onFaults f).stationTime = s.stationTime := rfl
@[simp] theorem State.onFaults_loader : (s.onFaults f).loader = s.loader := rfl
@[simp] theorem State.onFaults_settings : (s.onFaults f).settings = s.settings := rfl
@[simp] theorem State.onFaults_store : (s.onFaults f).store = s.store := rfl
@[simp] theorem State.onFaults_portU1 : (s.onFaults f).portU1 = s.portU1 := rfl
@[simp] theorem State.onFaults_portU2 : (s.onFaults f).portU2 = s.portU2 := rfl
@[simp] theorem State.onFaults_portB : (s.onFaults f).portB = s.portB := rfl
@[simp] theorem State.onFaults_pause : (s.onFaults f).pause = s.pause := rfl
@[simp] theorem State.onFaults_filter : (s.onFaults f).filter = s.filter := rfl
@[simp] theorem State.onFaults_presence : (s.onFaults f).presence = s.presence := rfl
@[simp] theorem State.onFaults_pairing : (s.onFaults f).pairing = s.pairing := rfl
@[simp] theorem State.onFaults_u1 : (s.onFaults f).u1 = s.u1 := rfl
@[simp] theorem State.onFaults_u2 : (s.onFaults f).u2 = s.u2 := rfl
@[simp] theorem State.onFaults_bay : (s.onFaults f).bay = s.bay := rfl
@[simp] theorem State.onFaults_faults : (s.onFaults f).faults = f s.faults := rfl
@[simp] theorem State.onFaults_notices : (s.onFaults f).notices = s.notices := rfl
@[simp] theorem State.onFaults_reports : (s.onFaults f).reports = s.reports := rfl
@[simp] theorem State.onFaults_freeUses : (s.onFaults f).freeUses = s.freeUses := rfl
@[simp] theorem State.onFaults_pending : (s.onFaults f).pending = s.pending := rfl
@[simp] theorem State.onFaults_port (p : Port) : (s.onFaults f).port p = s.port p := by cases p <;> rfl
@[simp] theorem State.onFaults_uplink (u : Uplink) : (s.onFaults f).uplink u = s.uplink u := by cases u <;> rfl
end

section
variable (s : State) (f : Notices → Notices)
@[simp] theorem State.onNotices_resetN : (s.onNotices f).resetN = s.resetN := rfl
@[simp] theorem State.onNotices_stationTime : (s.onNotices f).stationTime = s.stationTime := rfl
@[simp] theorem State.onNotices_loader : (s.onNotices f).loader = s.loader := rfl
@[simp] theorem State.onNotices_settings : (s.onNotices f).settings = s.settings := rfl
@[simp] theorem State.onNotices_store : (s.onNotices f).store = s.store := rfl
@[simp] theorem State.onNotices_portU1 : (s.onNotices f).portU1 = s.portU1 := rfl
@[simp] theorem State.onNotices_portU2 : (s.onNotices f).portU2 = s.portU2 := rfl
@[simp] theorem State.onNotices_portB : (s.onNotices f).portB = s.portB := rfl
@[simp] theorem State.onNotices_pause : (s.onNotices f).pause = s.pause := rfl
@[simp] theorem State.onNotices_filter : (s.onNotices f).filter = s.filter := rfl
@[simp] theorem State.onNotices_presence : (s.onNotices f).presence = s.presence := rfl
@[simp] theorem State.onNotices_pairing : (s.onNotices f).pairing = s.pairing := rfl
@[simp] theorem State.onNotices_u1 : (s.onNotices f).u1 = s.u1 := rfl
@[simp] theorem State.onNotices_u2 : (s.onNotices f).u2 = s.u2 := rfl
@[simp] theorem State.onNotices_bay : (s.onNotices f).bay = s.bay := rfl
@[simp] theorem State.onNotices_faults : (s.onNotices f).faults = s.faults := rfl
@[simp] theorem State.onNotices_notices : (s.onNotices f).notices = f s.notices := rfl
@[simp] theorem State.onNotices_reports : (s.onNotices f).reports = s.reports := rfl
@[simp] theorem State.onNotices_freeUses : (s.onNotices f).freeUses = s.freeUses := rfl
@[simp] theorem State.onNotices_pending : (s.onNotices f).pending = s.pending := rfl
@[simp] theorem State.onNotices_port (p : Port) : (s.onNotices f).port p = s.port p := by cases p <;> rfl
@[simp] theorem State.onNotices_uplink (u : Uplink) : (s.onNotices f).uplink u = s.uplink u := by cases u <;> rfl
end

section
variable (s : State) (p : Port) (f : PortCounters → PortCounters)
@[simp] theorem State.onPort_resetN : (s.onPort p f).resetN = s.resetN := by cases p <;> rfl
@[simp] theorem State.onPort_stationTime : (s.onPort p f).stationTime = s.stationTime := by cases p <;> rfl
@[simp] theorem State.onPort_loader : (s.onPort p f).loader = s.loader := by cases p <;> rfl
@[simp] theorem State.onPort_settings : (s.onPort p f).settings = s.settings := by cases p <;> rfl
@[simp] theorem State.onPort_store : (s.onPort p f).store = s.store := by cases p <;> rfl
@[simp] theorem State.onPort_pause : (s.onPort p f).pause = s.pause := by cases p <;> rfl
@[simp] theorem State.onPort_filter : (s.onPort p f).filter = s.filter := by cases p <;> rfl
@[simp] theorem State.onPort_presence : (s.onPort p f).presence = s.presence := by cases p <;> rfl
@[simp] theorem State.onPort_pairing : (s.onPort p f).pairing = s.pairing := by cases p <;> rfl
@[simp] theorem State.onPort_u1 : (s.onPort p f).u1 = s.u1 := by cases p <;> rfl
@[simp] theorem State.onPort_u2 : (s.onPort p f).u2 = s.u2 := by cases p <;> rfl
@[simp] theorem State.onPort_bay : (s.onPort p f).bay = s.bay := by cases p <;> rfl
@[simp] theorem State.onPort_faults : (s.onPort p f).faults = s.faults := by cases p <;> rfl
@[simp] theorem State.onPort_notices : (s.onPort p f).notices = s.notices := by cases p <;> rfl
@[simp] theorem State.onPort_reports : (s.onPort p f).reports = s.reports := by cases p <;> rfl
@[simp] theorem State.onPort_freeUses : (s.onPort p f).freeUses = s.freeUses := by cases p <;> rfl
@[simp] theorem State.onPort_pending : (s.onPort p f).pending = s.pending := by cases p <;> rfl
@[simp] theorem State.onPort_port : (s.onPort p f).port p = f (s.port p) := by cases p <;> rfl
theorem State.onPort_port_other (q : Port) (h : q ≠ p) : (s.onPort p f).port q = s.port q := by
  cases p <;> cases q <;> first | rfl | exact absurd rfl h
@[simp] theorem State.onPort_uplink (u : Uplink) : (s.onPort p f).uplink u = s.uplink u := by
  cases p <;> cases u <;> rfl
end

section
variable (s : State) (u : Uplink) (f : UplinkEgress → UplinkEgress)
@[simp] theorem State.onUplink_resetN : (s.onUplink u f).resetN = s.resetN := by cases u <;> rfl
@[simp] theorem State.onUplink_stationTime : (s.onUplink u f).stationTime = s.stationTime := by cases u <;> rfl
@[simp] theorem State.onUplink_loader : (s.onUplink u f).loader = s.loader := by cases u <;> rfl
@[simp] theorem State.onUplink_settings : (s.onUplink u f).settings = s.settings := by cases u <;> rfl
@[simp] theorem State.onUplink_store : (s.onUplink u f).store = s.store := by cases u <;> rfl
@[simp] theorem State.onUplink_portU1 : (s.onUplink u f).portU1 = s.portU1 := by cases u <;> rfl
@[simp] theorem State.onUplink_portU2 : (s.onUplink u f).portU2 = s.portU2 := by cases u <;> rfl
@[simp] theorem State.onUplink_portB : (s.onUplink u f).portB = s.portB := by cases u <;> rfl
@[simp] theorem State.onUplink_pause : (s.onUplink u f).pause = s.pause := by cases u <;> rfl
@[simp] theorem State.onUplink_filter : (s.onUplink u f).filter = s.filter := by cases u <;> rfl
@[simp] theorem State.onUplink_presence : (s.onUplink u f).presence = s.presence := by cases u <;> rfl
@[simp] theorem State.onUplink_pairing : (s.onUplink u f).pairing = s.pairing := by cases u <;> rfl
@[simp] theorem State.onUplink_bay : (s.onUplink u f).bay = s.bay := by cases u <;> rfl
@[simp] theorem State.onUplink_faults : (s.onUplink u f).faults = s.faults := by cases u <;> rfl
@[simp] theorem State.onUplink_notices : (s.onUplink u f).notices = s.notices := by cases u <;> rfl
@[simp] theorem State.onUplink_reports : (s.onUplink u f).reports = s.reports := by cases u <;> rfl
@[simp] theorem State.onUplink_freeUses : (s.onUplink u f).freeUses = s.freeUses := by cases u <;> rfl
@[simp] theorem State.onUplink_pending : (s.onUplink u f).pending = s.pending := by cases u <;> rfl
@[simp] theorem State.onUplink_uplink : (s.onUplink u f).uplink u = f (s.uplink u) := by cases u <;> rfl
@[simp] theorem State.onUplink_uplink_other : (s.onUplink u f).uplink (other u) = s.uplink (other u) := by
  cases u <;> rfl
@[simp] theorem State.onUplink_port (p : Port) : (s.onUplink u f).port p = s.port p := by
  cases u <;> cases p <;> rfl
end

section
variable (s t : State)
@[simp] theorem State.keepBay_resetN : (s.keepBay t).resetN = t.resetN := rfl
@[simp] theorem State.keepBay_stationTime : (s.keepBay t).stationTime = t.stationTime := rfl
@[simp] theorem State.keepBay_loader : (s.keepBay t).loader = t.loader := rfl
@[simp] theorem State.keepBay_settings : (s.keepBay t).settings = t.settings := rfl
@[simp] theorem State.keepBay_store : (s.keepBay t).store = t.store := rfl
@[simp] theorem State.keepBay_portU1 : (s.keepBay t).portU1 = t.portU1 := rfl
@[simp] theorem State.keepBay_portU2 : (s.keepBay t).portU2 = t.portU2 := rfl
@[simp] theorem State.keepBay_portB : (s.keepBay t).portB = s.portB := rfl
@[simp] theorem State.keepBay_pause : (s.keepBay t).pause = s.pause := rfl
@[simp] theorem State.keepBay_filter : (s.keepBay t).filter = t.filter := rfl
@[simp] theorem State.keepBay_presence : (s.keepBay t).presence = t.presence := rfl
@[simp] theorem State.keepBay_pairing : (s.keepBay t).pairing = t.pairing := rfl
@[simp] theorem State.keepBay_u1 : (s.keepBay t).u1 = t.u1 := rfl
@[simp] theorem State.keepBay_u2 : (s.keepBay t).u2 = t.u2 := rfl
@[simp] theorem State.keepBay_bay : (s.keepBay t).bay = s.bay := rfl
@[simp] theorem State.keepBay_faults : (s.keepBay t).faults = t.faults := rfl
@[simp] theorem State.keepBay_notices : (s.keepBay t).notices = t.notices := rfl
@[simp] theorem State.keepBay_reports : (s.keepBay t).reports = t.reports := rfl
@[simp] theorem State.keepBay_freeUses : (s.keepBay t).freeUses = t.freeUses := rfl
@[simp] theorem State.keepBay_pending : (s.keepBay t).pending = t.pending := rfl
@[simp] theorem State.keepBay_uplink (u : Uplink) : (s.keepBay t).uplink u = t.uplink u := by cases u <;> rfl
@[simp] theorem State.keepBay_port (u : Uplink) :
    (s.keepBay t).port (uplinkPort u) = t.port (uplinkPort u) := by cases u <;> rfl
end

section
variable (u : Uplink) (s : State)
@[simp] theorem portReset_bay : (portReset u s).bay = s.bay := rfl
@[simp] theorem portReset_pause : (portReset u s).pause = s.pause := rfl
@[simp] theorem portReset_portB : (portReset u s).portB = s.portB := rfl
end

end Sys2Proof.Machine
end

