-- ==== Sys2Proof/Laws/Frames.lean ====
section
/-! SUPPORT. What each shared operation leaves as it was: one frame lemma for each. -/

namespace Sys2Proof.Machine

theorem OnlyStorage.refl (s : State) : OnlyStorage s s :=
  ⟨rfl, rfl, rfl, rfl, rfl, rfl, rfl, rfl, rfl, rfl, rfl, rfl, rfl, rfl, rfl⟩

theorem OnlyStorage.trans {s t u : State} (h : OnlyStorage s t) (k : OnlyStorage t u) : OnlyStorage s u :=
  ⟨k.resetN.trans h.resetN, k.stationTime.trans h.stationTime, k.loader.trans h.loader,
    k.settings.trans h.settings, k.portU1.trans h.portU1, k.portU2.trans h.portU2,
    k.filter.trans h.filter, k.presence.trans h.presence, k.pairing.trans h.pairing,
    k.u1.trans h.u1, k.u2.trans h.u2, k.faults.trans h.faults, k.notices.trans h.notices,
    k.freeUses.trans h.freeUses, k.pending.trans h.pending⟩

theorem OnlyEgress.refl (s : State) : OnlyEgress s s :=
  ⟨rfl, rfl, rfl, rfl, rfl, rfl, rfl, rfl, rfl, rfl, rfl, rfl⟩

theorem OnlyEgress.trans {s t u : State} (h : OnlyEgress s t) (k : OnlyEgress t u) : OnlyEgress s u :=
  ⟨k.resetN.trans h.resetN, k.stationTime.trans h.stationTime, k.loader.trans h.loader,
    k.settings.trans h.settings, k.portU1.trans h.portU1, k.portU2.trans h.portU2,
    k.filter.trans h.filter, k.presence.trans h.presence, k.pairing.trans h.pairing,
    k.faults.trans h.faults, k.freeUses.trans h.freeUses, k.pending.trans h.pending⟩

theorem OnlyFilter.refl (s : State) : OnlyFilter s s :=
  ⟨rfl, rfl, rfl, rfl, rfl, rfl, rfl, rfl, rfl, rfl, rfl, rfl, rfl, rfl, rfl, rfl, rfl⟩

theorem OnlyFilter.trans {s t u : State} (h : OnlyFilter s t) (k : OnlyFilter t u) : OnlyFilter s u :=
  ⟨k.resetN.trans h.resetN, k.stationTime.trans h.stationTime, k.loader.trans h.loader,
    k.settings.trans h.settings, k.store.trans h.store, k.portU1.trans h.portU1,
    k.portU2.trans h.portU2, k.portB.trans h.portB, k.pause.trans h.pause,
    k.presence.trans h.presence, k.pairing.trans h.pairing, k.u1.trans h.u1, k.u2.trans h.u2,
    k.bay.trans h.bay, k.faults.trans h.faults, k.freeUses.trans h.freeUses,
    k.pending.trans h.pending⟩

theorem OnlyPairing.refl (s : State) : OnlyPairing s s :=
  ⟨rfl, rfl, rfl, rfl, rfl, rfl, rfl, rfl, rfl, rfl, rfl, rfl, rfl, rfl, rfl, rfl, rfl, rfl⟩

theorem OnlyPairing.trans {s t u : State} (h : OnlyPairing s t) (k : OnlyPairing t u) : OnlyPairing s u :=
  ⟨k.resetN.trans h.resetN, k.stationTime.trans h.stationTime, k.loader.trans h.loader,
    k.settings.trans h.settings, k.store.trans h.store, k.portU1.trans h.portU1,
    k.portU2.trans h.portU2, k.portB.trans h.portB, k.pause.trans h.pause,
    k.filter.trans h.filter, k.presence.trans h.presence, k.u1.trans h.u1, k.u2.trans h.u2,
    k.bay.trans h.bay, k.faults.trans h.faults, k.notices.trans h.notices,
    k.freeUses.trans h.freeUses, k.pending.trans h.pending⟩

theorem OnlyStorage.egress {s t : State} (h : OnlyStorage s t) : OnlyEgress s t :=
  ⟨h.resetN, h.stationTime, h.loader, h.settings, h.portU1, h.portU2, h.filter, h.presence,
    h.pairing, h.faults, h.freeUses, h.pending⟩

/-! ### Storage -/

theorem report_storage (k : FaultKind) (l : Nat) (p : Option Port) (c : Option TClass) (s : State) :
    OnlyStorage s (report k l p c s) := by constructor <;> rfl

theorem onStore_storage (f : FrameStore → FrameStore) (s : State) : OnlyStorage s (s.onStore f) := by
  constructor <;> rfl

theorem onPause_storage (f : PauseEmission → PauseEmission) (s : State) : OnlyStorage s (s.onPause f) := by
  constructor <;> rfl

theorem onBay_storage (f : BayEgress → BayEgress) (s : State) : OnlyStorage s (s.onBay f) := by
  constructor <;> rfl

theorem onPortB_storage (f : PortCounters → PortCounters) (s : State) :
    OnlyStorage s (s.onPort .b f) := by constructor <;> rfl

theorem startPause_storage (s : State) : OnlyStorage s (startPause s) := by
  unfold startPause
  split
  · constructor <;> rfl
  · exact OnlyStorage.refl s

theorem makePausePending_storage (q : BitVec 16) (s : State) : OnlyStorage s (makePausePending q s) :=
  (onPause_storage _ s).trans (startPause_storage _)

theorem assertPause_storage (s : State) : OnlyStorage s (assertPause s) :=
  (onPause_storage _ s).trans (makePausePending_storage _ _)

theorem releasePause_storage (s : State) : OnlyStorage s (releasePause s) :=
  (onPause_storage _ s).trans (makePausePending_storage _ _)

theorem pauseTest_storage (s : State) : OnlyStorage s (pauseTest s) := by
  unfold pauseTest
  split
  · split
    · exact assertPause_storage s
    · split
      · exact releasePause_storage s
      · exact OnlyStorage.refl s
  · exact OnlyStorage.refl s

theorem writeHandle_storage (h : Nat) (f : Handle → Handle) (s : State) :
    OnlyStorage s (writeHandle h f s) := by
  unfold writeHandle
  split
  · exact onStore_storage _ s
  · exact OnlyStorage.refl s

theorem setRefs_storage (h n : Nat) (s : State) : OnlyStorage s (setRefs h n s) :=
  writeHandle_storage h _ s

theorem storeFrame_storage (f : List Octet) (c : TClass) (t : Option TagFields) (s : State) :
    OnlyStorage s (storeFrame f c t s) :=
  (onStore_storage _ s).trans (pauseTest_storage _)

/-- An admission, where it is granted, gives the lowest free handle and the state with the frame in
storage. -/
theorem admit_some {f : List Octet} {c : TClass} {t : Option TagFields} {b k : Nat} {s s' : State} {h : Nat}
    (e : offerStorage f c t b k s = some (h, s')) :
    admits s f.length b k = true ∧ h = lowestHandle s ∧ s' = storeFrame f c t s := by
  unfold offerStorage at e
  split at e
  · rename_i g
    injection e with e
    injection e with e1 e2
    exact ⟨g, e1.symm, e2.symm⟩
  · exact absurd e (by simp)

theorem admitBuilt_storage (f : List Octet) (c : TClass) (s : State) :
    OnlyStorage s (admitBuilt f c s).2 := by
  unfold admitBuilt
  split
  · rename_i h s' e
    rw [(admit_some e).2.2]
    exact storeFrame_storage f c none s
  · dsimp only
    exact onStore_storage _ s

theorem freeHandle_storage (h : Nat) (s : State) : OnlyStorage s (freeHandle h s) :=
  (onStore_storage _ s).trans (pauseTest_storage _)

theorem quarantineHandle_storage (p : Option Port) (h : Nat) (s : State) :
    OnlyStorage s (quarantineHandle p h s) :=
  (onStore_storage _ s).trans (report_storage _ _ _ _ _)

theorem release_storage (p : Option Port) (h : Nat) (s : State) : OnlyStorage s (release p h s) := by
  unfold release
  split
  · exact OnlyStorage.refl s
  · split
    · exact OnlyStorage.refl s
    · split
      · exact quarantineHandle_storage p h s
      · split
        · exact freeHandle_storage h s
        · exact writeHandle_storage h _ s

theorem countQuarantineDrop_storage (s : State) : OnlyStorage s (countQuarantineDrop s) :=
  onStore_storage _ s

/-! ### Egress -/

theorem onUplink_egress (u : Uplink) (f : UplinkEgress → UplinkEgress) (s : State) :
    OnlyEgress s (s.onUplink u f) := by cases u <;> constructor <;> rfl

theorem onNotices_egress (f : Notices → Notices) (s : State) : OnlyEgress s (s.onNotices f) := by
  constructor <;> rfl

theorem onBay_egress (f : BayEgress → BayEgress) (s : State) : OnlyEgress s (s.onBay f) :=
  (onBay_storage f s).egress

theorem raise_egress (k : EventKind) (w : Nat) (c : Option TClass) (d : Nat) (a : Address) (s : State) :
    OnlyEgress s (raise k w c d a s) := onNotices_egress _ s

theorem release_egress (p : Option Port) (h : Nat) (s : State) : OnlyEgress s (release p h s) :=
  (release_storage p h s).egress

theorem offerUplink_egress (p : Option Port) (u : Uplink) (q : SlotClass) (e : QueueEntry) (s : State) :
    OnlyEgress s (offerUplink p u q e s) := by
  unfold offerUplink
  split
  · exact onUplink_egress _ _ s
  · exact (release_egress _ _ s).trans (onUplink_egress _ _ _)

theorem offerBay_egress (p : Option Port) (q : BayQueue) (h : Nat) (s : State) :
    OnlyEgress s (offerBay p q h s).2 := by
  unfold offerBay
  split
  · dsimp only
    exact onBay_egress _ s
  · dsimp only
    exact (release_egress _ _ s).trans (onBay_egress _ _)

/-- A head entry that fails a test of R146 leaves by a drop, a quarantine or a release: where the counting
of a residence drop touches the egress alone, so does the test. -/
theorem screenHead_egress {p : Port} {l : Nat} {g : State → State} {h : Nat} {s t : State}
    (hg : ∀ x, OnlyEgress x (g x)) (e : screenHead p l g h s = some t) : OnlyEgress s t := by
  unfold screenHead at e
  split at e
  · injection e with e
    exact e ▸ OnlyEgress.refl s
  · split at e
    · injection e with e
      exact e ▸ (countQuarantineDrop_storage s).egress
    · split at e
      · injection e with e
        exact e ▸ (quarantineHandle_storage _ _ s).egress
      · split at e
        · injection e with e
          exact e ▸ (release_egress _ _ s).trans (hg _)
        · split at e
          · injection e with e
            exact e ▸ (report_storage _ _ _ _ s).egress.trans (release_egress _ _ _)
          · exact absurd e (by simp)

theorem cycleBoundary_egress (u : Uplink) (s : State) : OnlyEgress s (cycleBoundary u s) := by
  unfold cycleBoundary
  split
  · exact (onUplink_egress _ _ s).trans (raise_egress _ _ _ _ _ _)
  · exact OnlyEgress.refl s

theorem advanceCursor_egress (u : Uplink) (s : State) : OnlyEgress s (advanceCursor u s) := by
  unfold advanceCursor
  split
  · exact (onUplink_egress _ _ s).trans (cycleBoundary_egress _ _)
  · exact onUplink_egress _ _ s

theorem startCopy_egress (u : Uplink) (q : SlotClass) (b : Bool) (e : QueueEntry) (s : State) :
    OnlyEgress s (startCopy u q b e s) :=
  (onUplink_egress _ _ s).trans (advanceCursor_egress _ _)

theorem uplinkChoices_egress (u : Uplink) (n : Nat) (s : State) : OnlyEgress s (uplinkChoices u n s) := by
  induction n generalizing s with
  | zero => exact OnlyEgress.refl s
  | succ n ih =>
    unfold uplinkChoices
    split
    · split
      · exact OnlyEgress.refl s
      · split
        · exact OnlyEgress.refl s
        · dsimp only
          split
          · exact (onUplink_egress _ _ s).trans (startCopy_egress _ _ _ _ _)
          · rename_i e
            exact ((onUplink_egress _ _ s).trans
              (screenHead_egress (fun x => onUplink_egress _ _ x) e)).trans (ih _)
    · exact OnlyEgress.refl s

theorem uplinkChoice_egress (u : Uplink) (s : State) : OnlyEgress s (uplinkChoice u s) :=
  uplinkChoices_egress u _ s

theorem bayChoices_egress (n : Nat) (s : State) : OnlyEgress s (bayChoices n s) := by
  induction n generalizing s with
  | zero => exact OnlyEgress.refl s
  | succ n ih =>
    unfold bayChoices
    split
    · split
      · exact OnlyEgress.refl s
      · split
        · exact OnlyEgress.refl s
        · dsimp only
          split
          · exact (onBay_egress _ s).trans (onBay_egress _ _)
          · rename_i e
            exact ((onBay_egress _ s).trans
              (screenHead_egress (fun x => onBay_egress _ x) e)).trans (ih _)
    · exact OnlyEgress.refl s

theorem bayChoice_egress (s : State) : OnlyEgress s (bayChoice s) := bayChoices_egress _ s

/-! ### Received pauses -/

theorem heldScreens_storage (q : BayQueue) (n : Nat) (s : State) : OnlyStorage s (heldScreens q n s) := by
  induction n generalizing s with
  | zero => exact OnlyStorage.refl s
  | succ n ih =>
    unfold heldScreens
    split
    · exact OnlyStorage.refl s
    · split
      · exact OnlyStorage.refl s
      · split
        · exact (((onBay_storage _ s).trans (release_storage _ _ _)).trans (onBay_storage _ _)).trans (ih _)
        · exact OnlyStorage.refl s

/-- The screening of R158 touches storage and B alone. -/
theorem screenHeld_storage (s : State) : OnlyStorage s (screenHeld s) :=
  ((heldScreens_storage _ _ s).trans (heldScreens_storage _ _ _)).trans (heldScreens_storage _ _ _)

/-- A quanta value touches storage and B alone. -/
theorem takeQuanta_storage (q : BitVec 16) (s : State) : OnlyStorage s (takeQuanta q s) := by
  unfold takeQuanta
  split
  · split
    · exact (screenHeld_storage s).trans (onBay_storage _ _)
    · exact onBay_storage _ s
  · exact ((onBay_storage _ s).trans (onPortB_storage _ _)).trans (screenHeld_storage _)

/-- A quanta 0 that finds no hold running screens nothing (log 36). -/
theorem takeQuanta_zero_of_not_held {s : State} (h : s.bay.held = false) : takeQuanta 0 s = endHold s := by
  simp [takeQuanta, h]

/-- After a quanta 0 the Bay Egress is not Held and its pause timer is stopped (R157). -/
theorem takeQuanta_zero (s : State) :
    (takeQuanta 0 s).bay.held = false ∧ (takeQuanta 0 s).bay.pauseTimer = none := by
  unfold takeQuanta
  simp only [if_true]
  split <;> exact ⟨rfl, rfl⟩

theorem offerNotice_egress (h : Nat) (s : State) : OnlyEgress s (offerNotice h s) := by
  have k := (setRefs_storage h 1 s).egress.trans (offerBay_egress (some .b) .service h (setRefs h 1 s))
  unfold offerNotice
  split
  · rename_i e
    rw [e] at k
    exact k.trans (onNotices_egress _ _)
  · rename_i e
    rw [e] at k
    exact k.trans (onNotices_egress _ _)

theorem sendAttempt_egress (s : State) : OnlyEgress s (sendAttempt s) := by
  have k := (admitBuilt_storage (noticeOctets s) .general s).egress
  unfold sendAttempt
  split
  · rename_i e
    rw [e] at k
    exact k.trans (onNotices_egress _ _)
  · rename_i e
    rw [e] at k
    exact (k.trans (offerNotice_egress _ _)).trans (onNotices_egress _ _)

theorem noticeTest_egress (s : State) : OnlyEgress s (noticeTest s) := by
  unfold noticeTest
  split
  · exact sendAttempt_egress s
  · exact OnlyEgress.refl s

/-- The tests at a handling's end touch the egresses and what goes with them alone. -/
theorem finish_egress (s : State) : OnlyEgress s (finish s) :=
  (((uplinkChoice_egress .u1 s).trans (uplinkChoice_egress .u2 _)).trans (noticeTest_egress _)).trans
    (bayChoice_egress _)

/-- A reply to a request from B touches the egresses and what goes with them alone. -/
theorem sendReply_egress (code : Octet) (r : Request) (a : Answer) (s : State) (hb : r.port = .b) :
    OnlyEgress s (sendReply code r a s) := by
  have k := fun c => (onNotices_egress (fun n => { n with repliesBuilt := n.repliesBuilt + 1 }) s).trans
    (admitBuilt_storage (replyOctets code r a s) c _).egress
  unfold sendReply
  split
  · rename_i e
    have k := k (if r.port = .b then .general else .timing)
    rw [e] at k
    exact k
  · rename_i h s' e
    have k := k (if r.port = .b then .general else .timing)
    rw [e] at k
    unfold deliver
    rw [if_pos hb]
    exact (k.trans (setRefs_storage h 1 s').egress).trans (offerBay_egress _ _ _ _)

/-! ### Source Table -/

theorem onFilter_filter (f : Filter → Filter) (s : State) : OnlyFilter s (s.onFilter f) := by
  constructor <;> rfl

theorem raise_filter (k : EventKind) (w : Nat) (c : Option TClass) (d : Nat) (a : Address) (s : State) :
    OnlyFilter s (raise k w c d a s) := by constructor <;> rfl

theorem report_filter (k : FaultKind) (l : Nat) (p : Option Port) (c : Option TClass) (s : State) :
    OnlyFilter s (report k l p c s) := by constructor <;> rfl

theorem judgeNetwork_filter (n : Uplink) (s : State) : OnlyFilter s (judgeNetwork n s) := by
  unfold judgeNetwork
  split
  · exact (onFilter_filter _ s).trans (raise_filter _ _ _ _ _ _)
  · split
    · exact (onFilter_filter _ s).trans (raise_filter _ _ _ _ _ _)
    · exact OnlyFilter.refl s

theorem raiseLost_filter (n : Uplink) (s : State) : OnlyFilter s (raiseLost n s) :=
  (onFilter_filter _ s).trans (judgeNetwork_filter _ _)

theorem lowerLost_filter (n : Uplink) (s : State) : OnlyFilter s (lowerLost n s) :=
  (onFilter_filter _ s).trans (judgeNetwork_filter _ _)

theorem setLost_filter (n : Uplink) (v : Nat) (s : State) : OnlyFilter s (setLost n v s) := by
  unfold setLost
  split
  · exact OnlyFilter.refl s
  · exact (onFilter_filter _ s).trans (judgeNetwork_filter _ _)

theorem putEntry_filter (i : Nat) (e : Entry) (s : State) : OnlyFilter s (putEntry i e s) :=
  onFilter_filter _ s

theorem createEntry_filter (i : Nat) (a : Address) (c : TClass) (st : EntryState) (l : Option Silence)
    (s : State) : OnlyFilter s (createEntry i a c st l s) := onFilter_filter _ s

theorem lowerCounts_filter (e : Entry) (s : State) : OnlyFilter s (lowerCounts e s) := by
  unfold lowerCounts
  dsimp only
  split <;> split
  · exact (lowerLost_filter _ s).trans (lowerLost_filter _ _)
  · exact lowerLost_filter _ s
  · exact lowerLost_filter _ s
  · exact OnlyFilter.refl s

theorem freeEntry_filter (i : Nat) (s : State) : OnlyFilter s (freeEntry i s) := by
  unfold freeEntry
  split
  · exact (lowerCounts_filter _ s).trans (onFilter_filter _ _)
  · exact OnlyFilter.refl s

theorem entryCheckFails_filter (i : Nat) (p : Option Port) (c : Option TClass) (s : State) :
    OnlyFilter s (entryCheckFails i p c s) :=
  ((((report_filter _ _ _ _ s).trans (onFilter_filter _ _)).trans (onFilter_filter _ _)).trans
    (setLost_filter _ _ _)).trans (setLost_filter _ _ _)

theorem lookupKey_filter (p : Option Port) (a : Address) (c : TClass) (s : State) :
    OnlyFilter s (lookupKey p a c s).2 := by
  unfold lookupKey
  split
  · exact OnlyFilter.refl s
  · split
    · exact OnlyFilter.refl s
    · split
      · exact OnlyFilter.refl s
      · exact entryCheckFails_filter _ _ _ s

theorem replaceEntry_filter (p : Option Port) (i : Nat) (s : State) : OnlyFilter s (replaceEntry p i s) := by
  unfold replaceEntry
  split
  · exact OnlyFilter.refl s
  · split
    · exact (freeEntry_filter _ s).trans (onFilter_filter _ _)
    · exact entryCheckFails_filter _ _ _ s

theorem takeWay_filter (p : Option Port) (b : Nat) (s : State) : OnlyFilter s (takeWay p b s).2 := by
  unfold takeWay
  split
  · exact OnlyFilter.refl s
  · exact replaceEntry_filter _ _ s

theorem entryForArrival_filter (p : Port) (a : Address) (c : TClass) (s : State) :
    OnlyFilter s (entryForArrival p a c s).2 := by
  have k := lookupKey_filter (some p) a c s
  unfold entryForArrival
  split
  · rename_i e
    rw [e] at k
    exact k
  · rename_i s' e
    rw [e] at k
    have m := takeWay_filter (some p) (bucketOf a c) s'
    split
    rename_i e'
    rw [e'] at m
    exact (k.trans m).trans (createEntry_filter _ _ _ _ _ _)

theorem pinMatch_filter (i l : Nat) (s : State) : OnlyFilter s (pinMatch i l s).2 := by
  unfold pinMatch
  split
  · exact OnlyFilter.refl s
  · split
    · exact putEntry_filter _ _ s
    · split
      · dsimp only
        exact (putEntry_filter _ _ s).trans (onFilter_filter _ _)
      · exact OnlyFilter.refl s

theorem pinMiss_filter (p : Option Port) (a : Address) (c : TClass) (l : Nat) (s : State) :
    OnlyFilter s (pinMiss p a c l s).2 := by
  have m := takeWay_filter p (bucketOf a c) s
  unfold pinMiss
  split
  · split
    rename_i e
    rw [e] at m
    exact m.trans (createEntry_filter _ _ _ _ _ _)
  · exact OnlyFilter.refl s

theorem pinKey_filter (p : Option Port) (a : Address) (c : TClass) (l : Nat) (s : State) :
    OnlyFilter s (pinKey p a c l s).2 := by
  have k := lookupKey_filter p a c s
  unfold pinKey
  split
  · rename_i e
    rw [e] at k
    exact k.trans (pinMatch_filter _ _ _)
  · rename_i e
    rw [e] at k
    exact k.trans (pinMiss_filter _ _ _ _ _)

theorem unpinKey_filter (p : Port) (a : Address) (c : TClass) (s : State) :
    OnlyFilter s (unpinKey p a c s).2 := by
  have k := lookupKey_filter (some p) a c s
  unfold unpinKey
  split
  · rename_i e
    rw [e] at k
    exact k
  · rename_i e
    rw [e] at k
    split
    · exact k
    · split
      · dsimp only at k ⊢
        exact (k.trans (putEntry_filter _ _ _)).trans (onFilter_filter _ _)
      · exact k

theorem removeKey_filter (p : Port) (a : Address) (c : TClass) (s : State) :
    OnlyFilter s (removeKey p a c s).2 := by
  have k := lookupKey_filter (some p) a c s
  unfold removeKey
  split
  · rename_i e
    rw [e] at k
    exact k
  · rename_i e
    rw [e] at k
    dsimp only at k ⊢
    exact (k.trans (freeEntry_filter _ _)).trans (onFilter_filter _ _)

theorem flushEntry_filter (s : State) (i : Nat) : OnlyFilter s (flushEntry s i) := by
  unfold flushEntry
  split
  · exact OnlyFilter.refl s
  · split
    · exact (onFilter_filter _ s).trans (onFilter_filter _ _)
    · split
      · exact putEntry_filter _ _ s
      · exact ((report_filter _ _ _ _ s).trans (onFilter_filter _ _)).trans (onFilter_filter _ _)

/-- A frame that every step of a fold keeps is kept by the fold. -/
theorem foldl_filter {α : Type} (f : State → α → State) (hf : ∀ s a, OnlyFilter s (f s a)) (l : List α)
    (s : State) : OnlyFilter s (l.foldl f s) := by
  induction l generalizing s with
  | nil => exact OnlyFilter.refl s
  | cons a l ih => exact (hf s a).trans (ih _)

theorem flushTable_filter (s : State) : OnlyFilter s (flushTable s) :=
  ((foldl_filter _ flushEntry_filter _ s).trans (setLost_filter _ _ _)).trans (setLost_filter _ _ _)

theorem visitWay_filter (s : State) (i : Nat) : OnlyFilter s (visitWay s i) := by
  unfold visitWay
  split
  · exact OnlyFilter.refl s
  · split
    · exact entryCheckFails_filter _ _ _ s
    · dsimp only
      split
      · split
        · exact (((putEntry_filter _ _ s).trans (onFilter_filter _ _)).trans (freeEntry_filter _ _)).trans
            (onFilter_filter _ _)
        · exact ((putEntry_filter _ _ s).trans (onFilter_filter _ _)).trans (putEntry_filter _ _ _)
      · split
        · exact (((putEntry_filter _ _ s).trans (onFilter_filter _ _)).trans
            (raise_filter _ _ _ _ _ _)).trans (putEntry_filter _ _ _)
        · exact ((putEntry_filter _ _ s).trans (onFilter_filter _ _)).trans (putEntry_filter _ _ _)

theorem visitBucket_filter (s : State) : OnlyFilter s (visitBucket s) :=
  (foldl_filter _ visitWay_filter _ s).trans (onFilter_filter _ _)

/-! ### Duplicate Filter -/

theorem arrivingPath_filter (i : Nat) (p : Uplink) (s : State) : OnlyFilter s (arrivingPath i p s) := by
  unfold arrivingPath
  split
  · exact OnlyFilter.refl s
  · dsimp only
    split
    · exact putEntry_filter _ _ s
    · exact putEntry_filter _ _ s
    · exact (((putEntry_filter _ _ s).trans (raise_filter _ _ _ _ _ _)).trans
        (onFilter_filter _ _)).trans (lowerLost_filter _ _)

theorem judgePath_filter (i : Nat) (q : Uplink) (s : State) : OnlyFilter s (judgePath i q s) := by
  unfold judgePath
  split
  · exact OnlyFilter.refl s
  · split
    · exact (((putEntry_filter _ _ s).trans (raise_filter _ _ _ _ _ _)).trans
        (onFilter_filter _ _)).trans (raiseLost_filter _ _)
    · exact OnlyFilter.refl s

theorem raiseSkew_filter (e : Entry) (ev : Option Bool) (s : State) : OnlyFilter s (raiseSkew e ev s) := by
  unfold raiseSkew
  split
  · exact OnlyFilter.refl s
  · exact raise_filter _ _ _ _ _ s

theorem screenAt_filter (i : Nat) (t : Tag) (s : State) : OnlyFilter s (screenAt i t s).2 := by
  unfold screenAt
  split
  · exact OnlyFilter.refl s
  · exact ((((putEntry_filter _ _ s).trans (onFilter_filter _ _)).trans (raiseSkew_filter _ _ _)).trans
      (arrivingPath_filter _ _ _)).trans (judgePath_filter _ _ _)

/-- The screening of an arrival touches the Source Table, the Notice Queue and the reports alone. -/
theorem screen_filter (t : Tag) (a : Address) (s : State) : OnlyFilter s (screen t a s).2.2 := by
  have k := entryForArrival_filter (uplinkPort t.path) a t.cls s
  unfold screen
  split
  rename_i i s' e
  rw [e] at k
  have m := screenAt_filter i t s'
  split
  rename_i e'
  rw [e'] at m
  exact k.trans m

theorem readPresenceBody_filter (i : Nat) (w : Walk) (f : List Octet) (s : State) :
    OnlyFilter s (readPresenceBody i w f s) := by
  unfold readPresenceBody
  split
  · split
    · exact putEntry_filter _ _ s
    · exact OnlyFilter.refl s
  · exact onFilter_filter _ s

/-! ### Origin Table -/

theorem onPairing_pairing (f : Pairing → Pairing) (s : State) : OnlyPairing s (s.onPairing f) := by
  constructor <;> rfl

theorem report_pairing (k : FaultKind) (l : Nat) (p : Option Port) (c : Option TClass) (s : State) :
    OnlyPairing s (report k l p c s) := by constructor <;> rfl

theorem createOrigin_pairing (i : Nat) (st : OriginState) (a : Address) (s : State) :
    OnlyPairing s (createOrigin i st a s) := onPairing_pairing _ s

theorem putOrigin_pairing (i : Nat) (e : OriginEntry) (s : State) : OnlyPairing s (putOrigin i e s) :=
  onPairing_pairing _ s

theorem dropOrigin_pairing (i : Nat) (s : State) : OnlyPairing s (dropOrigin i s) := by
  unfold dropOrigin
  split
  · exact OnlyPairing.refl s
  · exact onPairing_pairing _ s

theorem originCheckFails_pairing (i : Nat) (p : Option Port) (c : Option TClass) (s : State) :
    OnlyPairing s (originCheckFails i p c s) := by
  unfold originCheckFails
  split
  · exact (report_pairing _ _ _ _ s).trans (onPairing_pairing _ _)
  · exact (report_pairing _ _ _ _ s).trans (onPairing_pairing _ _)

theorem verifyOrigin_pairing (i : Nat) (p : Option Port) (c : Option TClass) (s : State) :
    OnlyPairing s (verifyOrigin i p c s).2 := by
  unfold verifyOrigin
  split
  · exact OnlyPairing.refl s
  · split
    · exact OnlyPairing.refl s
    · exact originCheckFails_pairing _ _ _ s

theorem lookupOrigin_pairing (p : Option Port) (c : Option TClass) (a : Address) (s : State) :
    OnlyPairing s (lookupOrigin p c a s).2 := by
  unfold lookupOrigin
  split
  · exact OnlyPairing.refl s
  · exact verifyOrigin_pairing _ _ _ s

theorem touchOrigin_pairing (i : Nat) (s : State) : OnlyPairing s (touchOrigin i s) := by
  unfold touchOrigin
  split
  · exact OnlyPairing.refl s
  · exact onPairing_pairing _ s

theorem senderOf_pairing (c : TClass) (a : Address) (s : State) : OnlyPairing s (senderOf c a s).2 := by
  have k := lookupOrigin_pairing (some .b) (some c) a s
  unfold senderOf
  split
  · rename_i e
    rw [e] at k
    exact k.trans (touchOrigin_pairing _ _)
  · rename_i e
    rw [e] at k
    split
    · dsimp only at k ⊢
      exact (k.trans (createOrigin_pairing _ _ _ _)).trans (onPairing_pairing _ _)
    · exact k

theorem pinOrigin_pairing (p : Option Port) (a : Address) (s : State) :
    OnlyPairing s (pinOrigin p a s).2 := by
  have k := lookupOrigin_pairing p none a s
  unfold pinOrigin
  split
  · rename_i e
    rw [e] at k
    split
    · exact k
    · split
      · dsimp only at k ⊢
        exact (k.trans (putOrigin_pairing _ _ _)).trans (onPairing_pairing _ _)
      · exact k
  · rename_i e
    rw [e] at k
    split
    · dsimp only at k ⊢
      exact k.trans (createOrigin_pairing _ _ _ _)
    · exact k

theorem removeOrigin_pairing (p : Port) (a : Address) (s : State) :
    OnlyPairing s (removeOrigin p a s).2 := by
  have k := lookupOrigin_pairing (some p) none a s
  unfold removeOrigin
  split
  · rename_i e
    rw [e] at k
    exact k
  · rename_i e
    rw [e] at k
    dsimp only at k ⊢
    split
    · exact k
    · exact (k.trans (dropOrigin_pairing _ _)).trans (onPairing_pairing _ _)

theorem ageOrigin_pairing (i : Nat) (s : State) : OnlyPairing s (ageOrigin i s) := by
  unfold ageOrigin
  split
  · exact OnlyPairing.refl s
  · split
    · exact (dropOrigin_pairing _ s).trans (onPairing_pairing _ _)
    · exact onPairing_pairing _ s

theorem visitOrigin_pairing (i : Nat) (s : State) : OnlyPairing s (visitOrigin i s) := by
  have k := verifyOrigin_pairing i none none s
  unfold visitOrigin
  split
  · rename_i e
    rw [e] at k
    exact k.trans (ageOrigin_pairing _ _)
  · rename_i e
    rw [e] at k
    exact k

/-! ### Replies -/

theorem OnlyReply.refl (s : State) : OnlyReply s s :=
  ⟨rfl, rfl, rfl, rfl, rfl, rfl, rfl, rfl, rfl, rfl, rfl⟩

theorem OnlyReply.trans {s t u : State} (h : OnlyReply s t) (k : OnlyReply t u) : OnlyReply s u :=
  ⟨k.resetN.trans h.resetN, k.stationTime.trans h.stationTime, k.loader.trans h.loader,
    k.settings.trans h.settings, k.portU1.trans h.portU1, k.portU2.trans h.portU2,
    k.filter.trans h.filter, k.presence.trans h.presence, k.faults.trans h.faults,
    k.freeUses.trans h.freeUses, k.pending.trans h.pending⟩

theorem OnlyEgress.reply {s t : State} (h : OnlyEgress s t) : OnlyReply s t :=
  ⟨h.resetN, h.stationTime, h.loader, h.settings, h.portU1, h.portU2, h.filter, h.presence, h.faults,
    h.freeUses, h.pending⟩

theorem OnlyPairing.reply {s t : State} (h : OnlyPairing s t) : OnlyReply s t :=
  ⟨h.resetN, h.stationTime, h.loader, h.settings, h.portU1, h.portU2, h.filter, h.presence, h.faults,
    h.freeUses, h.pending⟩

theorem stamp_reply (n : Numbering) (h : Nat) (c : TClass) (s : State) : OnlyReply s (stamp n h c s) := by
  unfold stamp
  split
  · split
    · exact OnlyReply.refl s
    · exact (writeHandle_storage _ _ s).egress.reply.trans (putOrigin_pairing _ _ _).reply
  · exact (writeHandle_storage _ _ s).egress.reply.trans (onPairing_pairing _ _).reply

theorem spendInjection_reply (b : Bool) (s : State) : OnlyReply s (spendInjection b s) := by
  unfold spendInjection
  split
  · exact (onPairing_pairing _ s).reply
  · exact OnlyReply.refl s

theorem countInjected_reply (s : State) : OnlyReply s (countInjected s) := (onPairing_pairing _ s).reply

theorem placeCopy_reply (p : Option Port) (h : Nat) (c : TClass) (k : Option InjectKind) (u : Uplink)
    (s : State) : OnlyReply s (placeCopy p h c k u s) := by
  unfold placeCopy
  split
  · split
    · exact (offerUplink_egress _ _ _ _ s).reply
    · exact (release_storage _ _ s).egress.reply.trans (countInjected_reply _)
    · exact (offerUplink_egress _ _ _ _ s).reply.trans (countInjected_reply _)
    · exact (offerUplink_egress _ _ _ _ s).reply.trans (countInjected_reply _)
  · exact (release_storage _ _ s).egress.reply.trans (onPairing_pairing _ _).reply

theorem placeCopies_reply (p : Option Port) (h : Nat) (c : TClass) (b : Bool) (s : State) :
    OnlyReply s (placeCopies p h c b s) :=
  (((spendInjection_reply _ s).trans (setRefs_storage h 2 _).egress.reply).trans
    (placeCopy_reply _ _ _ _ _ _)).trans (placeCopy_reply _ _ _ _ _ _)

theorem prepareZero_pairing (p : Option Port) (c : TClass) (s : State) :
    OnlyPairing s (prepareZero p c s) := by
  have k := verifyOrigin_pairing 0 p (some c) s
  unfold prepareZero
  exact k.trans (touchOrigin_pairing _ _)

theorem noLinkDrop_reply (h : Nat) (s : State) : OnlyReply s (noLinkDrop h s) :=
  (freeHandle_storage h s).egress.reply.trans (onPairing_pairing _ _).reply

theorem pairOwnFrame_reply (p : Option Port) (h : Nat) (c : TClass) (b : Bool) (s : State) :
    OnlyReply s (pairOwnFrame p h c b s) := by
  unfold pairOwnFrame
  split
  · exact noLinkDrop_reply h s
  · exact ((prepareZero_pairing p c s).reply.trans (stamp_reply _ _ _ _)).trans
      (placeCopies_reply _ _ _ _ _)

theorem deliver_reply (h : Nat) (p : Port) (s : State) : OnlyReply s (deliver h p s) := by
  unfold deliver
  split
  · exact (setRefs_storage h 1 s).egress.reply.trans (offerBay_egress _ _ _ _).reply
  · exact pairOwnFrame_reply _ _ _ _ s

/-- A reply touches the egresses, the Pairing Unit and what goes with them alone. -/
theorem sendReply_reply (code : Octet) (r : Request) (a : Answer) (s : State) :
    OnlyReply s (sendReply code r a s) := by
  have k := fun c => (onNotices_egress (fun n => { n with repliesBuilt := n.repliesBuilt + 1 }) s).trans
    (admitBuilt_storage (replyOctets code r a s) c _).egress
  unfold sendReply
  split
  · rename_i e
    have k := k (if r.port = .b then .general else .timing)
    rw [e] at k
    exact k.reply
  · rename_i h s' e
    have k := k (if r.port = .b then .general else .timing)
    rw [e] at k
    exact k.reply.trans (deliver_reply _ _ _)

/-- Every request answered is answered in the form of `AnsweredFrom`. -/
theorem answeredFrom_of_eq {o : Host.Outcome State Fault Refusal} {code : Octet} {r : Request} {a : Answer}
    {s' : State} (h : o = .next (finish (sendReply code r a s'))) : AnsweredFrom o code r a s' :=
  ⟨h, (sendReply_reply code r a s').trans (finish_egress _).reply,
    fun hb => (sendReply_egress code r a s' hb).trans (finish_egress _)⟩

/-- Every handling that ends with `finish` is in the form of `HandledTo`. -/
theorem handledTo_of_eq {o : Host.Outcome State Fault Refusal} {x : State} (h : o = .next (finish x)) :
    HandledTo o x := ⟨h, finish_egress x⟩

end Sys2Proof.Machine
end

