-- ==== Sys2Proof/Laws/Commands.lean ====
section
/-! SUPPORT. One equation for each command: what exec answers where the command acts. -/

namespace Sys2Proof.Machine

variable {s : State}

theorem exec_chipReset (s : State) : exec .chipReset s = .next (chipReset s) := rfl

theorem exec_chipResetRelease (p : Straps) (h : s.resetN = false) :
    exec (.chipResetRelease p) s = .next (releaseReset p s) := by simp [exec, execChipResetRelease, h]

theorem exec_uplinkArrival (u : Uplink) (f : List Octet) (h : s.resetN = true) :
    exec (.uplinkArrival u f) s = .next (finish (uplinkIntake u f s)) := by
  simp [exec, execUplinkArrival, outOfReset, h]

theorem exec_bayArrival (f : List Octet) (h : s.resetN = true) :
    exec (.bayArrival f) s = .next (finish (bayIntake f s)) := by
  simp [exec, execBayArrival, outOfReset, h]

@[simp] theorem setPhy_serving (u : Uplink) (b : Bool) (s : State) : (setPhy u b s).serving = s.serving := by
  cases u <;> rfl

theorem exec_linkStateDown (u : Uplink) (h : s.serving = true) :
    exec (.linkStateDown u) s = .next (finish (followPhy u (setPhy u false s))) := by
  simp [exec, execLinkStateDown, whenServing, h]

theorem exec_linkStateUp (u : Uplink) (h : s.serving = true) :
    exec (.linkStateUp u) s = .next (finish (followPhy u (setPhy u true s))) := by
  simp [exec, execLinkStateUp, whenServing, h]

theorem exec_pauseRefreshTimerExpiry (h : s.resetN = true) (k : s.pause.refresh.isSome = true) :
    exec .pauseRefreshTimerExpiry s = .next (finish (refreshPause s)) := by
  simp [exec, execPauseRefreshTimerExpiry, whileRunning, outOfReset, h, k]

theorem exec_receivedPauseTimerExpiry (h : s.resetN = true) (k : s.bay.pauseTimer.isSome = true) :
    exec .receivedPauseTimerExpiry s = .next (finish (endHold s)) := by
  simp [exec, execReceivedPauseTimerExpiry, whileRunning, outOfReset, h, k]

theorem exec_tableScannerTimerExpiry (h : s.resetN = true) (k : s.filter.scanTimer.isSome = true) :
    exec .tableScannerTimerExpiry s = .next (finish (scanTables s)) := by
  simp [exec, execTableScannerTimerExpiry, whileRunning, outOfReset, h, k]

theorem exec_presenceTimerExpiry (h : s.resetN = true) (k : s.presence.timer.isSome = true) :
    exec .presenceTimerExpiry s = .next (finish (startPresenceTimer (buildPresence s))) := by
  simp [exec, execPresenceTimerExpiry, whileRunning, outOfReset, h, k]

theorem exec_noticeTimerExpiry (h : s.resetN = true) (k : s.notices.timer.isSome = true) :
    exec .noticeTimerExpiry s = .next (finish (stopNoticeTimer s)) := by
  simp [exec, execNoticeTimerExpiry, whileRunning, outOfReset, h, k]

theorem exec_quietTimerExpiry (h : s.resetN = true) (k : s.loader.quietTimer.isSome = true) :
    exec .quietTimerExpiry s = .next (finish (enterRun s)) := by
  simp [exec, execQuietTimerExpiry, whileRunning, outOfReset, h, k]

theorem exec_loadEnd (e : List Octet) (h : s.resetN = true) (k : s.loader.part = .loading) :
    exec (.loadEnd e) s = .next (finish (enterQuiet (applyLoad (readImage s.loader.straps e) s))) := by
  simp [exec, execLoadEnd, outOfReset, h, k]

theorem exec_reloadEnd (e : List Octet) (h : s.serving = true) (k : s.loader.reloadRunning = true) :
    exec (.reloadEnd e) s = .next (finish (applyReload (readImage s.loader.straps e) s)) := by
  simp [exec, execReloadEnd, whenServing, h, k]

theorem exec_uplinkTransmissionComplete {t : UplinkTx} (u : Uplink) (h : s.resetN = true)
    (k : (s.uplink u).tx = some t) :
    exec (.uplinkTransmissionComplete u) s = .next (finish (completeCopy u t s)) := by
  simp [exec, execUplinkTransmissionComplete, outOfReset, h, k]

theorem exec_bayTransmissionComplete {n : Nat} {w : OnWire} (h : s.resetN = true)
    (k : s.bay.tx = some (.frame n w)) :
    exec .bayTransmissionComplete s = .next (finish (completeBay n w s)) := by
  simp [exec, execBayTransmissionComplete, outOfReset, h, k]

theorem exec_pauseFrameComplete {q : BitVec 16} {w : OnWire} (h : s.resetN = true)
    (k : s.bay.tx = some (.pause q w)) :
    exec .pauseFrameComplete s = .next (finish (completePause w s)) := by
  simp [exec, execPauseFrameComplete, outOfReset, h, k]

theorem exec_faultReport (r : FaultReport) (h : s.resetN = true) :
    exec (.faultReport r) s = .next (finish (takeReport r { s with reports := s.reports.erase r })) := by
  simp [exec, execFaultReport, outOfReset, h]

/-- Every request row serves its request, as its kind, in QUIET and RUN (R170, R172). -/
theorem exec_commandOf (k : ReqKind) (r : Request) (h : s.serving = true) :
    exec (commandOf k r) s = .next (finish (serve k r s)) := by
  cases k
  case reset =>
    simp only [commandOf]
    split <;> simp [exec, execResetEngine, execResetPort, whenServing, h]
  all_goals
    simp [commandOf, exec, execRead, execWrite, execEntryRead, execEntryPin, execEntryUnpin, execEntryRemove,
      execOriginRead, execOriginPin, execOriginRemove, execSlotStage, execSlotApply, execInject, execFaultAck,
      execClearCounters, execFlushTable, execReload, whenServing, h]

/-- An admissible request is served by its kind's own meaning (R170 to R172). -/
theorem judgeRequest_admissible {k : ReqKind} {r : Request} (h : Admissible k r s) :
    judgeRequest k r s = serveKind k r s := by
  obtain ⟨_, hw, ha, hv⟩ := h
  simp [judgeRequest, hw, ha, hv]

end Sys2Proof.Machine
end

