-- ==== Sys2Proof/Laws/Image.lean ====
section
/-! SUPPORT. Where an image's structure fails (R14): both orders of its tests find a failure in the same images,
and the offset reported is a record's own. -/

namespace Sys2Proof.Machine

theorem firstWrong_eq_none {w : RawRecord → Bool} {l : List RawRecord} :
    firstWrong w l = none ↔ ∀ r ∈ l, w r = false := by simp [firstWrong]

theorem failureAsListed_eq_none {l : List RawRecord} {past : Option Nat} :
    failureAsListed l past = none ↔
      past = none ∧ ∀ r ∈ l, r.typeKnown = true ∧ r.lengthAllowed = true := by
  cases past <;> simp [failureAsListed, firstWrong_eq_none, forall_and]

theorem failureAsTabled_eq_none {l : List RawRecord} {past : Option Nat} :
    failureAsTabled l past = none ↔
      past = none ∧ ∀ r ∈ l, r.typeKnown = true ∧ r.lengthAllowed = true := by
  simp only [failureAsTabled, Option.orElse_eq_orElse, Option.orElse_eq_or, Option.or_eq_none_iff,
    firstWrong_eq_none, Bool.not_eq_false', Bool.and_eq_true, and_comm]

/-- The structure holds just when no record runs past the field and each has a known Type and a body length it
allows, whichever order the tests are made in. -/
theorem structureFailure_eq_none {l : List RawRecord} {past : Option Nat} :
    structureFailure l past = none ↔
      past = none ∧ ∀ r ∈ l, r.typeKnown = true ∧ r.lengthAllowed = true := by
  cases h : failureAsListed l past with
  | none =>
    rw [← failureAsListed_eq_none, h]
    simp [structureFailure, h]
  | some a =>
    cases k : failureAsTabled l past with
    | none =>
      rw [← failureAsTabled_eq_none, k]
      simp [structureFailure, k]
    | some b =>
      rw [← failureAsListed_eq_none, h]
      simp [structureFailure, h, k]

/-- Where the two orders of R14 find the same failure, that is the offset reported. -/
theorem structureFailure_of_agree {l : List RawRecord} {past : Option Nat} {a : Nat}
    (h : failureAsListed l past = some a) (k : failureAsTabled l past = some a) :
    structureFailure l past = some a := by
  simp [structureFailure, h, k]

end Sys2Proof.Machine
end

