-- ==== Sys2Proof/Laws/Octets.lean ====
section
/-! SUPPORT. Lengths of octet layouts, and that octets with their FCS behind them pass the FCS test. -/

namespace Sys2Proof.Machine

@[simp] theorem beOctets_length (n x : Nat) : (beOctets n x).length = n := by
  induction n with
  | zero => rfl
  | succ n ih => simp [beOctets, ih]

@[simp] theorem addrOctets_length (a : Address) : (addrOctets a).length = 6 := beOctets_length 6 _

@[simp] theorem tagOctets_length (m : BitVec 16) (t : TagFields) (b : Bool) (u : Uplink) :
    (tagOctets m t b u).length = 6 := by simp [tagOctets]

@[simp] theorem fcsOctets_length (c : BitVec 32) : (fcsOctets c).length = 4 := rfl

@[simp] theorem withFcs_length (f : List Octet) : (withFcs f).length = f.length + 4 := by simp [withFcs]

@[simp] theorem withBadFcs_length (f : List Octet) : (withBadFcs f).length = f.length + 4 := by
  simp [withBadFcs]

@[simp] theorem lessFcs_withFcs (f : List Octet) : lessFcs (withFcs f) = f := by
  simp [lessFcs, withFcs]

@[simp] theorem lessFcs_withBadFcs (f : List Octet) : lessFcs (withBadFcs f) = f := by
  simp [lessFcs, withBadFcs]

@[simp] theorem fcsGood_withFcs (f : List Octet) : fcsGood (withFcs f) = true := by simp [fcsGood]

@[simp] theorem padTo_length (n : Nat) (f : List Octet) : (padTo n f).length = max n f.length := by
  simp [padTo]; omega

@[simp] theorem sealFrame_length (n : Nat) (f : List Octet) :
    (sealFrame n f).length = max (n - 4) f.length + 4 := by simp [sealFrame]

end Sys2Proof.Machine
end

