-- ==== Sys2Proof/Laws/Tables.lean ====
section
/-! SUPPORT. Laws of sparse tables: a read after a write or a freeing, and the canonical form kept. -/

namespace Sys2Proof.Machine

variable {α : Type}

theorem Tbl.look_put_self (t : Tbl α) (k : Nat) (a : α) : Tbl.look (Tbl.put t k a) k = some a := by
  induction t with
  | nil => simp [Tbl.put, Tbl.look]
  | cons p t ih =>
    obtain ⟨j, b⟩ := p
    simp only [Tbl.put]
    split
    · simp [Tbl.look]
    · split
      · simp [Tbl.look]
      · rename_i h
        simp only [Tbl.look, ih]
        rw [if_neg (fun e => h e.symm)]

theorem Tbl.look_put_ne (t : Tbl α) {k n : Nat} (a : α) (h : n ≠ k) :
    Tbl.look (Tbl.put t k a) n = Tbl.look t n := by
  induction t with
  | nil => simp [Tbl.put, Tbl.look, Ne.symm h]
  | cons p t ih =>
    obtain ⟨j, b⟩ := p
    simp only [Tbl.put]
    split
    · simp [Tbl.look, Ne.symm h]
    · split
      · rename_i e
        subst e
        simp [Tbl.look, Ne.symm h]
      · simp only [Tbl.look, ih]

theorem Tbl.look_put (t : Tbl α) (k n : Nat) (a : α) :
    Tbl.look (Tbl.put t k a) n = if n = k then some a else Tbl.look t n := by
  split
  · rename_i h
    rw [h, Tbl.look_put_self]
  · rename_i h
    exact Tbl.look_put_ne t a h

theorem Tbl.look_del_self (t : Tbl α) (k : Nat) : Tbl.look (Tbl.del t k) k = none := by
  induction t with
  | nil => rfl
  | cons p t ih =>
    obtain ⟨j, b⟩ := p
    simp only [Tbl.del]
    split
    · exact ih
    · rename_i h
      simp only [Tbl.look, ih]
      rw [if_neg h]

theorem Tbl.look_del_ne (t : Tbl α) {k n : Nat} (h : n ≠ k) : Tbl.look (Tbl.del t k) n = Tbl.look t n := by
  induction t with
  | nil => rfl
  | cons p t ih =>
    obtain ⟨j, b⟩ := p
    simp only [Tbl.del]
    split
    · rename_i e
      subst e
      rw [ih]
      simp [Tbl.look, Ne.symm h]
    · simp only [Tbl.look, ih]

theorem Tbl.look_del (t : Tbl α) (k n : Nat) :
    Tbl.look (Tbl.del t k) n = if n = k then none else Tbl.look t n := by
  split
  · rename_i h
    rw [h, Tbl.look_del_self]
  · rename_i h
    exact Tbl.look_del_ne t h

theorem Tbl.look_mapAll (f : α → α) (t : Tbl α) (n : Nat) :
    Tbl.look (Tbl.mapAll f t) n = (Tbl.look t n).map f := by
  induction t with
  | nil => rfl
  | cons p t ih =>
    obtain ⟨j, b⟩ := p
    simp only [Tbl.mapAll, List.map_cons, Tbl.look] at *
    split
    · rfl
    · exact ih

/-! ### Canonical form -/

theorem Tbl.above_mono {k n : Nat} (h : n ≤ k) (t : Tbl α) (a : Tbl.above k t = true) :
    Tbl.above n t = true := by
  induction t with
  | nil => rfl
  | cons p t ih =>
    simp only [Tbl.above, Bool.and_eq_true, decide_eq_true_eq] at *
    exact ⟨by omega, ih a.2⟩

theorem Tbl.above_put {n : Nat} (t : Tbl α) (k : Nat) (a : α) (hk : n ≤ k) (h : Tbl.above n t = true) :
    Tbl.above n (Tbl.put t k a) = true := by
  induction t with
  | nil => simp [Tbl.put, Tbl.above, hk]
  | cons p t ih =>
    simp only [Tbl.above, Bool.and_eq_true, decide_eq_true_eq] at h
    simp only [Tbl.put]
    split
    · simp [Tbl.above, hk, h.1, h.2]
    · split
      · simp [Tbl.above, hk, h.2]
      · simp [Tbl.above, h.1, ih h.2]

theorem Tbl.wf_put (t : Tbl α) (k : Nat) (a : α) (h : Tbl.wf t = true) : Tbl.wf (Tbl.put t k a) = true := by
  induction t with
  | nil => simp [Tbl.put, Tbl.wf, Tbl.above]
  | cons p t ih =>
    simp only [Tbl.wf, Bool.and_eq_true] at h
    simp only [Tbl.put]
    split
    · rename_i l
      simp only [Tbl.wf, Tbl.above, Bool.and_eq_true, decide_eq_true_eq]
      exact ⟨⟨l, Tbl.above_mono (by omega) t h.1⟩, h⟩
    · split
      · rename_i e
        simp only [Tbl.wf, Bool.and_eq_true]
        exact ⟨by rw [e]; exact h.1, h.2⟩
      · simp only [Tbl.wf, Bool.and_eq_true]
        exact ⟨Tbl.above_put t k a (by omega) h.1, ih h.2⟩

theorem Tbl.above_del {n : Nat} (t : Tbl α) (k : Nat) (h : Tbl.above n t = true) :
    Tbl.above n (Tbl.del t k) = true := by
  induction t with
  | nil => rfl
  | cons p t ih =>
    simp only [Tbl.above, Bool.and_eq_true] at h
    simp only [Tbl.del]
    split
    · exact ih h.2
    · simp [Tbl.above, ih h.2, h.1]

theorem Tbl.wf_del (t : Tbl α) (k : Nat) (h : Tbl.wf t = true) : Tbl.wf (Tbl.del t k) = true := by
  induction t with
  | nil => rfl
  | cons p t ih =>
    simp only [Tbl.wf, Bool.and_eq_true] at h
    simp only [Tbl.del]
    split
    · exact ih h.2
    · simp only [Tbl.wf, Bool.and_eq_true]
      exact ⟨Tbl.above_del t k h.1, ih h.2⟩

theorem Tbl.above_mapAll {n : Nat} (f : α → α) (t : Tbl α) :
    Tbl.above n (Tbl.mapAll f t) = Tbl.above n t := by
  induction t with
  | nil => rfl
  | cons p t ih =>
    simp only [Tbl.mapAll, List.map_cons, Tbl.above] at *
    rw [ih]

theorem Tbl.wf_mapAll (f : α → α) (t : Tbl α) : Tbl.wf (Tbl.mapAll f t) = Tbl.wf t := by
  induction t with
  | nil => rfl
  | cons p t ih =>
    have k := fun n => Tbl.above_mapAll (n := n) f t
    simp only [Tbl.mapAll, List.map_cons, Tbl.wf] at *
    rw [ih, k]

theorem Tbl.above_keep {n : Nat} (f : α → Bool) (t : Tbl α) (h : Tbl.above n t = true) :
    Tbl.above n (Tbl.keep f t) = true := by
  induction t with
  | nil => rfl
  | cons p t ih =>
    simp only [Tbl.above, Bool.and_eq_true] at h
    simp only [Tbl.keep, List.filter_cons] at *
    split
    · simp only [Tbl.above, Bool.and_eq_true]
      exact ⟨h.1, ih h.2⟩
    · exact ih h.2

theorem Tbl.wf_keep (f : α → Bool) (t : Tbl α) (h : Tbl.wf t = true) : Tbl.wf (Tbl.keep f t) = true := by
  induction t with
  | nil => rfl
  | cons p t ih =>
    simp only [Tbl.wf, Bool.and_eq_true] at h
    have a := Tbl.above_keep f t h.1
    simp only [Tbl.keep, List.filter_cons] at *
    split
    · simp only [Tbl.wf, Bool.and_eq_true]
      exact ⟨a, ih h.2⟩
    · exact ih h.2

theorem Tbl.wf_putAll (l : List (Nat × α)) (t : Tbl α) (h : Tbl.wf t = true) :
    Tbl.wf (Tbl.putAll t l) = true := by
  induction l generalizing t with
  | nil => exact h
  | cons p l ih => exact ih _ (Tbl.wf_put _ _ _ h)

/-! ### Bounds -/

theorem Tbl.below_put {n : Nat} (t : Tbl α) (k : Nat) (a : α) (hk : k < n) (h : Tbl.below n t = true) :
    Tbl.below n (Tbl.put t k a) = true := by
  induction t with
  | nil => simp [Tbl.put, Tbl.below, hk]
  | cons p t ih =>
    simp only [Tbl.below, Bool.and_eq_true, decide_eq_true_eq] at h
    simp only [Tbl.put]
    split
    · simp [Tbl.below, hk, h.1, h.2]
    · split
      · simp [Tbl.below, hk, h.2]
      · simp [Tbl.below, h.1, ih h.2]

theorem Tbl.below_del {n : Nat} (t : Tbl α) (k : Nat) (h : Tbl.below n t = true) :
    Tbl.below n (Tbl.del t k) = true := by
  induction t with
  | nil => rfl
  | cons p t ih =>
    simp only [Tbl.below, Bool.and_eq_true] at h
    simp only [Tbl.del]
    split
    · exact ih h.2
    · simp [Tbl.below, h.1, ih h.2]

theorem Tbl.below_mapAll {n : Nat} (f : α → α) (t : Tbl α) :
    Tbl.below n (Tbl.mapAll f t) = Tbl.below n t := by
  induction t with
  | nil => rfl
  | cons p t ih =>
    simp only [Tbl.mapAll, List.map_cons, Tbl.below] at *
    rw [ih]

theorem Tbl.below_keep {n : Nat} (f : α → Bool) (t : Tbl α) (h : Tbl.below n t = true) :
    Tbl.below n (Tbl.keep f t) = true := by
  induction t with
  | nil => rfl
  | cons p t ih =>
    simp only [Tbl.below, Bool.and_eq_true] at h
    simp only [Tbl.keep, List.filter_cons] at *
    split
    · simp only [Tbl.below, Bool.and_eq_true]
      exact ⟨h.1, ih h.2⟩
    · exact ih h.2

/-- The numbers `lowestFree` gives are free, at least `k`, and within the numbers looked at. -/
theorem Tbl.lowestFree_spec (t : Tbl α) (fuel k need n : Nat)
    (h : n ∈ Tbl.lowestFree t fuel k need) : Tbl.look t n = none ∧ k ≤ n ∧ n < k + fuel := by
  induction fuel generalizing k need with
  | zero => simp [Tbl.lowestFree] at h
  | succ fuel ih =>
    cases need with
    | zero => simp [Tbl.lowestFree] at h
    | succ need =>
      simp only [Tbl.lowestFree] at h
      split at h
      · rename_i f
        rcases List.mem_cons.mp h with e | e
        · subst e
          exact ⟨by simpa [Tbl.free] using f, by omega, by omega⟩
        · have := ih _ _ e
          exact ⟨this.1, by omega, by omega⟩
      · have := ih _ _ h
        exact ⟨this.1, by omega, by omega⟩

/-- What a table answers is one of its records. -/
theorem Tbl.mem_of_look {t : Tbl α} {k : Nat} {a : α} (h : Tbl.look t k = some a) : (k, a) ∈ t := by
  induction t with
  | nil => simp [Tbl.look] at h
  | cons p t ih =>
    obtain ⟨j, b⟩ := p
    simp only [Tbl.look] at h
    split at h
    · rename_i e
      cases h
      exact e ▸ List.mem_cons_self
    · exact List.mem_cons_of_mem _ (ih h)

end Sys2Proof.Machine
end

