-- ==== Sys2Proof/Laws/Store.lean ====
section
/-! SUPPORT. What the operations of the Frame Store do to blocks and handles. Pause emission, which they
drive, never touches the store. -/

namespace Sys2Proof.Machine

@[simp] theorem startPause_store (s : State) : (startPause s).store = s.store := by
  unfold startPause; split <;> rfl

@[simp] theorem makePausePending_store (q : BitVec 16) (s : State) : (makePausePending q s).store = s.store := by
  simp [makePausePending]

@[simp] theorem pauseTest_store (s : State) : (pauseTest s).store = s.store := by
  unfold pauseTest assertPause releasePause
  split
  · split
    · simp
    · split <;> simp
  · rfl

@[simp] theorem handleOf_pauseTest (h : Nat) (s : State) : handleOf (pauseTest s) h = handleOf s h := by
  simp [handleOf]

theorem handleOf_freeHandle (h n : Nat) (s : State) :
    handleOf (freeHandle h s) n = if n = h then none else handleOf s n := by
  simp [freeHandle, handleOf, State.onStore, Tbl.look_del]

theorem freeHandle_blocks (h : Nat) (s : State) :
    (freeHandle h s).store.blocks = Tbl.keep (fun b => b.owner != .held h) s.store.blocks := by
  simp [freeHandle, State.onStore]

/-- A write of a handle's fields: the fields and a matching Check at that number, nothing elsewhere. -/
theorem handleOf_writeHandle (h n : Nat) (f : Handle → Handle) (s : State) :
    handleOf (writeHandle h f s) n =
      if n = h then (handleOf s h).map fun r => { f r with check := 0 } else handleOf s n := by
  unfold writeHandle
  split
  · rename_i r e
    simp only [handleOf, State.onStore, Tbl.look_put]
    split
    · simp only [handleOf] at e
      simp [e]
    · rfl
  · rename_i e
    split
    · rename_i k
      rw [k, e]
      rfl
    · rfl

@[simp] theorem writeHandle_blocks (h : Nat) (f : Handle → Handle) (s : State) :
    (writeHandle h f s).store.blocks = s.store.blocks := by
  unfold writeHandle; split <;> rfl

theorem handleOf_setRefs (h n k : Nat) (s : State) :
    handleOf (setRefs h k s) n =
      if n = h then (handleOf s h).map fun r => { r with refs := k, check := 0 } else handleOf s n :=
  handleOf_writeHandle h n _ s

theorem handleOf_quarantineHandle (p : Option Port) (h n : Nat) (s : State) :
    handleOf (quarantineHandle p h s) n =
      if n = h then (handleOf s h).map fun r => { r with quarantined := true } else handleOf s n := by
  simp only [quarantineHandle, report, State.onStore, handleOf]
  by_cases k : n = h
  · subst k
    cases e : Tbl.look s.store.handles n with
    | none => simp [e]
    | some r => simp [Tbl.look_put_self]
  · cases e : Tbl.look s.store.handles h with
    | none => simp [k]
    | some r => simp [k, Tbl.look_put_ne]

/-- Everything a release can do (R32, R36, R37). -/
theorem release_cases (p : Option Port) (h : Nat) (s : State) :
    (handleOf s h = none ∧ release p h s = s) ∨
    (∃ r, handleOf s h = some r ∧
      ((r.quarantined = true ∧ release p h s = s) ∨
       (r.quarantined = false ∧ r.check ≠ 0 ∧ release p h s = quarantineHandle p h s) ∨
       (r.quarantined = false ∧ r.check = 0 ∧ r.refs ≤ 1 ∧ release p h s = freeHandle h s) ∨
       (r.quarantined = false ∧ r.check = 0 ∧ 1 < r.refs ∧
         release p h s = writeHandle h (fun r => { r with refs := r.refs - 1 }) s))) := by
  unfold release
  cases e : handleOf s h with
  | none => exact .inl ⟨rfl, rfl⟩
  | some r =>
    refine .inr ⟨r, rfl, ?_⟩
    by_cases q : r.quarantined = true
    · exact .inl ⟨q, by simp [q]⟩
    · have q' : r.quarantined = false := by simpa using q
      by_cases c : r.check = 0
      · by_cases k : r.refs ≤ 1
        · exact .inr (.inr (.inl ⟨q', c, k, by simp [q', c, k]⟩))
        · exact .inr (.inr (.inr ⟨q', c, by omega, by simp [q', c, k]⟩))
      · exact .inr (.inl ⟨q', c, by
          show (if r.quarantined = true then s else _) = _
          rw [if_neg q, if_pos c]⟩)

@[simp] theorem storeFrame_handles (f : List Octet) (c : TClass) (t : Option TagFields) (s : State) :
    (storeFrame f c t s).store.handles = Tbl.put s.store.handles (lowestHandle s)
      { length := f.length, cls := c, arrival := s.stationTime,
        blocks := lowestBlocks s (blocksNeeded f.length), refs := 0, tag := t, quarantined := false,
        check := 0 } := by
  simp [storeFrame, State.onStore]

@[simp] theorem storeFrame_blocks (f : List Octet) (c : TClass) (t : Option TagFields) (s : State) :
    (storeFrame f c t s).store.blocks = Tbl.putAll s.store.blocks
      (newBlocks (lowestHandle s) f (lowestBlocks s (blocksNeeded f.length))) := by
  simp [storeFrame, State.onStore]

/-- A frame that both floors admit is stored; another is refused (R30). -/
theorem offerStorage_cases (f : List Octet) (c : TClass) (t : Option TagFields) (bf hf : Nat) (s : State) :
    (admits s f.length bf hf = true ∧
      offerStorage f c t bf hf s = some (lowestHandle s, storeFrame f c t s)) ∨
    (admits s f.length bf hf = false ∧ offerStorage f c t bf hf s = none) := by
  unfold offerStorage
  cases admits s f.length bf hf <;> simp

end Sys2Proof.Machine
end

