-- ==== Sys2Proof/Tests/Slice0.lean ====
section
/-! SUPPORT. Tests of the model's own: the smoke test of well-formedness, the worked examples of the spec,
one or two steps of each command, and a witness for the hypotheses of each statement. Expected values are
the spec's. -/

namespace Sys2Proof.Tests

open Sys2Proof Sys2Proof.Machine

-- One test at a time: the package as one text is checked under a memory limit.
set_option Elab.async false

/-! ### States and requests the tests are about -/

/-- Every strap high, address strap 9. -/
def straps : Straps :=
  { bay1000 := true, imagePresent := true, addressStrap := 9, u1Speed1000 := true, u2Speed1000 := true,
    pairGeneral := true, bayPause := true }

/-- 02-B5-E0-00-00-09. -/
def station : Address := 0x02B5E0000009

/-- The part released from chip reset, in LOADING. -/
def released : State :=
  { State.reset with
    resetN := true
    stationTime := 5000
    loader := { State.reset.loader with straps := straps, stationAddress := station }
    settings := Settings.defaults straps classifierAfterReset }

/-- Origin entry 0, Epoch 3, the next class-1 sequence 400 and the next class-2 sequence 7. -/
def zero : OriginEntry :=
  { state := .pinned, addr := station, epoch := 3,
    next := { general := 0, stream := 400, timing := 7, event := 0, presence := 0 },
    lastSeen := 1000, check := 0 }

/-- The part in RUN with both links UP and every timer stopped. -/
def running : State :=
  { released with
    loader := { released.loader with part := .run, ready := true }
    u1 := { UplinkEgress.reset with phy := true, linkUp := true }
    u2 := { UplinkEgress.reset with phy := true, linkUp := true }
    pairing :=
      { released.pairing with
        entries := [(0, zero)], originInUse := 1, originPinned := 1, epochCounter := 5,
        overflowEpoch := 4 } }

/-- `running`, in QUIET. -/
def quiet : State := { running with loader := { running.loader with part := .quiet } }

/-- The state a command leaves. -/
def after (c : Instr) (s : State) : State :=
  match exec c s with
  | .next t => t
  | .fault _ => s
  | .refused _ => s

/-- A request from B with Token 0x1234. -/
def ask (object index : Nat) (values : List Value) : Request :=
  { port := .b, source := 0x020000000001, flags := 0, token := 0x1234, object := BitVec.ofNat 16 object,
    index := BitVec.ofNat 16 index, count := BitVec.ofNat 8 values.length, values := values }

/-- A READ of `n` items. -/
def readOf (object index n : Nat) : Request := { ask object index [] with count := BitVec.ofNat 8 n }

/-- The octets on B's wire from 14 on, `n` of them: in a reply, Code, Status, Token, Object, Index, Count and
Values. -/
def onB (n : Nat) (s : State) : List Octet :=
  match s.bay.tx with
  | some (.frame _ w) => slice w.octets 14 n
  | _ => []

/-- Octets read from an EEPROM whose records are these: header, records, Check. -/
def image (records : List Octet) : List Octet :=
  let h := [0xB3, 0x7E] ++ beOctets 2 (records.length + 6) ++ records
  h ++ beOctets 2 (imageSum h).toNat

/-- A tagged frame from `source` with 46 octets of body. -/
def tagged (u : Uplink) (source : Address) (c : TClass) (seq : Nat) : List Octet :=
  withFcs (addrOctets 0x020000000099 ++ addrOctets source ++
    tagOctets 0x8BE2
      { seq := BitVec.ofNat 16 seq, path := none, epoch := 5, cls := c, interval := 1 } false u ++
    [0x08, 0x00] ++ List.replicate 46 0x5A)

/-- A bay frame from `source` of a Type with 46 octets of body. -/
def plain (dest source : Address) (type : Nat) : List Octet :=
  withFcs (addrOctets dest ++ addrOctets source ++ beOctets 2 type ++ List.replicate 46 0x5A)

/-- A pause frame on B. -/
def bayPauseFrame (quanta : Nat) : List Octet := pauseFrame 0x020000000001 (BitVec.ofNat 16 quanta)

/-- A handle of a 64-octet frame in block `b`. -/
def handle64 (b refs : Nat) : Handle :=
  { length := 64, cls := .timing, arrival := 4500, blocks := [b], refs := refs, tag := none,
    quarantined := false, check := 0 }

/-- The block of such a handle. -/
def block64 (h : Nat) : Block := { owner := .held h, data := List.replicate 64 0x5A, check := 0 }

/-- `running` with handle 0 in block 0, referenced `refs` times. -/
def holding (refs : Nat) : State :=
  { running with
    store := { running.store with blocks := [(0, block64 0)], handles := [(0, handle64 0 refs)] } }

/-- 2,047 free blocks, Bay Pause set, Pause On and Pause Off as given. -/
def pausing (on off : Nat) (asserted : Bool) : State :=
  { holding 1 with
    settings := { running.settings with bayPause := true, pauseOn := on, pauseOff := off }
    pause := { asserted := asserted, refresh := none, pending := none } }

/-- A copy of handle 0 on an uplink's wire. -/
def copyOf0 : UplinkTx :=
  { handle := 0, queue := .timing, seqOffset := false, fcsCorrupt := false,
    wire := putOnWire true (List.replicate 64 0x5A) }

/-- A queue entry of a handle. -/
def entryFor (h : Nat) : QueueEntry := { handle := h, seqOffset := false, fcsCorrupt := false }

/-! ### Well-formedness: every check refuses an ill-formed term -/

theorem test_wf_arrivals :
    (Instr.uplinkArrival .u1 []).wf = false ∧ (Instr.bayArrival []).wf = false ∧
    (Instr.uplinkArrival .u2 [0]).wf = true ∧ (Instr.bayArrival [0]).wf = true := by decide

theorem test_wf_eeprom :
    (Instr.loadEnd (List.replicate 4097 0)).wf = false ∧ (Instr.loadEnd (List.replicate 4096 0)).wf = true ∧
    (Instr.reloadEnd (List.replicate 4097 0)).wf = false ∧ (Instr.reloadEnd []).wf = true := by
  decide +kernel

/-- A report of a kind at a location. -/
def reportAt (k : FaultKind) (l : Nat) (p : Option Port) (c : Option TClass) : Instr :=
  .faultReport { kind := k, location := l, port := p, cls := c }

theorem test_wf_locations :
    [reportAt .entryCheck 512 none none, reportAt .originCheck 64 none none,
      reportAt .blockCheck 2048 (some .b) (some .event), reportAt .handleCheck 1024 (some .u1) none,
      reportAt .imageCheck 4096 none none].all (fun c => !c.wf) = true ∧
    [reportAt .entryCheck 511 none none, reportAt .originCheck 63 none none,
      reportAt .blockCheck 2047 (some .b) (some .event), reportAt .handleCheck 1023 (some .u1) none,
      reportAt .imageCheck 4095 none none].all Instr.wf = true := by decide

theorem test_wf_ports_and_classes :
    [reportAt .blockCheck 0 none (some .event), reportAt .blockCheck 0 (some .b) none,
      reportAt .handleCheck 0 (some .u1) (some .event), reportAt .imageCheck 0 (some .b) none,
      reportAt .imageCheck 0 none (some .event)].all (fun c => !c.wf) = true := by decide

theorem test_wf_values :
    (ask 0 0 (List.replicate 374 0)).wf = false ∧ (ask 0 0 (List.replicate 373 0)).wf = true ∧
    (Instr.write (ask 0 0 (List.replicate 374 0))).wf = false := by decide +kernel

theorem test_wf_scopes :
    (Instr.resetPort (ask 0 3 [])).wf = false ∧ (Instr.resetEngine (ask 0 1 [])).wf = false ∧
    (Instr.resetPort (ask 0 9 [])).wf = true ∧ (Instr.resetEngine (ask 0 3 [])).wf = true := by decide

/-- The table gives its rows no bits, so no word spells a command. -/
theorem test_no_word_spells_a_command : decodeTableWord 32 0 = none ∧ decodeTableWord 0 5 = none := by decide

/-! ### Worked examples of the spec -/

/-- 1.8: the worked image of 20 octets. -/
def workedImage : List Octet :=
  [0xB3, 0x7E, 0x00, 0x14, 0x02, 0x06, 0x02, 0xB5, 0xE0, 0x00, 0x01, 0x07,
    0x06, 0x04, 0x01, 0x08, 0x04, 0x14, 0x03, 0x17]

/-- 1.8: the sum of octets 0..17 is 791, the image is valid with two records, and with a SLOTS body length of
5 it is bad at 12. -/
theorem test_worked_image :
    imageSum (workedImage.take 18) = 791 ∧
    readImage straps workedImage =
      .valid [{ offset := 4, type := 2, length := 6, body := [0x02, 0xB5, 0xE0, 0x00, 0x01, 0x07] },
        { offset := 12, type := 6, length := 4, body := [0x01, 0x08, 0x04, 0x14] }] ∧
    readImage straps (workedImage.set 13 5) = .bad 12 := by decide

/-- 1.6: an average of -887 is carried as 0xFFFC89. 4.5: 320 is 0x000140. -/
theorem test_detail : detail24 (-887) = 0xFFFC89 ∧ detail24 320 = 0x000140 := by decide

/-- 2.2: the classifier of the worked classification. -/
def workedClassifier : Settings :=
  { released.settings with
    classifier :=
      #v[{ etherType := 0x9A01, mask := 0xFF, cls := .event, paired := true },
        { etherType := 0x9A02, mask := 0xFF, cls := .stream, paired := true },
        { etherType := 0x9A03, mask := 0xFF, cls := .timing, paired := false },
        { etherType := 0x0800, mask := 0x80, cls := .event, paired := true },
        { etherType := 0x0800, mask := 0x01, cls := .general, paired := false },
        ClassifierEntry.disabled, ClassifierEntry.disabled, ClassifierEntry.disabled] }

theorem test_worked_classification :
    [(0x9A02, 0), (0x9A03, 4), (0x0800, 7), (0x0800, 0), (0x0800, 5), (0x0806, 0)].map
      (fun p : BitVec 16 × Nat =>
        (classify workedClassifier p.1 p.2, pairedDecision workedClassifier p.1 p.2)) =
    [(.stream, true), (.timing, true), (.event, true), (.general, false), (.general, true),
      (.general, true)] := by decide

/-- R1 and 2.4: blocks of a stored length. -/
theorem test_blocks_needed :
    [64, 128, 129, 200, 300, 700, 1000, 1522, 1528].map blocksNeeded = [1, 1, 2, 2, 3, 6, 8, 12, 12] := by
  decide

/-- 3.2: the keys of the crowded bucket, in class 2, and the buckets of its first address by class. -/
theorem test_buckets :
    [0x02B50010042C, 0x02B50010052D, 0x02B50010062E, 0x02B50010072F, 0x02B500100820, 0x02B500100921,
      0x02B500100A22].all (fun a => bucketOf a .timing == 73) = true ∧
    [TClass.general, .stream, .timing, .event, .presence].map (bucketOf 0x02B50010042C) =
      [15, 44, 73, 102, 3] := by decide

/-- 3.5: the time hold at the second and third visit, and no hold at the first. -/
theorem test_time_hold :
    [704968704, 705032704, 705096704].map (fun n : Time => holdTime n 4000000000) =
      [4000000000, 4000000000, 4000064000] := by decide

/-- 7.2: the default map's first 16 slots, and the first four of Event 16, Timing 8, Stream 16. -/
theorem test_worked_maps :
    (buildMap SlotCounts.default).take 16 =
      [.general, .stream, .general, .event, .stream, .general, .general, .timing, .stream, .general, .general,
        .stream, .event, .general, .stream, .general] ∧
    (buildMap { event := 16, timing := 8, stream := 16 }).take 4 = [.general, .event, .stream, .timing] := by
  decide

/-- 4.5: the averages of the seven samples, and the clamped first sample. -/
theorem test_skew_averages :
    ([120, 136, -40, -200, -200, -200, -200].foldl
      (fun (l : List Int) x => l ++ [nextAverage l.getLast? x]) []) = [960, 968, 887, 731, 585, 448, 320] ∧
    nextAverage none (signedSkew 40000 .u2) = -262136 := by decide

/-- 4.5: the alarm at a Skew Limit of 100: set above 800, held at 448, cleared at 320. -/
theorem test_skew_alarm :
    judgeSkew false 960 100 = (true, some true) ∧ judgeSkew true 448 100 = (true, none) ∧
    judgeSkew true 320 100 = (false, some false) ∧ judgeSkew false 800 100 = (false, none) := by decide

/-- 4.3: the entry of the restarting sender. -/
def restarting : Entry :=
  { newEntry 0x02B500100930 .event .active none 0 with
    window :=
      some { head := 1200, seen := 3, epoch := 3, prevEpoch := none, lastAccept := 500000 }
    twins := [{ seq := 1200, firstPath := .u1, firstTime := 500000 }] }

/-- The entry after an arrival. -/
def screened (now : Time) (seq : BitVec 16) (epoch : BitVec 3) (p : Uplink) (c : TClass) (e : Entry) :
    Entry × Verdict :=
  let r := screenEntry released.settings now
    { seq := seq, path := p, epoch := epoch, cls := c, interval := 0 }
    { entry := e, counters := FilterCounters.zero }
  (r.1.entry, r.2.1)

/-- 4.3, step 1: JUMP; the twin record is discarded without a miss. -/
theorem test_restart_jump :
    (screened 503000 0 4 .u1 .event restarting).2 = .epochJump ∧
    (screened 503000 0 4 .u1 .event restarting).1 =
      { restarting with
        window :=
          some { head := 0, seen := 1, epoch := 4, prevEpoch := some 3, lastAccept := 503000 }
        twins := [{ seq := 0, firstPath := .u1, firstTime := 503000 }]
        accepted := 1, resync := 1, lastUse := 503000 } := by decide

/-- 4.3, step 2: the previous Epoch is STALE. -/
theorem test_restart_stale :
    screened 503400 1200 3 .u2 .event (screened 503000 0 4 .u1 .event restarting).1 =
      ({ (screened 503000 0 4 .u1 .event restarting).1 with stale := 1, lastUse := 503400 },
        .staleEpoch) := by decide

/-- 4.4: the entry before the sequence wrap. -/
def wrapping : Entry :=
  { newEntry 0x02B500100931 .stream .active none 0 with
    window :=
      some { head := 65530, seen := 0b1101, epoch := 5, prevEpoch := none, lastAccept := 9950 }
    twins := [{ seq := 65528, firstPath := .u2, firstTime := 9700 },
      { seq := 65530, firstPath := .u1, firstTime := 9950 }]
    skewAverage := some 800, sampleCount := 40 }

/-- 4.4, step 1: REPEAT with a twin match; the average falls to 795. -/
theorem test_wrap_repeat :
    let e := (screened 10040 65530 5 .u2 .stream wrapping).1
    (e.skewAverage, e.sampleCount, e.repeats, e.twins) =
      (some 795, 41, 1, [{ seq := 65528, firstPath := .u2, firstTime := 9700 }]) := by decide

/-- 4.4, step 2: AHEAD by 9 across the wrap; the Seen offsets 0, 2 and 3 become 9, 11 and 12. -/
theorem test_wrap_ahead :
    let r := screened 10100 3 5 .u1 .stream wrapping
    r.2 = .ahead ∧
    r.1.window = some
      { head := 3, seen := 0b1101000000001, epoch := 5, prevEpoch := none, lastAccept := 10100 } := by
  decide

/-- 4.4, step 7: the window slides by 66 from 4; the three records are evicted, with two misses of path 1 and
one of path 2. -/
theorem test_wrap_slide :
    let e := (screened 10400 70 5 .u1 .stream
      { wrapping with
        window :=
          some { head := 4, seen := 0b11010000100011, epoch := 5, prevEpoch := none,
                 lastAccept := 10300 }
        twins := [{ seq := 65528, firstPath := .u2, firstTime := 9700 },
          { seq := 65535, firstPath := .u2, firstTime := 10180 },
          { seq := 4, firstPath := .u1, firstTime := 10300 }] }).1
    (e.window.map (·.head), e.window.map (·.seen), e.twins.map (·.seq), e.path1.missRun, e.path2.missRun) =
      (some 70, some 1, [70], 2, 1) := by decide

/-- 5.1: a full twin list at sequence 112; its append evicts the oldest record with the eighth miss, and path
2 is found failed. -/
def cutEntry : Entry :=
  { newEntry 0x02B500100931 .stream .active none 0 with
    window :=
      some { head := 111, seen := 0xFFF, epoch := 5, prevEpoch := none, lastAccept := 2750 }
    declaredInterval := 1
    path1 := { state := .present, lastArrival := some 2750, missRun := 0, missing := 0 }
    path2 := { state := .present, lastArrival := some 100, missRun := 7, missing := 7 }
    twins := [108, 109, 110, 111].map fun k =>
      { seq := BitVec.ofNat 16 k, firstPath := .u1, firstTime := BitVec.ofNat 32 (250 * (k - 100)) } }

theorem test_cable_cut :
    let e := (screened 3000 112 5 .u1 .stream cutEntry).1
    (e.twins.map (·.seq), e.path2.missRun, e.path2.missing) = ([109, 110, 111, 112], 8, 8) ∧
    e.failed .u2 8 3000 = true ∧ cutEntry.failed .u2 8 2750 = false := by decide

/-- 5.2, steps 1 and 6: NETWORK-SUSPECT at 4, NETWORK-CLEAR at 1 but not at 2 (Suspect Threshold 4). -/
theorem test_suspect :
    let at3 := { running with filter := { running.filter with single1 := 3 } }
    (raiseLost .u2 at3).filter.suspect2 = true ∧
    (raiseLost .u2 at3).notices.records.map (fun e => (e.kind, e.whr, e.detail)) =
      [(.networkSuspect, 2, 4)] ∧
    (setLost .u2 2 (raiseLost .u2 at3)).filter.suspect2 = true ∧
    (setLost .u2 1 (raiseLost .u2 at3)).filter.suspect2 = false := by decide

/-- 10.4: the start-up image of Length 53. -/
def startImage : List Octet :=
  image [1, 6, 1, 1, 0, 0, 0, 32, 1, 6, 1, 5, 0, 0, 0, 3, 2, 6, 2, 0xB5, 0xE0, 0, 1, 7,
    3, 6, 2, 0xB5, 0xE0, 0, 1, 7, 4, 7, 2, 0xB5, 0, 0x10, 4, 0x2C, 6, 6, 4, 2, 30, 20, 20]

theorem test_start_image_length : startImage.length = 53 ∧ imageLength startImage = 53 := by decide

/-- 10.4: what the application of the start-up image leaves. -/
theorem test_start_up :
    let t := after (.loadEnd startImage) released
    (t.settings.jumpLimit, t.settings.stalePass, t.loader.stationAddress, t.loader.recordsSkipped) =
      (64, false, 0x02B5E0000107, 3) ∧
    t.pairing.entries.map (fun p => (p.1, p.2.epoch)) = [(0, 1)] ∧
    (t.pairing.originInUse, t.pairing.originPinned, t.pairing.epochCounter, t.pairing.overflowEpoch) =
      (1, 1, 3, 2) ∧
    t.u2.activeCounts = SlotCounts.default ∧ t.loader.part = .quiet ∧ t.loader.ready = true ∧
    t.loader.quietTimer = some 500000 := by decide +kernel

/-- 10.4: the same image with a wrong Check. -/
theorem test_start_up_bad :
    let t := after (.loadEnd (startImage.set 52 0xEE)) released
    t.loader.stationAddress = 0x02B5E0000009 ∧ t.settings = released.settings ∧
    t.faults.primary.map (·.location) = some 51 ∧ t.faults.faultPin = true := by decide +kernel

/-- R14: the unknown Type at 4 is found before the bad body length at 6, in both orders of its tests; so is the
bad length at 4 before the record that runs past the field only in the table's. -/
theorem test_image_first_failure :
    readImage straps (image [7, 0, 1, 5, 0, 0, 0, 0, 0]) = .bad 4 ∧
    failureAsListed [{ offset := 4, type := 1, length := 1, body := [0] }] (some 7) = some 7 ∧
    failureAsTabled [{ offset := 4, type := 1, length := 1, body := [0] }] (some 7) = some 4 := by decide

/-! ### One step of each command -/

theorem test_chip_reset :
    let t := after .chipReset (holding 1)
    (t.resetN, t.loader.part, t.loader.ready, t.stationTime) = (false, .loading, false, 0) ∧
    (t.store.handles.map Prod.fst, t.u1.phy, t.u1.linkUp) = ([], true, false) := by decide

theorem test_chip_reset_release :
    let t := after (.chipResetRelease straps) State.reset
    (t.resetN, t.loader.stationAddress, t.settings.bayPause, t.settings.u1Speed1000, t.loader.part) =
      (true, 0x02B5E0000009, true, true, .loading) := by decide

/-- R66, R69: a first copy is accepted and goes to B with its tag removed, 64 octets long. -/
theorem test_uplink_arrival_first :
    let t := after (.uplinkArrival .u1 (tagged .u1 0x02B50010042C .timing 9)) running
    t.filter.entries.map (fun p => (p.1, p.2.accepted, p.2.window.map (·.head))) = [(292, 1, some 9)] ∧
    (match t.bay.tx with
      | some (.frame 0 w) => some (w.octets.length, u16At w.octets 12)
      | _ => none) = some (64, 0x0800) := by decide +kernel

/-- R17: a tag of path 2 on U1 is a path mismatch. -/
theorem test_uplink_arrival_mismatch :
    let t := after (.uplinkArrival .u1 (tagged .u2 0x02B50010042C .timing 9)) running
    (t.portU1.tagErrors, t.portU1.pathMismatch, t.filter.entries) = (1, 1, []) := by decide +kernel

/-- R119, R121: a paired frame of class 0 from entry 0's address takes Sequence 0 and leaves on both. -/
theorem test_bay_arrival_paired :
    let t := after (.bayArrival (plain 0x020000000099 station 0x0806)) running
    t.store.handles.map (fun p => (p.1, p.2.refs, p.2.tag.map (·.seq), p.2.tag.map (·.epoch))) =
      [(0, 2, some 0, some 3)] ∧
    (t.u1.tx.map (·.handle), t.u2.tx.map (·.handle), t.pairing.counters.pairedFrames) =
      (some 0, some 0, 1) := by decide +kernel

/-- R7, R21, 7.4: quanta 10,000 hold the bay for 5,120 microseconds at 1,000 Mb/s. -/
theorem test_bay_arrival_pause :
    let t := after (.bayArrival (bayPauseFrame 10000)) running
    (t.bay.held, t.bay.pauseTimer, t.portB.pauseHolds) = (true, some 5120000, 1) := by decide +kernel

theorem test_link_state_down :
    let t := after (.linkStateDown .u1) { holding 1 with u1 := { running.u1 with tx := some copyOf0 } }
    (t.u1.linkUp, t.u1.tx, t.portU1.linkDowns, t.portU1.transmitAborts, t.notices.noticesSent) =
      (false, none, 1, 1, 1) := by decide +kernel

theorem test_link_state_up :
    let t := after (.linkStateUp .u2) { running with u2 := UplinkEgress.reset }
    (t.u2.linkUp, t.notices.eventsQueued) = (true, 1) := by decide +kernel

/-- R34: half the time that 65,535 quanta stop the fabric. -/
theorem test_pause_refresh_timer_expiry :
    let t := after .pauseRefreshTimerExpiry
      { running with pause := { asserted := true, refresh := some 0, pending := none } }
    (t.pause.refresh, t.portB.pausesSent) = (some 16777, 1) := by decide

theorem test_received_pause_timer_expiry :
    let t := after .receivedPauseTimerExpiry
      { running with bay := { running.bay with held := true, pauseTimer := some 0 } }
    (t.bay.held, t.bay.pauseTimer) = (false, none) := by decide

/-- 3.2: the crowded bucket at 112,040 ms: Y, of age 60,040 ms, is aged out, and P is not. -/
def crowded : State :=
  { running with
    stationTime := 112040000
    filter :=
      { running.filter with
        scanTimer := some 0, bucketCursor := 73, entriesInUse := 2, pinnedInUse := 1
        entries :=
          [(292, { newEntry 0x02B50010042C .timing .pinned (pinSilence 5000) 54200000 with
              silence := some { limit := 5000, silent := true } }),
            (294, newEntry 0x02B500100820 .timing .active none 52000000)] } }

theorem test_table_scanner_timer_expiry :
    let t := after .tableScannerTimerExpiry crowded
    (t.filter.entries.map Prod.fst, t.filter.counters.agedOut, t.filter.entriesInUse, t.filter.bucketCursor,
      t.filter.scanTimer) = ([292], 1, 1, 74, some 500) := by decide

/-- 3.2: P falls silent at 59,240 ms and not at 59,176 ms. -/
theorem test_scanner_silence :
    let e := newEntry 0x02B50010042C .timing .pinned (pinSilence 5000) 54200000
    e.fallsSilent 59240000 = true ∧ e.fallsSilent 59176000 = false := by decide

theorem test_presence_timer_expiry :
    let t := after .presenceTimerExpiry { running with presence := { running.presence with timer := some 0 } }
    (t.filter.counters.presenceBuilt, t.presence.timer) = (1, some 100000) ∧
    t.store.handles.map (fun p => (p.2.cls, p.2.refs, p.2.length)) = [(.presence, 2, 58)] := by decide +kernel

/-- An event record. -/
def someEvent : EventRecord := { kind := .linkDown, whr := 2, cls := 0xFF, detail := 0, addr := 0, time := 0 }

/-- 9.6: 32 records and 8 lost; the expiry sends 8 and leaves 24. -/
theorem test_notice_timer_expiry :
    let t := after .noticeTimerExpiry
      { running with
        notices := { running.notices with
          records := List.replicate 32 someEvent, dropped := 8, timer := some 0 } }
    (t.notices.records.length, t.notices.dropped, t.notices.noticesSent, onB 3 t) =
      (24, 0, 1, [0xC0, 8, 8]) := by decide +kernel

theorem test_quiet_timer_expiry :
    let t := after .quietTimerExpiry
      { quiet with loader := { quiet.loader with quietTimer := some 0 } }
    (t.loader.part, t.presence.timer, t.filter.counters.presenceBuilt) = (.run, some 100000, 1) := by
  decide +kernel

/-- R189: an EEPROM that acknowledges nothing is a bad image at offset 0. -/
theorem test_load_end_bad :
    let t := after (.loadEnd []) released
    (t.loader.imageStatus, t.faults.primary.map (·.location), t.loader.part, t.pairing.epochCounter) =
      (.bad, some 0, .quiet, 2) := by decide +kernel

/-- R192: a valid reload without records writes the defaults and sets Apply Pending on both uplinks. -/
theorem test_reload_end :
    let t := after (.reloadEnd (image [1, 6, 1, 1, 0, 0, 0, 100]))
      { running with
        loader := { running.loader with reloadRunning := true }
        settings := { running.settings with missLimit := 20 } }
    (t.loader.reloadRunning, t.settings.jumpLimit, t.settings.missLimit, t.u1.applyPending, t.loader.part) =
      (false, 100, 8, true, .run) := by decide +kernel

/-- A handle of one block with an arrival time. -/
def handleOfAge (b : Nat) (c : TClass) (arrival : Time) : Handle :=
  { handle64 b 1 with cls := c, arrival := arrival }

/-- 7.3: U1 before step 3, at 1,008 microseconds: G1 on the wire, T1 in the Timing queue, S1 and S2 in the
Stream queue, the cursor at 62. -/
def boundary : State :=
  { running with
    stationTime := 1008
    store :=
      { running.store with
        blocks := [(0, block64 0), (1, block64 1), (2, block64 2), (3, block64 3)]
        handles := [(0, handle64 0 1), (1, handleOfAge 1 .presence 4294966296),
          (2, handleOfAge 2 .stream 4294964296), (3, handleOfAge 3 .stream 900)] }
    u1 :=
      { running.u1 with
        tx := some copyOf0
        cursor := 62
        timing := { Queue.empty with entries := [entryFor 1] }
        stream := { Queue.empty with entries := [entryFor 2, entryFor 3] } } }

/-- 7.3, step 3: S1 is dropped at 4,008 microseconds, S2 is started, the cursor moves to 63. -/
theorem test_uplink_transmission_complete :
    let t := after (.uplinkTransmissionComplete .u1) boundary
    (t.u1.tx.map (·.handle), t.u1.stream.entries, t.u1.stream.residenceDrops, t.u1.cursor,
      t.portU1.framesSent) = (some 3, [], 1, 63, 1) ∧
    t.store.handles.map Prod.fst = [1, 3] := by decide +kernel

/-- 7.3, step 5: a fall-through to Event at slot 63, the wrap, the new map and SLOT-APPLIED. -/
theorem test_slot_boundary :
    let t := after (.uplinkTransmissionComplete .u1)
      { boundary with
        u1 := { boundary.u1 with
          cursor := 63
          stream := Queue.empty
          event := { Queue.empty with entries := [entryFor 3] }
          stagedCounts := { event := 16, timing := 8, stream := 16 }
          stagedMap := buildMap { event := 16, timing := 8, stream := 16 }
          applyPending := true } }
    (t.u1.tx.map (·.handle), t.u1.fallThroughStarts, t.u1.cursor, t.u1.activeCounts, t.u1.applyPending,
      t.notices.eventsQueued) = (some 3, 1, 0, { event := 16, timing := 8, stream := 16 }, false, 1) := by
  decide +kernel

theorem test_bay_transmission_complete :
    let t := after .bayTransmissionComplete
      { holding 1 with bay := { running.bay with tx := some (.frame 0 copyOf0.wire) } }
    (t.bay.tx, t.portB.framesSent, t.store.handles, t.bay.sent) =
      (none, 1, [], [copyOf0.wire.octets]) := by decide +kernel

theorem test_pause_frame_complete :
    let t := after .pauseFrameComplete
      { running with bay := { running.bay with tx := some (.pause 0 copyOf0.wire) } }
    (t.bay.tx, t.portB.framesSent, t.bay.sent.length) = (none, 0, 1) := by decide

/-- 8.4: the Fault Unit after step 1. -/
def oneFault : State :=
  { running with
    stationTime := 1040500
    faults :=
      { running.faults with
        primary :=
          some { kind := .blockCheck, time := 1000000, location := 517, port := some .u2,
                 cls := some .stream }
        faultPin := true } }

/-- 8.4, step 2: the second report is Held and raises FAULT. -/
theorem test_fault_report_held :
    let t := after (.faultReport { kind := .entryCheck, location := 292, port := none, cls := none }) oneFault
    (t.faults.primary.map (·.location), t.faults.held.map (·.location), t.faults.excess, t.faults.faultPin,
      t.notices.eventsQueued) = (some 517, some 292, 0, true, 1) := by decide +kernel

/-- 8.4, step 5: HANDLE-CHECK with Primary occupied is Held and starts an engine reset. -/
theorem test_fault_report_escalates :
    let t := after (.faultReport { kind := .handleCheck, location := 88, port := some .u1, cls := none })
      oneFault
    (t.faults.held.map (·.location), t.faults.selfResets, t.faults.resetAnnounce, t.loader.part,
      t.stationTime) = (some 88, 1, true, .loading, 1040500) := by decide +kernel

/-! Requests from B: the reply stands on B's wire from octet 14 on: Code, Status, Token, Object, Index, Count,
Values (01 1.5). -/

/-- READ of Miss Limit's object gives its default 8. -/
theorem test_read :
    onB 13 (after (.read (readOf 0x0104 0 1)) running) =
      [0x81, 0, 0x12, 0x34, 0x01, 0x04, 0, 0, 1, 0, 0, 0, 8] := by decide +kernel

/-- WRITE of Jump Limit 32 with the clamp flag gives OK-CLAMPED and 64, without it OUT-OF-RANGE. -/
theorem test_write :
    let t := after (.write { ask 0x0101 0 [32] with flags := 1 }) running
    t.settings.jumpLimit = 64 ∧
    onB 13 t = [0x82, 1, 0x12, 0x34, 0x01, 0x01, 0, 0, 1, 0, 0, 0, 64] ∧
    onB 9 (after (.write (ask 0x0101 0 [32])) running) = [0x82, 4, 0x12, 0x34, 0x01, 0x01, 0, 0, 0] := by
  decide +kernel

/-- Bucket 73 with three PINNED entries. -/
def full3 : State :=
  { running with
    filter :=
      { running.filter with
        entriesInUse := 3, pinnedInUse := 3
        entries :=
          [(292, newEntry 0x02B50010042C .timing .pinned none 0),
            (293, newEntry 0x02B50010052D .timing .pinned none 0),
            (294, newEntry 0x02B50010062E .timing .pinned none 0)] } }

/-- The Values of the key of address 02-B5-00-10-04-2C in class 2. -/
def keyP : List Value := [0x02B5, 0x0010042C, 2]

theorem test_entry_read :
    onB 9 (after (.entryRead (ask 0 0 keyP)) running) = [0x83, 8, 0x12, 0x34, 0, 0, 0, 0, 0] ∧
    onB 9 (after (.entryRead (ask 0 0 keyP)) crowded) = [0x83, 0, 0x12, 0x34, 0, 0, 0x01, 0x24, 32] := by
  decide +kernel

theorem test_entry_pin :
    let t := after (.entryPin (ask 0 0 (keyP ++ [5000]))) running
    t.filter.entries.map (fun p => (p.1, p.2.state, p.2.silence)) =
      [(292, .pinned, some { limit := 5000, silent := false })] ∧
    onB 9 t = [0x84, 0, 0x12, 0x34, 0, 0, 0x01, 0x24, 0] := by decide +kernel

/-- R176: a limit of 65,536 is clamped under the clamp flag, and the third PINNED entry of its bucket keeps its
place; without the flag it is OUT-OF-RANGE. -/
theorem test_entry_pin_clamped :
    let t := after (.entryPin { ask 0 0 (keyP ++ [65536]) with flags := 1 }) full3
    t.filter.entries.map (fun p => (p.1, p.2.silence)) =
      [(292, some { limit := 65535, silent := false }), (293, none), (294, none)] ∧
    onB 9 t = [0x84, 1, 0x12, 0x34, 0, 0, 0x01, 0x24, 0] ∧
    onB 9 (after (.entryPin (ask 0 0 (keyP ++ [65536]))) full3) = [0x84, 4, 0x12, 0x34, 0, 0, 0, 0, 0] := by
  decide +kernel

theorem test_entry_unpin :
    let t := after (.entryUnpin (ask 0 0 keyP)) crowded
    (t.filter.entries.map (fun p => (p.2.state, p.2.silence)), t.filter.pinnedInUse) =
      ([(.active, none), (.active, none)], 0) := by decide

theorem test_entry_remove :
    let t := after (.entryRemove (ask 0 0 keyP)) crowded
    (t.filter.entries.map Prod.fst, t.filter.counters.removed, t.filter.entriesInUse) = ([294], 1, 1) := by
  decide

theorem test_origin_read :
    onB 17 (after (.originRead (ask 0 0 [])) running) =
      [0x87, 0, 0x12, 0x34, 0, 0, 0, 0, 10, 0, 0, 0, 2, 0, 0, 0x02, 0xB5] := by decide +kernel

theorem test_origin_pin :
    let t := after (.originPin (ask 0 0 [0x0200, 0x00000001])) running
    t.pairing.entries.map (fun p => (p.1, p.2.epoch)) = [(0, 3), (1, 5)] ∧
    (t.pairing.epochCounter, t.pairing.originPinned) = (6, 2) := by decide

theorem test_origin_remove_zero :
    let t := after (.originRemove (ask 0 0 [0x02B5, 0xE0000009])) running
    t.pairing.entries.map Prod.fst = [0] ∧ onB 2 t = [0x89, 5] := by decide +kernel

theorem test_slot_stage :
    let t := after (.slotStage (ask 0 1 [16, 8, 16])) running
    (t.u1.stagedMap.take 4, t.u1.activeCounts) =
      ([.general, .event, .stream, .timing], SlotCounts.default) ∧
    onB 2 (after (.slotStage (ask 0 1 [30, 20, 20])) running) = [0x8A, 4] := by decide +kernel

theorem test_slot_apply :
    let t := after (.slotApply (ask 0 2 [])) running
    (t.u1.applyPending, t.u2.applyPending) = (false, true) := by decide

theorem test_inject :
    (after (.inject (ask 0 0 [1, 1, 1, 2])) running).pairing.injection =
      { target := .u1, filter := some .stream, mode := .once, kind := .seqOffset } := by decide

/-- 8.4, steps 4 and 8 in kind: the last record acknowledged empties Primary and lowers FAULT. -/
theorem test_fault_ack :
    let t := after (.faultAck (ask 0 0 [])) oneFault
    (t.faults.primary, t.faults.faultPin) = (none, false) ∧
    onB 17 t = [0x8D, 0, 0x12, 0x34, 0, 0, 0, 0, 5, 0, 0, 0, 3, 0x00, 0x0F, 0x42, 0x40] := by decide +kernel

/-- R167: FAULT-ACK reads no Object or Index; R178: its Count is 0. -/
theorem test_fault_ack_fields :
    onB 2 (after (.faultAck (ask 5 7 [])) oneFault) = [0x8D, 0] ∧
    onB 2 (after (.faultAck (ask 0 0 [1])) oneFault) = [0x8D, 2] := by decide +kernel

theorem test_clear_counters :
    let t := after (.clearCounters (ask 0 1 []))
      { running with portU1 := { PortCounters.zero with linkDowns := 7, framesSent := 9 } }
    (t.portU1.linkDowns, t.portU1.framesSent) = (0, 0) := by decide

theorem test_flush_table :
    let t := after (.flushTable (ask 0 0 [])) crowded
    (t.filter.entries.map Prod.fst, t.filter.counters.removed, t.filter.entriesInUse) = ([292], 1, 1) := by
  decide

theorem test_reload :
    let t := after (.reload (ask 0 0 [])) running
    (t.loader.reloadRunning, onB 2 t, onB 2 (after (.reload (ask 0 0 []))
      { running with loader := { running.loader with reloadRunning := true } })) =
      (true, [0x90, 0], [0x90, 6]) := by decide +kernel

theorem test_reset_port :
    let t := after (.resetPort (ask 0 1 []))
      { holding 1 with u1 := { running.u1 with timing := { Queue.empty with entries := [entryFor 0] } } }
    (t.u1.linkUp, t.u1.timing.entries, t.u1.flushDrops, t.portU1.linkDowns, t.portU2.linkDowns) =
      (true, [], 1, 1, 0) := by decide +kernel

/-- R34: the block that a port reset frees, the 2,048th, releases no pause; the reply's storing then finds 2,047
free. -/
theorem test_reset_port_keeps_pause :
    let s := pausing 0 2048 true
    let t := after (.resetPort (ask 0 1 []))
      { s with
        u1 := { s.u1 with timing := { Queue.empty with entries := [entryFor 0] } }
        notices := { s.notices with timer := some 5 } }
    (t.pause.asserted, t.portB.pausesSent, t.u1.flushDrops, freeBlocks t) = (true, 0, 1, 2047) := by
  decide +kernel

theorem test_reset_engine :
    let t := after (.resetEngine (ask 0 3 [])) { oneFault with settings := workedClassifier }
    (t.loader.part, t.loader.ready, t.faults.faultPin, t.stationTime, t.settings.classifier, t.bay.tx) =
      (.loading, false, true, 1040500, classifierAfterReset, none) := by decide +kernel

/-! ### Steps -/

/-- The front command is taken, the rest waits. -/
theorem test_step_front :
    (match step { running with pending := [.slotApply (ask 0 2 []), .chipReset] } with
      | .next t => (t.u2.applyPending, t.pending)
      | _ => (false, [])) = (true, [.chipReset]) := by decide

/-- An idle step passes a microsecond and queues what runs out. -/
theorem test_step_idle :
    (match step { running with filter := { running.filter with scanTimer := some 1 } } with
      | .next t => (t.stationTime, t.filter.scanTimer, t.pending)
      | _ => (0, none, [])) = (5001, some 0, [.tableScannerTimerExpiry]) := by decide

/-- 3.2, step 2: of Q, R and X, of ages 12,000, 27,000 and 2,000 ms, R in way 2 is replaced, which lowers the
Single-1 Count. -/
theorem test_crowded_replacement :
    let s := { running with
      stationTime := 52000000
      filter := { running.filter with
        single1 := 1, entriesInUse := 4, pinnedInUse := 1
        entries :=
          [(292, newEntry 0x02B50010042C .timing .pinned none 10000000),
            (293, newEntry 0x02B50010052D .timing .active none 40000000),
            (294, { newEntry 0x02B50010062E .timing .active none 25000000 with
              path2 := { PathRecord.new with state := .lost } }),
            (295, newEntry 0x02B50010072F .timing .active none 50000000)] } }
    let t := (entryForArrival .u2 0x02B500100820 .timing s).2
    t.filter.entries.map (fun p => (p.1, p.2.addr)) =
      [(292, 0x02B50010042C), (293, 0x02B50010052D), (294, 0x02B500100820), (295, 0x02B50010072F)] ∧
    (t.filter.single1, t.filter.entriesInUse, t.filter.counters.replaced, t.filter.counters.entriesCreated) =
      (0, 4, 1, 1) := by decide

/-- 2.4: with a General Handle Floor of 128 and 129 free handles a General frame is admitted, with 128 not. -/
theorem test_handle_floor :
    let s := fun n => { running with
      store := { running.store with handles := (List.range n).map fun i => (i, handle64 0 1) } }
    (admits (s 895) 64 512 128, admits (s 896) 64 512 128) = (true, false) := by decide +kernel

/-! ### Invariants of the test states -/

theorem tableInv_of {s : State} (h1 : Tbl.wf s.filter.entries = true)
    (h2 : Tbl.below 512 s.filter.entries = true)
    (h3 : ∀ p ∈ s.filter.entries, p.1 / 4 = bucketOf p.2.addr p.2.cls)
    (h4 : ∀ p ∈ s.filter.entries, ∀ q ∈ s.filter.entries,
      p.2.addr = q.2.addr → p.2.cls = q.2.cls → p.1 = q.1)
    (h5 : ∀ p ∈ s.filter.entries, pinnedInBucket s (p.1 / 4) ≤ 3) : TableInv s := by
  refine ⟨h1, h2, fun i e h => h3 _ (Tbl.mem_of_look h),
    fun i j d e hd he ha hc => h4 _ (Tbl.mem_of_look hd) _ (Tbl.mem_of_look he) ha hc, fun b => ?_⟩
  rcases Nat.eq_zero_or_pos (pinnedInBucket s b) with z | z
  · omega
  · obtain ⟨i, hi, hp⟩ := List.countP_pos_iff.mp z
    split at hp
    · rename_i e he
      have hb : i / 4 = b := by
        simp only [waysOf, List.mem_cons, List.not_mem_nil, or_false] at hi
        omega
      exact hb ▸ h5 _ (Tbl.mem_of_look he)
    · cases hp

theorem originInv_of {s : State} (e : OriginEntry) (h1 : Tbl.wf s.pairing.entries = true)
    (h2 : Tbl.below 64 s.pairing.entries = true)
    (h3 : ∀ p ∈ s.pairing.entries, ∀ q ∈ s.pairing.entries, p.2.addr = q.2.addr → p.1 = q.1)
    (h4 : s.loader.part ≠ .loading)
    (h5 : originOf s 0 = some e ∧ e.state = .pinned ∧ e.addr = s.loader.stationAddress) : OriginInv s :=
  ⟨h1, h2, fun _ _ _ _ hd he ha => h3 _ (Tbl.mem_of_look hd) _ (Tbl.mem_of_look he) ha,
    fun h => absurd h h4, fun _ => ⟨e, h5⟩⟩

theorem tableInv_running : TableInv running := tableInv_of rfl rfl (by decide) (by decide) (by decide)
theorem tableInv_crowded : TableInv crowded := tableInv_of rfl rfl (by decide) (by decide) (by decide)
theorem originInv_running : OriginInv running := originInv_of zero rfl rfl (by decide) (by decide) (by decide)
theorem storeInv_running : StoreInv running := by unfold StoreInv; decide
theorem linkInv_running : LinkInv running := by intro u h; cases u <;> exact absurd h (by decide)

/-! ### Witnesses: states and operands that meet the hypotheses of each statement -/

/-- Every port sends something. -/
def sending : State :=
  { holding 2 with
    u1 := { running.u1 with tx := some copyOf0 }
    u2 := { running.u2 with tx := some copyOf0 }
    bay := { running.bay with tx := some (.frame 0 copyOf0.wire) } }

/-- `running` with both links DOWN. -/
def linksDown : State := { running with u1 := UplinkEgress.reset, u2 := UplinkEgress.reset }

/-- A HANDLE-CHECK report. -/
def handleReport : FaultReport := { kind := .handleCheck, location := 1023, port := some .u1, cls := none }

theorem witness_StepTakesTheFrontCommand :
    (State.reset.pending = [] ∧ State.reset.resetN = false) ∧
    (∃ r rest, ({ running with reports := [handleReport] } : State).reports = r :: rest ∧
      running.resetN = true ∧ running.pending = []) ∧
    (running.pending = [] ∧ running.resetN = true ∧ running.reports = []) :=
  ⟨by decide, ⟨_, _, rfl, by decide⟩, by decide⟩

theorem witness_WhatCommandsLeaveAlone :
    ∃ (c : Instr) (t : State), exec c running = .next t ∧ c ≠ .chipReset ∧ (∀ p, c ≠ .chipResetRelease p) ∧
      (∀ e, c ≠ .loadEnd e) ∧ (∀ e, c ≠ .reloadEnd e) ∧ (∀ u f, c ≠ .uplinkArrival u f) ∧
      (∀ f, c ≠ .bayArrival f) ∧ (∀ r, c ≠ .faultReport r) ∧ (∀ r, c ≠ .write r) ∧
      (∀ r, c ≠ .resetEngine r) ∧ (∀ r, c = .resetPort r → r.index ≠ 3) :=
  ⟨.resetPort (ask 0 2 []), _, rfl, by simp, by simp, by simp, by simp, by simp, by simp, by simp, by simp,
    by simp, by intro r h; cases h; decide⟩

theorem witness_ChipResetAndRelease :
    (running.u1.tx = none ∧ running.u2.tx = none ∧ running.bay.tx = none) ∧
    (sending.u1.tx = some copyOf0 ∧ sending.u2.tx = some copyOf0 ∧
      sending.bay.tx = some (.frame 0 copyOf0.wire)) ∧
    State.reset.resetN = false ∧ running.resetN = true ∧
    ∃ c : Instr, c ≠ .chipReset ∧ (∀ p, c ≠ .chipResetRelease p) ∧ (∀ u, c ≠ .linkStateDown u) ∧
      (∀ u, c ≠ .linkStateUp u) :=
  ⟨by decide, by decide, rfl, rfl, .presenceTimerExpiry, by simp, by simp, by simp, by simp⟩

theorem witness_EngineResetKeepsFaultsAndTime :
    (Admissible .reset (ask 0 3 []) sending ∧ (ask 0 3 []).object = 0 ∧ (ask 0 3 []).index = 3 ∧
      (ask 0 3 []).count = 0 ∧ sending.u1.tx = some copyOf0 ∧ sending.u2.tx = some copyOf0) ∧
    (Admissible .reset (ask 0 3 []) running ∧ running.u1.tx = none ∧ running.bay.tx = none) := by
  unfold Admissible; decide +kernel

theorem witness_PortResetEmptiesOneUplink :
    (∀ u, Admissible .reset (ask 0 (pathNumber u) []) running ∧
      (ask 0 (pathNumber u) []).index.toNat = pathNumber u ∧ LinkInv running) ∧
    (∀ k ∈ [0, 4, 65535], Admissible .reset (ask 0 k []) running ∧ (ask 0 k []).index.toNat ≠ 1 ∧
      (ask 0 k []).index.toNat ≠ 2 ∧ (ask 0 k []).index.toNat ≠ 3) := by
  refine ⟨fun u => ?_, ?_⟩
  · cases u <;> exact ⟨by unfold Admissible; decide +kernel, by decide, linkInv_running⟩
  · unfold Admissible; decide

theorem witness_EntriesToQuietAndRun :
    (released.resetN = true ∧ released.loader.part = .loading) ∧ State.reset.resetN = false ∧
    running.loader.part ≠ .loading ∧
    (let s := { quiet with loader := { quiet.loader with quietTimer := some 0 }, u1 := UplinkEgress.reset,
                           u2 := UplinkEgress.reset };
      s.resetN = true ∧ s.loader.quietTimer.isSome = true ∧ s.u1.linkUp = false ∧ s.u2.linkUp = false) ∧
    running.loader.quietTimer = none := by decide

/-- `released` with the Image Present strap low. -/
def imageless : State :=
  { released with loader := { released.loader with straps := { straps with imagePresent := false } } }

theorem witness_LoadWithoutImageCreatesEntryZero :
    (imageless.resetN = true ∧ imageless.loader.part = .loading ∧
      imageless.pairing = State.reset.pairing ∧ readImage imageless.loader.straps [] = .absent) ∧
    (released.resetN = true ∧ released.loader.part = .loading ∧
      released.pairing = State.reset.pairing ∧ readImage released.loader.straps [0xB3, 0x7E, 0] = .bad 3 ∧
      released.faults.primary = none) := by decide

theorem witness_ImageSettingsEndAtTheLastValue :
    released.resetN = true ∧ released.loader.part = .loading ∧
    ∃ l, readImage released.loader.straps workedImage = .valid l :=
  ⟨rfl, rfl, _, test_worked_image.2.1⟩

/-- `running` with a reload under way. -/
def reloading : State := { running with loader := { running.loader with reloadRunning := true } }

theorem witness_ReloadRequestAndItsEnd :
    (Admissible .reload (ask 0 0 []) running ∧ running.loader.reloadRunning = false) ∧
    (Admissible .reload (ask 0 0 []) reloading ∧ reloading.loader.reloadRunning = true ∧
      reloading.serving = true) ∧
    (∃ l, readImage reloading.loader.straps workedImage = .valid l) ∧
    ∀ l, readImage reloading.loader.straps [] ≠ .valid l := by
  refine ⟨by unfold Admissible; decide +kernel, by unfold Admissible; decide +kernel, ⟨_, test_worked_image.2.1⟩, fun l => ?_⟩
  rw [show readImage reloading.loader.straps [] = .bad 0 by decide]
  simp

theorem witness_PauseTimerExpiries :
    (let s := { sending with
        pause := { asserted := true, refresh := some 0, pending := none }
        bay := { sending.bay with held := true, pauseTimer := some 0 } };
      s.resetN = true ∧ s.pause.refresh.isSome = true ∧ s.bay.tx ≠ none ∧ s.bay.pauseTimer.isSome = true) ∧
    (let s := { running with pause := { asserted := true, refresh := some 0, pending := none } };
      s.resetN = true ∧ s.pause.refresh.isSome = true ∧ s.bay.tx = none ∧ s.bay.pauseTimer = none) ∧
    running.pause.refresh = none := by decide

theorem witness_PauseTimerExpiries_test :
    (∀ on off a, (pausing on off a).settings.bayPause = true ∧ (pausing on off a).pause.asserted = a ∧
      (pausing on off a).bay.tx = none) ∧
    (freeBlocks (pausing 2048 0 false) < (pausing 2048 0 false).settings.pauseOn ∧
      (pausing 2047 0 false).settings.pauseOn ≤ freeBlocks (pausing 2047 0 false)) ∧
    ((pausing 0 2047 true).settings.pauseOff ≤ freeBlocks (pausing 0 2047 true) ∧
      freeBlocks (pausing 0 2048 true) < (pausing 0 2048 true).settings.pauseOff) ∧
    ({ running with settings := { running.settings with bayPause := false } } : State).settings.bayPause =
      false ∧
    sending.bay.tx ≠ none :=
  ⟨fun _ _ _ => ⟨rfl, rfl, rfl⟩, by decide⟩

/-- Of the bucket visited, one entry is to be freed and one is not. -/
theorem witness_ScannerVisitsOneBucketAndOneOrigin :
    (crowded.resetN = true ∧ crowded.filter.scanTimer.isSome = true ∧ crowded.filter.bucketCursor.val = 73) ∧
    (∃ e, entryOf crowded 292 = some e ∧ e.check = 0 ∧ e.state = .pinned) ∧
    (∃ e, entryOf crowded 294 = some e ∧ e.check = 0 ∧ e.state = .active ∧
      crowded.settings.sourceAge * 1000000 < age crowded.stationTime e.lastUse) ∧
    running.filter.scanTimer = none :=
  ⟨by decide, ⟨_, rfl, by decide⟩, ⟨_, rfl, by decide⟩, by decide⟩

/-- Bucket 73: two twin records of which the first is 20,001 microseconds old and the second 20,000, and a
PINNED entry one microsecond past its Silence Limit of 5,000 ms, last used 1,000 seconds ago or less. -/
def visited (created : Time) (limit : Nat) : State :=
  { crowded with
    filter := { crowded.filter with
      entries :=
        [(292, { newEntry 0x02B50010042C .timing .pinned (pinSilence limit) created with
            lastUse := 107039999
            window := some { head := 9, seen := 3, epoch := 0, prevEpoch := none, lastAccept := 112019999 }
            twins := [{ seq := 8, firstPath := .u1, firstTime := 112019999 },
              { seq := 9, firstPath := .u2, firstTime := 112020000 }] })]
      entriesInUse := 1 } }

theorem witness_ScannerVisitsOneBucketAndOneOrigin_kept :
    ((visited 0 5000).resetN = true ∧ (visited 0 5000).filter.scanTimer.isSome = true ∧
      (visited 0 5000).filter.bucketCursor.val = 73) ∧
    (∃ e, entryOf (visited 0 5000) 292 = some e ∧ e.check = 0 ∧ e.newlySilent 112040000 = true ∧
      (timedOutTwins 112040000 20 e.twins).length = 1) ∧
    (∃ e, entryOf (visited 0 5001) 292 = some e ∧ e.newlySilent 112040000 = false) ∧
    (age (visited 0 5000).stationTime (112040000 - 1000000000) = 1000000000 ∧
      age (visited 0 5000).stationTime (112040000 - 999999999) < 1000000000) ∧
    ∀ p ∈ (visited 0 5000).filter.entries, p.2.check = 0 ∧ p.2.state = .pinned :=
  ⟨by decide, ⟨_, rfl, by decide⟩, ⟨_, rfl, by decide⟩, by decide, by decide⟩

/-- R58, R60, R61: the first twin record leaves with a miss of path 2, Silent is set with its event, and a
Created just over 1,000 seconds old is held. -/
theorem test_scanner_keeps :
    let t := after .tableScannerTimerExpiry (visited (112039999 - 1000000000) 5000)
    t.filter.entries.map (fun p => (p.2.created, p.2.twins.map (·.seq), p.2.path1.missRun, p.2.path2.missRun,
      p.2.silence)) =
      [(112040000 - 1000000000, [9], 0, 1, some { limit := 5000, silent := true })] ∧
    (t.filter.counters.twinTimeouts, t.filter.counters.agedOut, t.notices.eventsQueued) = (1, 0, 1) := by
  decide +kernel

theorem witness_PresenceTimerBuildsOneFrame :
    (let s := { running with presence := { running.presence with timer := some 0 } };
      s.resetN = true ∧ s.presence.timer.isSome = true ∧ anyLinkUp s = true ∧ 0 < freeBlocks s ∧
      0 < freeHandles s ∧ originOf s 0 = some zero ∧ zero.check = 0) ∧
    (let s := { linksDown with presence := { running.presence with timer := some 0 } };
      s.resetN = true ∧ s.presence.timer.isSome = true ∧ anyLinkUp s = false) ∧
    running.presence.timer = none ∧
    (StoreInv running ∧ ∀ u, (running.uplink u).linkUp = true ∧ (running.uplink u).timing.entries.length < 64) ∧
    (running.filter.single1 < 65536 ∧ running.filter.single2 < 65536 ∧ running.pairing.originInUse < 256 ∧
      running.filter.entriesInUse < 65536) :=
  ⟨by decide, by decide, by decide, ⟨storeInv_running, fun u => by cases u <;> decide⟩, by decide⟩

/-- 1.4, R8: the status copy in RUN with both links UP, one fault held, Network 2 suspect, 4 sources single on
path 1, one Origin entry and 300 sources, thrice in the frame. -/
theorem test_presence_octets :
    let s := { oneFault with filter := { running.filter with suspect2 := true, single1 := 4, entriesInUse := 300 } }
    [20, 28, 36].map (slice (presenceOctets s) · 8) =
      List.replicate 3 [0xDC, 0, 4, 0, 0, 1, 0x01, 0x2C] ∧
    slice (presenceOctets s) 12 8 = [0x8B, 0xE4, 0x02, 0xB5, 0xE0, 0x00, 0x00, 0x09] ∧
    (presenceOctets s).length = 58 := by decide +kernel

theorem uplinksSettled_sending : UplinksSettled sending := by
  intro u; cases u <;> exact Or.inr (Or.inl (by decide))

theorem uplinksSettled_running : UplinksSettled running := by
  intro u; cases u <;> exact Or.inr (Or.inr fun q => by cases q <;> rfl)

theorem witness_NoticeTimerSendsUpToEightRecords :
    (∀ n : Notices, UplinksSettled { sending with notices := n } ∧ UplinksSettled { running with notices := n } ∧
      StoreInv { sending with notices := n } ∧ StoreInv { running with notices := n }) ∧
    (∀ b ∈ [sending, running],
      let s := { b with notices := { b.notices with timer := some 0 } };
      s.serving = true ∧ s.notices.timer.isSome = true ∧ s.notices.records = []) ∧
    (∀ b ∈ [sending, running],
      let s := { b with
        notices := { b.notices with timer := some 0, records := List.replicate 9 someEvent } };
      s.serving = true ∧ s.notices.timer.isSome = true ∧ s.notices.records ≠ [] ∧ 2 ≤ freeBlocks s ∧
      1 ≤ freeHandles s ∧ s.bay.service.entries.length < 16) ∧
    running.notices.timer = none :=
  ⟨fun _ => ⟨uplinksSettled_sending, uplinksSettled_running, ⟨rfl, rfl, rfl, rfl⟩, rfl, rfl, rfl, rfl⟩,
    by decide, by decide, by decide⟩

theorem witness_LinkIndications :
    (∀ u, running.serving = true ∧ (running.uplink u).linkUp = true) ∧
    (∀ u, linksDown.serving = true ∧ (linksDown.uplink u).linkUp = false) ∧ released.serving = false := by
  refine ⟨fun u => ?_, fun u => ?_, by decide⟩ <;> cases u <;> decide

/-- A state of one handle, with a copy of it on U1's wire. -/
def releasing (r : Handle) : State :=
  { running with
    store := { running.store with blocks := [(0, block64 0)], handles := [(0, r)] }
    u1 := { running.u1 with tx := some copyOf0 } }

theorem witness_CompletionsReleaseTheirFrames_uplink :
    (∀ r, (releasing r).resetN = true ∧ ((releasing r).uplink .u1).tx = some copyOf0 ∧
      handleOf (releasing r) copyOf0.handle = some r) ∧
    ({ handle64 0 1 with quarantined := true } : Handle).quarantined = true ∧
    ((handle64 0 2).quarantined = false ∧ (handle64 0 2).check = 0 ∧ 1 < (handle64 0 2).refs) ∧
    (handle64 0 1).refs ≤ 1 ∧
    (({ handle64 0 1 with check := 1 } : Handle).check ≠ 0 ∧ (handle64 0 1).quarantined = false) ∧
    (running.uplink .u1).tx = none :=
  ⟨fun _ => ⟨rfl, rfl, rfl⟩, by decide, by decide, by decide, by decide, by decide⟩

theorem witness_CompletionsReleaseTheirFrames_bay :
    (sending.resetN = true ∧ sending.bay.tx = some (.frame 0 copyOf0.wire) ∧
      handleOf (holding 1) 0 = some (handle64 0 1) ∧ (handle64 0 1).quarantined = false ∧
      (handle64 0 1).check = 0 ∧ (handle64 0 1).refs ≤ 1) ∧
    (let s := { holding 1 with
        settings := { running.settings with bayPause := false }
        bay := { running.bay with tx := some (.frame 0 copyOf0.wire) }
        pause := { asserted := false, refresh := none, pending := some 0 } };
      s.resetN = true ∧ s.settings.bayPause = false ∧ s.pause.pending = some 0 ∧
      s.bay.tx = some (.frame 0 copyOf0.wire)) ∧
    (let s := { running with
        bay := { running.bay with tx := some (.pause 0 copyOf0.wire) }
        pause := { asserted := false, refresh := none, pending := some 65535 } };
      s.resetN = true ∧ s.bay.tx = some (.pause 0 copyOf0.wire) ∧ s.pause.pending = some 65535) ∧
    (∀ h w, running.bay.tx ≠ some (.frame h w)) ∧ (∀ p w, sending.bay.tx ≠ some (.pause p w)) := by
  refine ⟨by decide, by decide, by decide, fun _ _ => ?_, fun _ _ => ?_⟩ <;> intro h <;> cases h

/-- Handle 0 at the head of one queue of U1, exactly at its Residence Limit of 2 ms, the cursor at a slot. -/
def choosing (slot : Fin 64) (timing general : List QueueEntry) (staged : Bool) : State :=
  { holding 1 with
    stationTime := 6500
    u1 := { running.u1 with
      cursor := slot
      timing := { Queue.empty with entries := timing }
      general := { Queue.empty with entries := general }
      applyPending := staged } }

theorem witness_SlotChoiceStartsTheHead :
    (let s := choosing 7 [entryFor 0] [] false;
      (s.uplink .u1).linkUp = true ∧ (s.uplink .u1).tx = none ∧ SlotClass.timing = (s.uplink .u1).slot ∧
      ((s.uplink .u1).queue .timing).entries = [entryFor 0] ∧ handleOf s 0 = some (handle64 0 1) ∧
      firstBadBlock s (handle64 0 1).blocks = none ∧
      age s.stationTime (handle64 0 1).arrival ≤ uplinkLimit s.settings .timing * 1000) ∧
    (let s := choosing 63 [entryFor 0] [] true;
      (s.uplink .u1).linkUp = true ∧ (s.uplink .u1).tx = none ∧
      ((s.uplink .u1).queue (s.uplink .u1).slot).entries = [] ∧
      (s.uplink .u1).cursor = 63 ∧ (s.uplink .u1).applyPending = true) ∧
    (∀ p, slotRank p < slotRank .timing →
      (((choosing 63 [entryFor 0] [] true).uplink .u1).queue p).entries = []) ∧
    (let s := choosing 63 [] [entryFor 0] true;
      SlotClass.general = (s.uplink .u1).slot ∧ ((s.uplink .u1).queue .general).entries = [entryFor 0] ∧
      uplinkLimit s.settings .general = 0) := by
  refine ⟨by decide +kernel, by decide +kernel, fun p h => ?_, by decide +kernel⟩
  cases p <;> first | rfl | exact absurd h (by decide)

/-- `choosing` with handle 0, its block's check and the time as given. -/
def failing (slot : Fin 64) (r : Handle) (check : Nat) (now : Time) : State :=
  { choosing slot [entryFor 0] [] false with
    stationTime := now
    store := { running.store with
      blocks := [(0, { block64 0 with check := BitVec.ofNat _ check })], handles := [(0, r)] } }

/-- In the slot's queue and by fall-through: quarantined, with a wrong Check, over the limit of 2 ms by one
microsecond, and with a bad block. -/
theorem witness_SlotChoiceStartsTheHead_failing :
    (∀ r k now, (let s := failing 7 r k now;
        (s.uplink .u1).linkUp = true ∧ (s.uplink .u1).tx = none ∧
        ((s.uplink .u1).queue .timing).entries = [entryFor 0] ∧ handleOf s 0 = some r) ∧
      ((failing 63 r k now).uplink .u1).tx = none) ∧
    (SlotClass.timing = ((failing 7 (handle64 0 1) 0 0).uplink .u1).slot ∧
      (let s := failing 63 (handle64 0 1) 0 0; ((s.uplink .u1).queue (s.uplink .u1).slot).entries = []) ∧
      ∀ p, slotRank p < slotRank .timing →
        (((failing 63 (handle64 0 1) 0 0).uplink .u1).queue p).entries = []) ∧
    ({ handle64 0 1 with quarantined := true } : Handle).quarantined = true ∧
    ({ handle64 0 1 with check := 1 } : Handle).check ≠ 0 ∧
    (∀ refs ∈ [1, 2], let r := handle64 0 refs;
      r.quarantined = false ∧ r.check = 0 ∧ UplinkAged (failing 7 r 0 6501) .timing r ∧
      ¬ UplinkAged (failing 7 r 1 6500) .timing r ∧ firstBadBlock (failing 7 r 1 6500) r.blocks = some 0) := by
  refine ⟨fun _ _ _ => ⟨⟨rfl, rfl, rfl, rfl⟩, rfl⟩, ⟨by decide +kernel, by decide +kernel, fun p h => ?_⟩, rfl,
    by decide, ?_⟩
  · cases p <;> first | rfl | exact absurd h (by decide)
  · unfold UplinkAged; decide

/-- R146: the head dropped for its age leaves the cursor, and the next head is started at the same slot. -/
theorem test_uplink_head_fails :
    let t := uplinkChoice .u1 (failing 7 (handle64 0 1) 0 6501)
    (t.u1.tx, t.u1.cursor, t.u1.timing.entries, t.u1.timing.residenceDrops, t.store.handles) =
      (none, 7, [], 1, []) := by decide +kernel

theorem witness_OffersJoinOrAreDropped :
    (let s := choosing 7 (List.replicate 63 (entryFor 0)) (List.replicate 255 (entryFor 0)) false;
      ((s.uplink .u1).queue .timing).entries.length < uplinkCapacity .timing ∧
      ((s.uplink .u1).queue .general).entries.length < uplinkCapacity .general) ∧
    (let s := choosing 7 (List.replicate 64 (entryFor 0)) (List.replicate 256 (entryFor 0)) false;
      uplinkCapacity .timing ≤ ((s.uplink .u1).queue .timing).entries.length ∧
      uplinkCapacity .general ≤ ((s.uplink .u1).queue .general).entries.length) := by decide +kernel

/-- `n` entries wait in the Timing queue of B and `n` in Service. -/
def bayWaiting (n : Nat) : State :=
  { holding 1 with bay := { running.bay with
      timing := { Queue.empty with entries := List.replicate n (entryFor 0) }
      service := { Queue.empty with entries := List.replicate n (entryFor 0) } } }

/-- A handle at the head of B's Timing queue, its block's check and the time as given; the Residence Limit of
2 ms ends at 6,500. -/
def bayHead (r : Handle) (check : Nat) (now : Time) : State :=
  { running with
    stationTime := now
    store := { running.store with
      blocks := [(0, { block64 0 with check := BitVec.ofNat _ check })], handles := [(0, r)] }
    bay := { running.bay with timing := { Queue.empty with entries := [entryFor 0] } } }

theorem witness_BayOffersAndChoice :
    (((bayWaiting 63).bay.queue .timing).entries.length < bayCapacity .timing ∧
      ((bayWaiting 15).bay.queue .service).entries.length < bayCapacity .service) ∧
    (bayCapacity .timing ≤ ((bayWaiting 64).bay.queue .timing).entries.length ∧
      bayCapacity .service ≤ ((bayWaiting 16).bay.queue .service).entries.length) ∧
    (∀ r k now, let s := bayHead r k now;
      s.bay.tx = none ∧ s.pause.pending = none ∧ s.bay.held = false ∧
      (∀ p, bayRank p < bayRank .timing → (s.bay.queue p).entries = []) ∧
      (s.bay.queue .timing).entries = [entryFor 0] ∧ handleOf s 0 = some r) ∧
    (∀ refs ∈ [1, 2], let r := handle64 0 refs;
      (r.quarantined = false ∧ r.check = 0 ∧ ¬ BayAged (bayHead r 0 6500) .timing r ∧
        firstBadBlock (bayHead r 0 6500) r.blocks = none) ∧
      BayAged (bayHead r 0 6501) .timing r ∧
      (firstBadBlock (bayHead r 1 6500) r.blocks = some 0 ∧ ¬ BayAged (bayHead r 1 6500) .timing r)) ∧
    ({ handle64 0 1 with quarantined := true } : Handle).quarantined = true ∧
    ({ handle64 0 1 with check := 1 } : Handle).check ≠ 0 := by
  refine ⟨by decide, by decide, fun r k now => ⟨rfl, rfl, rfl, fun p h => ?_, rfl, rfl⟩, ?_, rfl, by decide⟩
  · cases p <;> first | rfl | exact absurd h (by decide)
  · unfold BayAged; decide +kernel

theorem witness_BayOffersAndChoice_idle :
    sending.bay.tx ≠ none ∧
    ({ running with pause := { running.pause with pending := some 0 } } : State).pause.pending ≠ none ∧
    ({ running with bay := { running.bay with held := true } } : State).bay.held = true ∧
    ∀ q, (running.bay.queue q).entries = [] :=
  ⟨by decide, by decide, rfl, fun q => by cases q <;> rfl⟩

theorem witness_SlotMapsServeEachCountExactly :
    (let c : SlotCounts := { event := 64, timing := 0, stream := 0 };
      c.event + c.timing + c.stream ≤ 64 ∧ c.timing = 0 ∧ c.stream = 0 ∧ c.general = 0) ∧
    (let c : SlotCounts := { event := 0, timing := 0, stream := 0 };
      c.event + c.timing + c.stream ≤ 64 ∧ c.event = 0) := by decide

/-! #### Frames and storage -/

theorem witness_TagRoundTrip : 16 ≤ (List.replicate 16 (0x5A : Octet)).length := by decide

theorem witness_TagInsertionAndRemovalCancel :
    64 ≤ (plain 0x020000000099 station 0x0806).length ∧
    fcsGood (plain 0x020000000099 station 0x0806) = true := by
  simp [plain]

/-- `running` with a General Floor that no frame can keep. -/
def floored : State := { running with settings := { running.settings with generalFloor := 2048 } }

theorem admitBuilt_none (f : List Octet) (h : f.length = 262145) :
    (admitBuilt f .general running).1 = none := by
  have a : admits running f.length 0 0 = false := by rw [h]; decide
  simp [admitBuilt, offerStorage, a]

theorem witness_AdmissionKeepsTheFloors :
    StoreInv running ∧ (∃ h x, admitReceived (List.replicate 64 0) .general none running = some (h, x)) ∧
    admitReceived (List.replicate 64 0) .general none floored = none ∧
    ∃ f : List Octet, (admitBuilt f .general running).1 = none :=
  ⟨storeInv_running, ⟨_, _, rfl⟩, by decide, List.replicate 262145 0,
    admitBuilt_none _ List.length_replicate⟩

theorem fits (f : List Octet) (h : f.length = 262144) : blocksNeeded f.length ≤ freeBlocks running := by
  rw [h]; decide

theorem witness_StoredFramesReadBack :
    StoreInv running ∧ (∃ f : List Octet, blocksNeeded f.length ≤ freeBlocks running) ∧
    1 ≤ freeHandles running ∧
    (∀ b, b ∈ (handle64 0 1).blocks → (Tbl.look (holding 1).store.blocks b).isSome = true) :=
  ⟨storeInv_running, ⟨List.replicate 262144 0, fits _ List.length_replicate⟩, by decide, by decide⟩

/-! #### Events and faults -/

theorem witness_EventsJoinOrAreLost :
    (List.replicate 31 someEvent).length < 32 ∧ 32 ≤ (List.replicate 32 someEvent).length ∧
    ({ running with notices := { running.notices with records := List.replicate 32 someEvent } } :
      State).notices.records.length = 32 := by decide

/-- `oneFault` with Held occupied too and the Excess count at its end. -/
def twoFaults : State :=
  { oneFault with
    faults := { oneFault.faults with
      held := some { kind := .entryCheck, time := 0, location := 292, port := none, cls := none }
      excess := 255 } }

/-- An ENTRY-CHECK report. -/
def entryReport : FaultReport := { kind := .entryCheck, location := 511, port := none, cls := none }

theorem witness_FaultReportsAreCapturedOrEscalate_captured :
    (running.resetN = true ∧ ¬ (handleReport.kind = .handleCheck ∧ running.faults.primary.isSome = true) ∧
      running.faults.primary = none) ∧
    (oneFault.resetN = true ∧ ¬ (entryReport.kind = .handleCheck ∧ oneFault.faults.primary.isSome = true) ∧
      oneFault.faults.primary.isSome = true ∧ oneFault.faults.held = none) ∧
    (twoFaults.resetN = true ∧ ¬ (entryReport.kind = .handleCheck ∧ twoFaults.faults.primary.isSome = true) ∧
      twoFaults.faults.primary.isSome = true ∧ twoFaults.faults.held.isSome = true) := by decide

theorem witness_FaultReportsAreCapturedOrEscalate_severe :
    handleReport.kind = .handleCheck ∧ (oneFault.resetN = true ∧ oneFault.faults.primary.isSome = true) ∧
    (twoFaults.resetN = true ∧ twoFaults.faults.primary.isSome = true) := by decide

theorem witness_FaultAckReturnsThePrimaryRecord :
    (∀ r ∈ [ask 0 0 [], ask 0x0101 65535 []], Admissible .faultAck r twoFaults ∧
      Admissible .faultAck r oneFault ∧ Admissible .faultAck r running ∧ r.count = 0) ∧
    (twoFaults.faults.primary.isSome = true ∧ twoFaults.faults.held.isSome = true) ∧
    (oneFault.faults.primary.isSome = true ∧ oneFault.faults.held = none) ∧ running.faults.primary = none ∧
    (Admissible .faultAck (ask 0 0 [1]) oneFault ∧ (ask 0 0 [1]).count ≠ 0) := by
  unfold Admissible; decide +kernel

/-! #### Requests -/

/-- A request from U1. -/
def fromLine (r : Request) : Request := { r with port := .u1 }

/-- `running` under a Line Access. -/
def underAccess (l : LineAccess) : State := { running with settings := { running.settings with lineAccess := l } }

theorem witness_RequestsAreJudgedInOrder :
    (running.serving = true ∧ 32 < (readOf 0x0101 0 33).count.toNat) ∧
    (ReqKind.write ≠ .read ∧ (readOf 0x0101 0 1).values.length < (readOf 0x0101 0 1).count.toNat) ∧
    (let r := fromLine (ask 0x0101 0 [100]);
      (underAccess .none).serving = true ∧ r.count.toNat ≤ 32 ∧ r.count.toNat ≤ r.values.length ∧
      r.port ≠ .b ∧ (underAccess .none).settings.lineAccess = .none ∧
      (underAccess .read).settings.lineAccess = .read ∧ ReqKind.write ≠ .entryRead ∧
      ReqKind.write ≠ .originRead) ∧
    (quiet.serving = true ∧ (ask 0 1 []).port = .b ∧ quiet.loader.part ≠ .run) ∧
    released.serving = false := by decide

theorem witness_ReadReturnsTheItems :
    (Admissible .read (readOf 0x0999 0 1) running ∧ objectItems running 0x0999 = none) ∧
    (objectItems running 0x0104 = some [8]) ∧
    (Admissible .read (readOf 0x0104 0 0) running ∧ (readOf 0x0104 0 0).count = 0) ∧
    (Admissible .read (readOf 0x0104 1 1) running ∧ (readOf 0x0104 1 1).count ≠ 0 ∧
      [8].length < (readOf 0x0104 1 1).index.toNat + (readOf 0x0104 1 1).count.toNat) ∧
    (Admissible .read (readOf 0x0104 0 1) running ∧
      (readOf 0x0104 0 1).index.toNat + (readOf 0x0104 0 1).count.toNat ≤ [8].length) := by
  unfold Admissible; decide +kernel

theorem witness_WriteSetsOneSetting :
    (Admissible .write (ask 0x0101 0 [64]) running ∧ SettingName.ofObject 0x0101 = some .jumpLimit ∧
      SettingName.jumpLimit.writable = true ∧ (ask 0x0101 0 [64]).index = 0 ∧
      (ask 0x0101 0 [64]).count = 1 ∧ (ask 0x0101 0 [64]).values = [64]) ∧
    [63, 64, 32767, 32768].map (SettingName.jumpLimit.kind.judge false) =
      [none, some (64, false), some (32767, false), none] ∧
    [63, 32768].map (SettingName.jumpLimit.kind.judge true) = [some (64, true), some (32767, true)] ∧
    ((ask 0x0101 1 [64]).index ≠ 0 ∧ (ask 0x0101 0 [64, 64]).count ≠ 1) ∧
    SettingName.u1Speed.writable = false ∧ (∃ o < 0x200, SettingName.ofObject o = some .u1Speed) := by
  unfold Admissible
  refine ⟨by decide, by decide, by decide, by decide, by decide, ?_⟩
  decide +kernel

theorem witness_WriteSetsOneSetting_classifier :
    (∀ o ∈ [0x0042, 0x013F, 0x0148], Admissible .write (ask o 0 [0]) running ∧
      SettingName.ofObject (ask o 0 [0]).object.toNat = none ∧
      ((ask o 0 [0]).object.toNat < 0x0140 ∨ 0x0147 < (ask o 0 [0]).object.toNat)) ∧
    (∀ k ∈ [0, 7], ∀ p ∈ [(0, [0xFFFF, 0xFF, 3, 1]), (3, [1]), (1, [0xFF, 3, 1])],
      let r := ask (0x0140 + k) p.1 p.2;
      Admissible .write r running ∧ SettingName.ofObject r.object.toNat = none ∧ k < 8 ∧
      r.object.toNat = 0x0140 + k ∧ r.count ≠ 0 ∧ r.index.toNat + r.count.toNat ≤ 4 ∧
      (carried r).length ≤ 4 ∧ ∀ i < 4, ((carried r)[i]?).all (fun v =>
        decide (v.toNat ≤ [0xFFFF, 0xFF, 3, 1].getD (r.index.toNat + i) 0)) = true) ∧
    (∀ p ∈ [(0, [0x10000]), (1, [0x100]), (2, [4]), (3, [2])], let r := ask 0x0147 p.1 p.2;
      Admissible .write r running ∧ r.index.toNat + r.count.toNat ≤ 4 ∧
      ∃ v, (carried r)[0]? = some v ∧ [0xFFFF, 0xFF, 3, 1].getD (r.index.toNat + 0) 0 < v.toNat) ∧
    (Admissible .write (ask 0x0147 2 [1, 1, 1]) running ∧
      4 < (ask 0x0147 2 [1, 1, 1]).index.toNat + (ask 0x0147 2 [1, 1, 1]).count.toNat) := by
  unfold Admissible
  refine ⟨by decide +kernel, by decide +kernel, ?_, by decide +kernel⟩
  intro p h
  simp only [List.mem_cons, List.not_mem_nil, or_false] at h
  rcases h with rfl | rfl | rfl | rfl <;> exact ⟨by decide +kernel, by decide, _, rfl, by decide⟩

/-! #### Source Table requests -/

theorem witness_EntryReadReturnsTheEntry :
    (∀ n < 2, ∀ i ∈ [0, 292, 511, 512], Admissible .entryRead (ask n i []) crowded ∧
      (ask n i []).object.toNat ≤ 1 ∧ (ask n i []).count = 0) ∧
    511 < (ask 0 512 []).index.toNat ∧
    ((ask 0 511 []).index.toNat ≤ 511 ∧ entryOf crowded 511 = none) ∧
    (∃ e, entryOf crowded 292 = some e ∧ e.check = 0 ∧
      keyOfValues (carried (ask 1 0 keyP)) = some (e.addr, e.cls)) ∧ TableInv crowded ∧
    (Admissible .entryRead (ask 1 0 keyP) crowded ∧ (ask 1 0 keyP).count = 3) ∧
    keyOfValues (carried (ask 0 0 [0x02B5, 0x0010042C, 5])) = none ∧
    (∃ a c, keyOfValues (carried (ask 0 0 keyP)) = some (a, c) ∧
      ∀ i d, i / 4 = bucketOf a c → entryOf running i = some d → ¬ (d.addr = a ∧ d.cls = c)) := by
  refine ⟨by unfold Admissible; decide +kernel, by decide, by decide, ⟨_, rfl, by decide⟩, tableInv_crowded,
    by unfold Admissible; decide +kernel, by decide, ⟨_, _, rfl, fun i d _ h => ?_⟩⟩
  cases h

theorem tableInv_full3 : TableInv full3 := tableInv_of rfl rfl (by decide) (by decide) (by decide)

/-- The Values of the key of 02-B5-00-10-08-20 in class 2. -/
def keyY : List Value := [0x02B5, 0x00100820, 2]

theorem witness_EntryPinPinsTheKey :
    (∀ v ∈ [keyP, keyP ++ [0], keyP ++ [65535], keyY], Admissible .entryPin (ask 0 0 v) crowded ∧
      (ask 0 0 v).object = 0 ∧ ((ask 0 0 v).count = 3 ∨ (ask 0 0 v).count = 4) ∧
      pinLimit (ask 0 0 v) ≤ 65535) ∧
    (keyOfValues (carried (ask 0 0 keyP)) = some (0x02B50010042C, .timing) ∧ TableInv crowded ∧
      (∀ i d, i / 4 = bucketOf 0x02B50010042C .timing → entryOf crowded i = some d → d.check = 0) ∧
      pinnedInBucket crowded (bucketOf 0x02B50010042C .timing) < 3) ∧
    (keyOfValues (carried (ask 0 0 keyY)) = some (0x02B500100820, .timing) ∧ TableInv full3 ∧
      Admissible .entryPin (ask 0 0 keyY) full3 ∧
      (∀ i d, i / 4 = bucketOf 0x02B500100820 .timing → entryOf full3 i = some d → d.check = 0) ∧
      pinnedInBucket full3 (bucketOf 0x02B500100820 .timing) = 3 ∧
      (∀ i d, entryOf full3 i = some d → d.addr = 0x02B500100820 → d.cls = .timing →
        d.state = .active)) := by
  have a : ∀ p ∈ crowded.filter.entries, p.2.check = 0 := by decide
  have b : ∀ p ∈ full3.filter.entries, p.2.check = 0 ∧ p.2.addr ≠ 0x02B500100820 := by decide
  exact ⟨by unfold Admissible; decide +kernel,
    ⟨by decide, tableInv_crowded, fun i d _ h => a _ (Tbl.mem_of_look h), by decide⟩,
    ⟨by decide, tableInv_full3, by unfold Admissible; decide +kernel, fun i d _ h => (b _ (Tbl.mem_of_look h)).1,
      by decide, fun i d h ha => absurd ha (b _ (Tbl.mem_of_look h)).2⟩⟩

theorem witness_EntryUnpinAndRemove :
    ((ask 0 0 keyP).object = 0 ∧ (ask 0 0 keyP).count = 3 ∧ TableInv crowded ∧
      Admissible .entryUnpin (ask 0 0 keyP) crowded ∧ Admissible .entryRemove (ask 0 0 keyP) crowded ∧
      ∃ e, entryOf crowded 292 = some e ∧ keyOfValues (carried (ask 0 0 keyP)) = some (e.addr, e.cls) ∧
        e.check = 0 ∧ e.state = .pinned) ∧
    (∃ e, entryOf crowded 294 = some e ∧ keyOfValues (carried (ask 0 0 keyY)) = some (e.addr, e.cls) ∧
      e.check = 0 ∧ e.state = .active) ∧
    (TableInv running ∧ Admissible .entryUnpin (ask 0 0 keyP) running ∧
      Admissible .entryRemove (ask 0 0 keyP) running ∧
      ∃ a c, keyOfValues (carried (ask 0 0 keyP)) = some (a, c) ∧
        ∀ i d, entryOf running i = some d → ¬ (d.addr = a ∧ d.cls = c)) := by
  refine ⟨⟨rfl, rfl, tableInv_crowded, by unfold Admissible; decide +kernel, by unfold Admissible; decide +kernel,
    _, rfl, by decide⟩, ⟨_, rfl, by decide⟩, tableInv_running, by unfold Admissible; decide +kernel,
    by unfold Admissible; decide +kernel, _, _, rfl, fun i d h => ?_⟩
  cases h

theorem witness_FlushTableKeepsThePinnedKeys :
    (Admissible .flushTable (ask 0 0 []) crowded ∧ Tbl.wf crowded.filter.entries = true) ∧
    (∃ e, entryOf crowded 292 = some e ∧ e.state = .pinned ∧ e.check = 0) ∧
    (∃ e, entryOf crowded 294 = some e ∧ e.state = .active) ∧ entryOf crowded 293 = none :=
  ⟨by unfold Admissible; decide +kernel, ⟨_, rfl, by decide⟩, ⟨_, rfl, by decide⟩, by decide⟩

/-! #### Origin Table requests -/

/-- An Origin entry of an address. -/
def originFor (st : OriginState) (a : Nat) : OriginEntry := { zero with state := st, addr := BitVec.ofNat 48 a }

/-- `running` with entry 1 LEARNED and entry 2 PINNED. -/
def originThree : State :=
  { running with
    pairing := { running.pairing with
      entries := [(0, zero), (1, originFor .learned 0x020000000001), (2, originFor .pinned 0x020000000002)]
      originInUse := 3, originPinned := 2 } }

theorem originInv_originThree : OriginInv originThree :=
  originInv_of zero rfl rfl (by decide) (by decide) (by decide)

theorem witness_OriginRequestsOnOneAddress :
    OriginInv originThree ∧
    ((ask 0 0 [0x0200, 1]).object = 0 ∧ (ask 0 0 [0x0200, 1]).count = 2) ∧
    (Admissible .originRead (ask 0 0 [0x0200, 1]) originThree ∧
      Admissible .originPin (ask 0 0 [0x0200, 1]) originThree ∧
      Admissible .originRemove (ask 0 0 [0x0200, 1]) originThree) ∧
    (∃ e, originOf originThree 1 = some e ∧ addrOfValues (carried (ask 0 0 [0x0200, 1])) = some e.addr ∧
      e.check = 0 ∧ e.state = .learned) ∧
    (∃ e, originOf originThree 2 = some e ∧ addrOfValues (carried (ask 0 0 [0x0200, 2])) = some e.addr ∧
      e.check = 0 ∧ e.state = .pinned) ∧
    (∃ e, originOf originThree 0 = some e ∧
      addrOfValues (carried (ask 0 0 [0x02B5, 0xE0000009])) = some e.addr ∧ e.check = 0) :=
  ⟨originInv_originThree, by decide, by unfold Admissible; decide +kernel, ⟨_, rfl, by decide⟩, ⟨_, rfl, by decide⟩,
    ⟨_, rfl, by decide⟩⟩

/-- `running` with a full Origin Table. -/
def originFull : State :=
  { running with
    pairing := { running.pairing with
      entries := (0, zero) :: (List.range' 1 63).map fun i => (i, originFor .learned (0x020000001000 + i))
      originInUse := 64 } }

theorem witness_OriginRequestsOnAnUnknownAddress :
    ((ask 0 0 [0x0200, 1]).object = 0 ∧ (ask 0 0 [0x0200, 1]).count = 2 ∧
      addrOfValues (carried (ask 0 0 [0x0200, 1])) = some 0x020000000001) ∧
    ((∀ p ∈ running.pairing.entries, p.2.addr ≠ 0x020000000001) ∧
      Admissible .originRead (ask 0 0 [0x0200, 1]) running ∧
      Admissible .originPin (ask 0 0 [0x0200, 1]) running ∧
      Admissible .originRemove (ask 0 0 [0x0200, 1]) running ∧ originOf running 1 = none) ∧
    (originOf { originFull with pairing := { originFull.pairing with
        entries := Tbl.del originFull.pairing.entries 63 } } 63 = none) ∧
    ((∀ p ∈ originFull.pairing.entries, p.2.addr ≠ 0x020000000001) ∧
      Admissible .originPin (ask 0 0 [0x0200, 1]) originFull ∧
      ∀ i < 64, (originOf originFull i).isSome = true) := by
  unfold Admissible; decide +kernel

/-! #### Requests on egress, counters and the part -/

theorem witness_SlotAndInjectRequests :
    (∀ u ∈ [Uplink.u1, .u2], ∀ v ∈ [[64, 0, 0], [64, 0, 1]],
      Admissible .slotStage (ask 0 (pathNumber u) v) running ∧ (ask 0 (pathNumber u) v).object = 0 ∧
      (ask 0 (pathNumber u) v).count = 3 ∧ (ask 0 (pathNumber u) v).index.toNat = pathNumber u ∧
      carried (ask 0 (pathNumber u) v) = v ∧ (running.uplink u).applyPending = false) ∧
    ((choosing 7 [] [] true).uplink .u1).applyPending = true ∧
    (Admissible .slotApply (ask 0 1 []) running ∧ (ask 0 1 []).count = 0 ∧ (ask 0 1 []).index.toNat = 1) ∧
    ((ask 0 0 []).index.toNat ≠ 1 ∧ (ask 0 3 []).index.toNat ≠ 2) ∧
    (Admissible .inject (ask 0 0 [3, 0xFF, 2, 1]) running ∧ (ask 0 0 [3, 0xFF, 2, 1]).count = 4 ∧
      carried (ask 0 0 [3, 0xFF, 2, 1]) = [val (targetCode .both), val (filterCode none),
        val (modeCode .continuous), val (kindCode .fcsCorrupt)]) ∧
    injectionOf (carried (ask 0 0 [4, 0xFF, 2, 1])) = none ∧
    injectionOf (carried (ask 0 0 [3, 5, 2, 1])) = none := by
  unfold Admissible; decide +kernel

theorem witness_ClearCountersClearsOneGroup :
    ∀ g ∈ [0, 1, 2, 3, 4, 5, 6], Admissible .clearCounters (ask 0 g []) crowded ∧
      (ask 0 g []).object = 0 ∧ (ask 0 g []).count = 0 ∧ (ask 0 g []).index.toNat = g := by
  unfold Admissible; decide +kernel

theorem witness_RepliesAreDelivered :
    (StoreInv running ∧ ∀ r ∈ [ask 0 0 [], fromLine (ask 0 0 [])],
      blocksNeeded (replyOctets 0x0F r (okValues r []) running).length ≤ freeBlocks running) ∧
    1 ≤ freeHandles running ∧ ((ask 0 0 []).port = .b ∧ running.bay.service.entries.length < 16) ∧
    ((fromLine (ask 0 0 [])).port ≠ .b ∧ running.u1.linkUp = true ∧ running.u2.linkUp = true ∧
      running.u1.timing.entries.length < 64 ∧ running.u2.timing.entries.length < 64 ∧
      originOf running 0 = some zero ∧ zero.check = 0) :=
  ⟨⟨storeInv_running, by decide +kernel⟩, by decide, by decide, by decide⟩

/-! #### Arrivals -/

/-- A first copy on U1. -/
def firstCopy : List Octet := tagged .u1 0x02B50010042C .timing 9

/-- The tag of a copy of it. -/
def copyTag (u : Uplink) : Tag := { seq := 9, path := u, epoch := 5, cls := .timing, interval := 1 }

theorem fcsGood_tagged (u : Uplink) (a : Address) (c : TClass) (n : Nat) :
    fcsGood (tagged u a c n) = true := by unfold tagged; exact fcsGood_withFcs _

theorem fcsGood_plain (d a : Address) (t : Nat) : fcsGood (plain d a t) = true := by
  unfold plain; exact fcsGood_withFcs _

theorem witness_FirstCopyReachesTheBay :
    (running.serving = true ∧ StoreInv running ∧ TableInv running ∧ fcsGood firstCopy = true) ∧
    (64 ≤ firstCopy.length ∧ firstCopy.length ≤ 1528 ∧
      (walkUplink running.settings.tagMarker firstCopy).tagged = true ∧
      isPause (walkUplink running.settings.tagMarker firstCopy) firstCopy = false ∧
      (readTag firstCopy).valid ((walkUplink running.settings.tagMarker firstCopy).type firstCopy)
        running.settings.presenceMarker = some (copyTag .u1) ∧
      (copyTag .u1).path = .u1 ∧ (copyTag .u1).cls ≠ .presence ∧
      isOwnOrigin running (sourceOf firstCopy) = false ∧
      destOf firstCopy ≠ running.loader.stationAddress ∧ 1 ≤ running.settings.missLimit ∧
      admits running firstCopy.length (blockFloor running.settings .timing)
        (handleFloor running.settings .timing) = true ∧
      (running.bay.queue (bayQueueOf .timing)).entries.length < bayCapacity (bayQueueOf .timing)) ∧
    (∀ i d, entryOf running i = some d → False) :=
  ⟨⟨rfl, storeInv_running, tableInv_running, fcsGood_tagged _ _ _ _⟩, by decide +kernel,
    fun i d h => by cases h⟩

/-- The entry a first copy on U1 has left: its second copy is due on U2. -/
def awaiting : Entry :=
  { newEntry 0x02B50010042C .timing .active none 4000 with
    window := some { head := 10, seen := 3, epoch := 5, prevEpoch := none, lastAccept := 4000 }
    twins := [{ seq := 9, firstPath := .u1, firstTime := 4000 }]
    accepted := 2 }

/-- `running` with that entry. -/
def awaitingTwin : State :=
  { running with filter := { running.filter with entries := [(292, awaiting)], entriesInUse := 1 } }

theorem tableInv_awaitingTwin : TableInv awaitingTwin := tableInv_of rfl rfl (by decide) (by decide) (by decide)

theorem witness_SecondCopyIsDiscarded :
    let f := tagged .u2 0x02B50010042C .timing 9
    (awaitingTwin.serving = true ∧ StoreInv awaitingTwin ∧ TableInv awaitingTwin ∧ fcsGood f = true) ∧
    (64 ≤ f.length ∧ f.length ≤ 1528 ∧ (walkUplink awaitingTwin.settings.tagMarker f).tagged = true ∧
      isPause (walkUplink awaitingTwin.settings.tagMarker f) f = false ∧
      (readTag f).valid ((walkUplink awaitingTwin.settings.tagMarker f).type f)
        awaitingTwin.settings.presenceMarker = some (copyTag .u2) ∧
      isOwnOrigin awaitingTwin (sourceOf f) = false ∧
      admits awaitingTwin f.length (blockFloor awaitingTwin.settings .timing)
        (handleFloor awaitingTwin.settings .timing) = true ∧
      entryOf awaitingTwin 292 = some awaiting ∧ awaiting.addr = sourceOf f ∧ awaiting.cls = .timing ∧
      awaiting.check = 0) ∧
    (∃ w, awaiting.window = some w ∧ (copyTag .u2).epoch = w.epoch ∧
      age awaitingTwin.stationTime w.lastAccept ≤ awaitingTwin.settings.windowHold * 1000 ∧
      -63 ≤ seqDiff 9 w.head ∧ seqDiff 9 w.head ≤ -1 ∧ w.seen.getLsbD (-(seqDiff 9 w.head)).toNat = true) ∧
    (∃ r, awaiting.twins = [r] ∧ r.seq = 9 ∧ r.firstPath = other .u2 ∧
      age awaitingTwin.stationTime r.firstTime ≤ awaitingTwin.settings.twinTimeout * 1000) :=
  ⟨⟨rfl, storeInv_running, tableInv_awaitingTwin, fcsGood_tagged _ _ _ _⟩, by decide +kernel,
    ⟨_, rfl, by decide⟩, ⟨_, rfl, by decide⟩⟩

/-- A bay frame from the address of entry 0, of no Type the classifier names. -/
def bayData : List Octet := plain 0x020000000099 station 0x0806

/-- The hypotheses that PairedBayFrameIsCopiedToBothUplinks and BayFramesOutsidePairing share. -/
def BayDataPasses (s : State) : Prop :=
  64 ≤ bayData.length ∧ bayData.length ≤ 1522 ∧ u16At bayData 12 ≠ s.settings.tagMarker ∧
  isPause (walkBay bayData) bayData = false ∧ destOf bayData ≠ s.loader.stationAddress ∧
  classify s.settings ((walkBay bayData).type bayData) (walkBay bayData).priority = .general ∧
  admits s bayData.length (blockFloor s.settings .general) (handleFloor s.settings .general) = true

/-- With both links UP, with one, and with neither. -/
theorem witness_PairedBayFrameIsCopiedToBothUplinks :
    (∀ s ∈ [running, { running with u2 := UplinkEgress.reset }, linksDown],
      s.resetN = true ∧ s.loader.part = .run ∧ BayDataPasses s ∧
      pairedDecision s.settings ((walkBay bayData).type bayData) (walkBay bayData).priority = true ∧
      originOf s 0 = some zero ∧ zero.addr = sourceOf bayData ∧ zero.check = 0 ∧
      s.pairing.injection.mode = .off ∧ s.u1.general.entries.length < uplinkCapacity .general ∧
      s.u2.general.entries.length < uplinkCapacity .general) ∧
    (StoreInv running ∧ StoreInv linksDown ∧ fcsGood bayData = true) ∧
    (OriginInv running ∧ OriginInv linksDown) ∧ (anyLinkUp running = true ∧ anyLinkUp linksDown = false) :=
  ⟨by unfold BayDataPasses; decide +kernel, ⟨storeInv_running, storeInv_running, fcsGood_plain _ _ _⟩,
    ⟨originInv_running, originInv_of zero rfl rfl (by decide) (by decide) (by decide)⟩, by decide⟩

/-- `quiet` with no Origin entry for the bay frame's address but entry 0's, changed; nothing paired. -/
def unpairing (s : State) : State := { s with settings := { s.settings with pairGeneral := false } }

theorem witness_BayFramesOutsidePairing :
    (∀ s ∈ [quiet, unpairing quiet, unpairing running, unpairing { running with u1 := UplinkEgress.reset }],
      s.serving = true ∧ BayDataPasses s ∧ originOf s 0 = some zero ∧ zero.addr = sourceOf bayData ∧
      zero.check = 0) ∧
    (StoreInv quiet ∧ OriginInv quiet ∧ OriginInv (unpairing running) ∧ fcsGood bayData = true) ∧
    (quiet.loader.part = .quiet ∧
      pairedDecision quiet.settings ((walkBay bayData).type bayData) (walkBay bayData).priority = true) ∧
    pairedDecision (unpairing running).settings ((walkBay bayData).type bayData) (walkBay bayData).priority =
      false ∧
    (let f := plain 0x020000000099 0x020000000001 0x0806;
      originOf quiet 1 = none ∧ sourceOf f = 0x020000000001 ∧
      (quiet.pairing.entries.all fun p => p.2.addr != sourceOf f) = true ∧
      isPause (walkBay f) f = false ∧ f.length = 64) :=
  ⟨by unfold BayDataPasses; decide +kernel,
    ⟨storeInv_running, originInv_of zero rfl rfl (by decide) (by decide) (by decide),
      originInv_of zero rfl rfl (by decide) (by decide) (by decide), fcsGood_plain _ _ _⟩,
    by decide +kernel, by decide +kernel, by decide +kernel⟩

/-- `running` under an Injection Control. -/
def injecting (t : InjectTarget) (c : Option TClass) (m : InjectMode) (k : InjectKind) : State :=
  { running with pairing := { running.pairing with
      injection := { target := t, filter := c, mode := m, kind := k } } }

/-- The three ways a paired frame is numbered. -/
theorem witness_BayFramesOutsidePairing_numbers :
    let f := plain 0x020000000099 0x020000000001 0x0806
    Numbers running (sourceOf bayData) .general 0 3 ∧ Numbers running (sourceOf f) .general 0 5 ∧
    Numbers originFull (sourceOf f) .general originFull.pairing.overflowSequence 4 ∧
    OriginInv originFull := by
  have a : sourceOf (plain 0x020000000099 0x020000000001 0x0806) = 0x020000000001 := by decide +kernel
  have b : ∀ p ∈ running.pairing.entries, p.2.addr ≠ 0x020000000001 := by decide
  have c : ∀ p ∈ originFull.pairing.entries, p.2.addr ≠ 0x020000000001 := by decide +kernel
  refine ⟨Or.inl ⟨0, zero, rfl, by decide +kernel, rfl, rfl, rfl⟩, ?_, ?_, ?_⟩
  · rw [a]
    exact Or.inr ⟨fun i e h => b _ (Tbl.mem_of_look h), Or.inl ⟨⟨1, by decide, by decide, rfl⟩, rfl, rfl⟩⟩
  · rw [a]
    refine Or.inr ⟨fun i e h => c _ (Tbl.mem_of_look h), Or.inr ⟨fun i h k => ?_, rfl, rfl⟩⟩
    have d : ∀ i < 64, (originOf originFull i).isSome = true := by decide +kernel
    exact d i (by omega)
  · exact originInv_of zero rfl rfl (by decide +kernel) (by decide) (by decide)

theorem witness_BayFramesOutsidePairing_injection :
    (∀ s ∈ [injecting .both none .once .omit, injecting .u1 (some .general) .continuous .omit,
        injecting .u2 none .once .seqOffset, injecting .u1 (some .timing) .once .fcsCorrupt,
        injecting .both none .off .fcsCorrupt, originFull],
      s.serving = true ∧ s.loader.part = .run ∧ BayDataPasses s ∧
      pairedDecision s.settings ((walkBay bayData).type bayData) (walkBay bayData).priority = true ∧
      s.u1.linkUp = true ∧ s.u2.linkUp = true ∧ s.u1.general.entries = [] ∧ s.u2.general.entries = []) ∧
    (∀ k, Injects (injecting .both none .once k) .general ∧
      Injects (injecting .u1 (some .general) .continuous k) .general ∧
      ¬ Injects (injecting .u1 (some .timing) .once k) .general ∧
      ¬ Injects (injecting .both none .off k) .general ∧
      ¬ Injects { injecting .u2 none .once k with u2 := UplinkEgress.reset } .general) := by
  refine ⟨by unfold BayDataPasses; decide +kernel, fun k => ⟨⟨by simp [injecting], Or.inl rfl, .u1, rfl, rfl⟩,
    ⟨by simp [injecting], Or.inr rfl, .u1, rfl, rfl⟩, ?_, ?_, ?_⟩⟩
  · rintro ⟨_, h | h, _⟩ <;> cases h
  · rintro ⟨h, _⟩
    exact h rfl
  · rintro ⟨_, _, u, h, l⟩
    cases u
    · cases h
    · cases l

/-- A presence frame of the part itself, by path. -/
def ownPresenceFrame (p : Uplink) : List Octet :=
  withFcs (addrOctets 0x01B5E0000001 ++ addrOctets station ++
    tagOctets 0x8BE2 { seq := 0, path := none, epoch := 3, cls := .presence, interval := 100 } false p ++
    [0x8B, 0xE4] ++ addrOctets station ++ List.replicate 34 0)

theorem witness_ArrivalsThatStopAtTheIntake_uplink :
    (running.resetN = true ∧ fcsGood [] = false) ∧
    (∀ n ∈ [59, 1519], fcsGood (withFcs (List.replicate n 0)) = true ∧
      (walkUplink running.settings.tagMarker (withFcs (List.replicate n 0))).tagged = false ∧
      ((withFcs (List.replicate n 0)).length < 64 ∨ 1522 < (withFcs (List.replicate n 0)).length)) ∧
    (fcsGood (bayPauseFrame 0) = true ∧
      isPause (walkUplink running.settings.tagMarker (bayPauseFrame 0)) (bayPauseFrame 0) = true ∧
      (bayPauseFrame 0).length = 64) ∧
    (∀ p ∈ [Uplink.u1, .u2], let f := ownPresenceFrame p;
      f.length = 64 ∧ isPause (walkUplink running.settings.tagMarker f) f = false ∧
      (walkUplink running.settings.tagMarker f).tagged = true ∧
      (readTag f).valid ((walkUplink running.settings.tagMarker f).type f)
        running.settings.presenceMarker =
        some { seq := 0, path := p, epoch := 3, cls := .presence, interval := 100 } ∧
      presenceIdentity (walkUplink running.settings.tagMarker f) f = running.loader.stationAddress ∧
      running.loader.part ≠ .loading) := by
  refine ⟨by decide, fun n h => ⟨fcsGood_withFcs _, ?_⟩, ⟨fcsGood_withFcs _, by decide +kernel⟩,
    by decide +kernel⟩
  revert n; decide +kernel

theorem fcsGood_ownPresenceFrame (p : Uplink) : fcsGood (ownPresenceFrame p) = true := by
  unfold ownPresenceFrame; exact fcsGood_withFcs _

theorem witness_ArrivalsThatStopAtTheIntake_bay :
    (running.resetN = true ∧ running.loader.part ≠ .loading ∧ running.settings.honorPause = true) ∧
    (∀ q ∈ [0, 1, 65535], 64 ≤ (bayPauseFrame q).length ∧ (bayPauseFrame q).length ≤ 1522 ∧
      u16At (bayPauseFrame q) 12 ≠ running.settings.tagMarker ∧
      isPause (walkBay (bayPauseFrame q)) (bayPauseFrame q) = true ∧
      pauseQuanta (walkBay (bayPauseFrame q)) (bayPauseFrame q) = BitVec.ofNat 16 q) ∧
    ({ running with settings := { running.settings with honorPause := false } } :
      State).settings.honorPause = false := by
  decide +kernel

/-- A frame on U1 with a tag error: its Path is 0. -/
def pathless : List Octet :=
  withFcs (addrOctets 0x020000000099 ++ addrOctets 0x02B50010042C ++ [0x8B, 0xE2, 0, 9, 0x2A, 1] ++
    [0x08, 0x00] ++ List.replicate 46 0x5A)

theorem fcsGood_pathless : fcsGood pathless = true := by unfold pathless; exact fcsGood_withFcs _

theorem tagPasses_firstCopy {s : State} (h : s.settings.tagMarker = 0x8BE2)
    (k : s.settings.presenceMarker = 0x8BE4) : TagPasses .u1 firstCopy (copyTag .u1) s := by
  unfold TagPasses
  rw [h, k]
  exact ⟨fcsGood_tagged _ _ _ _, by decide +kernel, by decide +kernel, by decide +kernel, by decide +kernel,
    by decide +kernel, rfl, fun e => absurd e (by decide)⟩

theorem untaggedPasses_plain (d a : Address) (t : Nat) (s : State)
    (h : 64 ≤ (plain d a t).length ∧ (plain d a t).length ≤ 1522 ∧
      (walkUplink s.settings.tagMarker (plain d a t)).tagged = false ∧
      isPause (walkUplink s.settings.tagMarker (plain d a t)) (plain d a t) = false) :
    UntaggedPasses (plain d a t) s := ⟨fcsGood_plain _ _ _, h⟩

theorem bayPasses_plain (d a : Address) (t : Nat) (s : State)
    (h : s.serving = true ∧ 64 ≤ (plain d a t).length ∧ (plain d a t).length ≤ 1522 ∧
      u16At (plain d a t) 12 ≠ s.settings.tagMarker ∧ isPause (walkBay (plain d a t)) (plain d a t) = false) :
    BayPasses (plain d a t) s := ⟨h.1, fcsGood_plain _ _ _, h.2⟩

/-- `running` with Pass Untagged as given. -/
def passing (b : Bool) : State := { running with settings := { running.settings with passUntagged := b } }

/-- Whether no Origin entry holds an address. -/
def strange (a : Address) (s : State) : Bool := s.pairing.entries.all fun p => p.2.addr != a

theorem not_origin_of_strange {a : Address} {s : State} (h : strange a s = true) :
    ∀ i e, (i, e) ∈ s.pairing.entries → e.addr ≠ a := by
  intro i e m k
  have := List.all_eq_true.mp h (i, e) m
  simp [k] at this

/-- A tag error, a path mismatch, an own presence frame in LOADING, a source of the part's own bay, and LOADING. -/
theorem witness_ArrivalsThatStopAtTheIntake_tests :
    (running.resetN = true ∧ released.resetN = true ∧ released.loader.part = .loading) ∧
    (fcsGood pathless = true ∧ 64 ≤ pathless.length ∧ pathless.length ≤ 1528 ∧
      (walkUplink running.settings.tagMarker pathless).tagged = true ∧
      isPause (walkUplink running.settings.tagMarker pathless) pathless = false ∧
      (readTag pathless).valid ((walkUplink running.settings.tagMarker pathless).type pathless)
        running.settings.presenceMarker = none) ∧
    (TagPasses .u1 firstCopy (copyTag .u1) running ∧ (copyTag .u1).path ≠ .u2 ∧
      (copyTag .u1).cls ≠ .presence) ∧
    (∀ p ∈ [Uplink.u1, .u2], presenceIdentity (walkUplink released.settings.tagMarker (ownPresenceFrame p))
      (ownPresenceFrame p) = released.loader.stationAddress) ∧
    (UntaggedPasses (plain 0x020000000099 station 0x0800) running ∧ (0, zero) ∈ running.pairing.entries ∧
      zero.addr = sourceOf (plain 0x020000000099 station 0x0800)) ∧
    (TagPasses .u1 firstCopy (copyTag .u1) released ∧
      ∀ i e, (i, e) ∈ released.pairing.entries → e.addr ≠ sourceOf firstCopy) :=
  ⟨by decide, ⟨fcsGood_pathless, by decide +kernel⟩, ⟨tagPasses_firstCopy rfl rfl, by decide, by decide⟩,
    by decide +kernel, ⟨untaggedPasses_plain _ _ _ _ (by decide +kernel), by decide, by decide +kernel⟩,
    tagPasses_firstCopy rfl rfl, not_origin_of_strange rfl⟩

/-- Untagged frames and frames to the station address. -/
theorem witness_ArrivalsThatStopAtTheIntake_station :
    (∀ b, UntaggedPasses (plain station 0x020000000001 0x0806) (passing b) ∧
      (passing b).settings.passUntagged = b ∧ (passing b).loader.part ≠ .loading) ∧
    (∀ i e, (i, e) ∈ running.pairing.entries → e.addr ≠ sourceOf (plain station 0x020000000001 0x0806)) ∧
    destOf (plain station 0x020000000001 0x0806) = running.loader.stationAddress ∧
    (BayPasses (plain station 0x020000000001 0x0806) running ∧
      (walkBay (plain station 0x020000000001 0x0806)).type (plain station 0x020000000001 0x0806) ≠
        running.settings.managementMarker) ∧
    (u16At firstCopy 12 = running.settings.tagMarker ∧ 64 ≤ firstCopy.length ∧ firstCopy.length ≤ 1522) ∧
    (u16At bayData 12 ≠ released.settings.tagMarker ∧ released.loader.part = .loading) := by
  refine ⟨fun b => ?_, not_origin_of_strange (by decide +kernel), by decide +kernel,
    ⟨bayPasses_plain _ _ _ _ (by decide +kernel), by decide +kernel⟩, by decide +kernel, by decide +kernel⟩
  cases b <;> exact ⟨untaggedPasses_plain _ _ _ _ (by decide +kernel), rfl, by decide⟩

/-- B Held with an aged head in Stream behind a young one in Event. -/
def heldBay : State :=
  { running with
    stationTime := 10000000
    store := { running.store with
      blocks := [(0, block64 0), (1, block64 1)]
      handles := [(0, handleOfAge 0 .event 9999999), (1, handleOfAge 1 .stream 0)] }
    bay := { running.bay with
      held := true, pauseTimer := some 5
      event := { Queue.empty with entries := [entryFor 0] }
      stream := { Queue.empty with entries := [entryFor 1] } } }

theorem witness_ArrivalsThatStopAtTheIntake_held :
    (heldBay.resetN = true ∧ heldBay.loader.part ≠ .loading ∧ heldBay.settings.honorPause = true ∧
      heldBay.bay.held = true ∧ running.bay.held = false) ∧
    (BayAged heldBay .stream (handleOfAge 1 .stream 0) ∧
      ¬ BayAged heldBay .event (handleOfAge 0 .event 9999999)) := by
  unfold BayAged; decide

/-- 7.4: the quanta 0 that ends a hold drops the aged Stream head, though an Event frame is started first
(log 36). With no hold running it screens nothing, and the Stream head waits behind the Event frame (log 37). -/
theorem test_quanta_zero_screens :
    let t := after (.bayArrival (bayPauseFrame 0)) heldBay
    let x := after (.bayArrival (bayPauseFrame 0)) { heldBay with bay := { heldBay.bay with held := false } }
    (t.bay.held, t.bay.stream.entries, t.bay.stream.residenceDrops, t.store.handles.map Prod.fst) =
      (false, [], 1, [0]) ∧
    (match t.bay.tx with
      | some (.frame h _) => h
      | _ => 9) = 0 ∧
    (x.bay.stream.entries, x.bay.stream.residenceDrops) = ([entryFor 1], 0) := by decide +kernel

/-- A tagged frame of class 2 to the station, of a Type. -/
def toStation (type : Nat) : List Octet :=
  withFcs (addrOctets station ++ addrOctets 0x02B50010042C ++
    tagOctets 0x8BE2
      { seq := 9, path := none, epoch := 5, cls := .timing, interval := 1 } false .u1 ++
    beOctets 2 type ++ List.replicate 46 0x5A)

theorem fcsGood_toStation (t : Nat) : fcsGood (toStation t) = true := by
  unfold toStation; exact fcsGood_withFcs _

theorem witness_ArrivalsReachTheBayAndTheAgent_untagged :
    let f := plain 0x020000000099 0x020000000001 0x0806
    (∀ g ∈ [0, 2048], let s := { running with settings := { running.settings with generalFloor := g } };
      s.serving = true ∧ s.settings.passUntagged = true ∧ destOf f ≠ s.loader.stationAddress ∧
      classify s.settings ((walkUplink s.settings.tagMarker f).type f)
        (walkUplink s.settings.tagMarker f).priority = .general ∧
      strange (sourceOf f) s = true ∧
      admits s f.length (blockFloor s.settings .general) (handleFloor s.settings .general) = (g == 0)) ∧
    (UntaggedPasses f running ∧ UntaggedPasses f floored ∧ StoreInv running) ∧
    (∀ n, ((bayWaiting n).bay.queue .timing).entries.length = n) :=
  ⟨by decide +kernel, ⟨untaggedPasses_plain _ _ _ _ (by decide +kernel),
    untaggedPasses_plain _ _ _ _ (by decide +kernel), storeInv_running⟩, fun n => by simp [bayWaiting, BayEgress.queue]⟩

theorem witness_ArrivalsReachTheBayAndTheAgent_bay :
    let f := plain station 0x020000000001 0x8BE3
    (BayPasses f running ∧ BayPasses f floored ∧ StoreInv running) ∧
    (destOf f = running.loader.stationAddress ∧ (walkBay f).type f = running.settings.managementMarker ∧
      admits running f.length running.settings.generalFloor running.settings.generalHandleFloor = true ∧
      admits floored f.length floored.settings.generalFloor floored.settings.generalHandleFloor = false) :=
  ⟨⟨bayPasses_plain _ _ _ _ (by decide +kernel), bayPasses_plain _ _ _ _ (by decide +kernel),
    storeInv_running⟩, by decide +kernel⟩

theorem witness_ArrivalsReachTheBayAndTheAgent_uplink :
    ∀ t ∈ [0x8BE3, 0x0800], let f := toStation t;
      TagPasses .u1 f (copyTag .u1) running ∧ strange (sourceOf f) running = true ∧
      destOf f = running.loader.stationAddress ∧
      admits running f.length (blockFloor running.settings .timing) (handleFloor running.settings .timing) =
        true ∧
      goesOn running.settings
        (screen (copyTag .u1) (sourceOf f)
          (storeFrame f .timing
            (some { seq := 9, path := some .u1, epoch := 5, cls := .timing, interval := 1 })
            (running.onPort .u1 fun c => { c with framesReceived := c.framesReceived + 1 }))).2.1 = true ∧
      ((walkUplink running.settings.tagMarker f).type f = running.settings.managementMarker ↔ t = 0x8BE3) := by
  intro t h
  unfold TagPasses
  simp only [List.mem_cons, List.not_mem_nil, or_false] at h
  rcases h with rfl | rfl <;>
    exact ⟨⟨fcsGood_toStation _, by decide +kernel⟩, by decide +kernel⟩

/-- Codes of a reply, of a kind and of no kind. -/
theorem witness_ArrivalsReachTheBayAndTheAgent_codes :
    0x80 ≤ (0x80 : Octet).toNat ∧ (0x11 : Octet) = ReqKind.reset.code ∧ (0x7F : Octet).toNat < 0x80 ∧
    ∀ k : ReqKind, (0x7F : Octet) ≠ k.code ∧ (0x12 : Octet) ≠ k.code := by
  refine ⟨by decide, rfl, by decide, fun k => ?_⟩
  cases k <;> decide

/-! #### Duplicate Filter and path health -/

theorem witness_SequenceBands :
    (64 ≤ 64 ∧ 64 ≤ 32767 ∧ 32767 ≤ 32767) ∧
    (let w : Window := { head := 0, seen := 0x8000000000000001, epoch := 0, prevEpoch := none,
                         lastAccept := 0 };
      [0, 1, 64, 65, -63, -62, -64, -65].map (fun d : Int => seqDiff (BitVec.ofInt 16 d) w.head) =
        [0, 1, 64, 65, -63, -62, -64, -65] ∧
      w.seen.getLsbD 63 = true ∧ w.seen.getLsbD 62 = false ∧
      [0, 1, 64, 65, -63, -62, -64, -65].map (fun d : Int => sequenceVerdict 64 w (BitVec.ofInt 16 d)) =
        [.repeated, .ahead, .ahead, .sequenceJump, .repeated, .late, .stale, .sequenceJump]) := by
  decide

theorem witness_AnAcceptedSequenceRepeats :
    ∃ y v ev, screenEntry running.settings 10100 { seq := 3, path := .u1, epoch := 5, cls := .stream, interval := 0 }
      { entry := wrapping, counters := FilterCounters.zero } = (y, v, ev) ∧ v.accepting = true ∧
      age 510100 10100 ≤ running.settings.windowHold * 1000 :=
  ⟨_, _, _, rfl, by decide, by decide⟩

/-- An entry with a window at Head 1,000, Epoch 5 before which Epoch 4 was, last accepted at 4,000. -/
def inForce (twins : List Twin) : Entry :=
  { newEntry 0x02B50010042C .timing .active none 0 with
    window := some { head := 1000, seen := 1, epoch := 5, prevEpoch := some 4, lastAccept := 4000 }
    twins := twins }

/-- A twin record first seen on U1 at 4,000; the Twin Timeout of 20 ms ends at 24,000. -/
def twin (seq : BitVec 16) : Twin := { seq := seq, firstPath := .u1, firstTime := 4000 }

/-- Each verdict at both ends of its band, the Jump Limit being 4,096, at the end of the twin timeout. -/
theorem witness_VerdictsShapeTheEntry_bands :
    (64 ≤ released.settings.jumpLimit ∧ (∀ r ∈ [twin 1000], age 24000 r.firstTime ≤
      released.settings.twinTimeout * 1000) ∧ age 24000 4000 ≤ released.settings.windowHold * 1000) ∧
    ([1, 4096, 4097, -1, -63, -64, -4096, -4097].map fun d : Int =>
      (screened 24000 (1000 + BitVec.ofInt 16 d) 5 .u1 .timing (inForce [twin 1000])).2) =
      [.ahead, .ahead, .sequenceJump, .late, .late, .stale, .stale, .sequenceJump] ∧
    ([3, 4, 6].map fun e => (screened 24000 1001 e .u1 .timing (inForce [twin 1000])).2) =
      [.epochJump, .staleEpoch, .epochJump] ∧
    ([504000, 504001].map fun now => (screened now 1001 5 .u1 .timing (inForce [])).2) =
      [.ahead, .first true] := by decide

/-- A match with the record of the other path, and averages at the limits of R85 for a Skew Limit of 2,000. -/
theorem witness_VerdictsShapeTheEntry_match :
    (sequenceVerdict 4096 { head := 1000, seen := 1, epoch := 5, prevEpoch := some 4, lastAccept := 4000 } 1000 =
        .repeated ∧
      (inForce [twin 1000]).twins.find? (fun r => r.seq == 1000) = some (twin 1000) ∧
      (twin 1000).firstPath = other .u2) ∧
    ([some 16000, none].map fun a => nextAverage a (signedSkew (age 6002 4000) .u1)) = [16001, 16016] ∧
    (8 * 2000 < (16001 : Int).natAbs ∧ (16000 : Int).natAbs ≤ 8 * 2000 ∧
      (-8000 : Int).natAbs ≤ 4 * 2000 ∧ 4 * 2000 < (-8001 : Int).natAbs) := by decide

/-- One record timed out in front of one that is not. -/
theorem witness_VerdictsShapeTheEntry_timeouts :
    let e := inForce [twin 999, { twin 1000 with firstTime := 4001 }]
    e.twins = [twin 999] ++ [{ twin 1000 with firstTime := 4001 }] ∧
    (∀ r ∈ [twin 999], released.settings.twinTimeout * 1000 < age 24001 r.firstTime) ∧
    age 24001 4001 ≤ released.settings.twinTimeout * 1000 := by decide

/-- A peer's presence frame on U1 with three Status Copies. -/
def peerPresence (a b c : Nat) : List Octet :=
  withFcs (addrOctets 0x01B5E0000001 ++ addrOctets 0x02B50010042C ++
    tagOctets 0x8BE2 { seq := 9, path := none, epoch := 5, cls := .presence, interval := 100 } false .u1 ++
    [0x8B, 0xE4] ++ addrOctets 0x02B50010042C ++ beOctets 8 a ++ beOctets 8 b ++ beOctets 8 c ++
    List.replicate 10 0)

theorem fcsGood_peerPresence (a b c : Nat) : fcsGood (peerPresence a b c) = true := by
  unfold peerPresence; exact fcsGood_withFcs _

/-- `running` with the sender's entry of class 4. -/
def knowing (e : Entry) : State :=
  { running with filter := { running.filter with entries := [(12, e)], entriesInUse := 1 } }

/-- The sender's entry of class 4. -/
def peer : Entry := newEntry 0x02B50010042C .presence .active none 4000

theorem tableInv_knowing : TableInv (knowing peer) := tableInv_of rfl rfl (by decide) (by decide) (by decide)

theorem witness_VerdictsShapeTheEntry_presence :
    (running.serving = true ∧ StoreInv (knowing peer) ∧ TableInv (knowing peer) ∧
      entryOf (knowing peer) 12 = some peer ∧ peer.check = 0) ∧
    ∀ p ∈ [(7, 7, 8), (7, 8, 7), (8, 7, 7), (7, 8, 9)],
      let f := peerPresence p.1 p.2.1 p.2.2
      TagPasses .u1 f { copyTag .u1 with cls := .presence, interval := 100 } (knowing peer) ∧
      isOwnOrigin (knowing peer) (sourceOf f) = false ∧
      admits (knowing peer) f.length (blockFloor running.settings .presence)
        (handleFloor running.settings .presence) = true ∧
      peer.addr = sourceOf f ∧
      [0, 1, 2].map (statusCopy (walkUplink running.settings.tagMarker f) f) =
        [BitVec.ofNat 64 p.1, BitVec.ofNat 64 p.2.1, BitVec.ofNat 64 p.2.2] := by
  refine ⟨⟨rfl, storeInv_running, tableInv_knowing, rfl, rfl⟩, fun p h => ?_⟩
  unfold TagPasses
  simp only [List.mem_cons, List.not_mem_nil, or_false] at h
  rcases h with rfl | rfl | rfl | rfl <;>
    exact ⟨⟨fcsGood_peerPresence _ _ _, by decide +kernel⟩, by decide +kernel⟩

/-- A data frame at the entry it finds, both paths heard a moment before. -/
theorem witness_VerdictsShapeTheEntry_arrival :
    let e := { awaiting with
      path1 := { PathRecord.new with state := .present, lastArrival := some 4000 }
      path2 := { PathRecord.new with state := .present, lastArrival := some 4000 } }
    let s := { awaitingTwin with filter := { awaitingTwin.filter with entries := [(292, e)] } }
    (s.serving = true ∧ StoreInv s ∧ TagPasses .u1 firstCopy (copyTag .u1) s ∧ TableInv s) ∧
    isOwnOrigin s (sourceOf firstCopy) = false ∧
    admits s firstCopy.length (blockFloor s.settings .timing) (handleFloor s.settings .timing) = true ∧
    (entryOf s 292 = some e ∧ e.addr = sourceOf firstCopy ∧ e.cls = .timing ∧ e.check = 0) ∧
    destOf firstCopy ≠ s.loader.stationAddress ∧ (e.path .u1).state = .present ∧
    (∀ v, (screenEntry s.settings s.stationTime { copyTag .u1 with seq := v }
      { entry := e, counters := s.filter.counters }).1.entry.failed .u2 s.settings.missLimit s.stationTime =
        false ∨ v ≠ 11 ∧ v ≠ 9) ∧
    (s.bay.queue (bayQueueOf .timing)).entries.length < bayCapacity (bayQueueOf .timing) := by
  refine ⟨⟨rfl, storeInv_running, tagPasses_firstCopy rfl rfl,
    tableInv_of rfl rfl (by decide) (by decide) (by decide)⟩, by decide +kernel, by decide +kernel,
    by decide +kernel, by decide +kernel, rfl, fun v => ?_, by decide⟩
  by_cases h : v = 11
  · exact Or.inl (by rw [h]; decide)
  · by_cases k : v = 9
    · exact Or.inl (by rw [k]; decide)
    · exact Or.inr ⟨h, k⟩

theorem witness_PathArrivalsUpdateBothPaths :
    (entryOf awaitingTwin 292 = some awaiting ∧ awaiting.isLost .u1 = false) ∧
    ∃ e, entryOf { awaitingTwin with filter := { awaitingTwin.filter with
        single2 := 1
        entries := [(292, { awaiting with path1 := { PathRecord.new with state := .lost } })] } } 292 = some e ∧
      e.isLost .u1 = true :=
  ⟨by decide, _, rfl, by decide⟩

theorem witness_HealthFollowsThePaths :
    ¬ (cutEntry.path1.state = .lost ∧ cutEntry.path2.state = .lost) := by decide

/-! #### Invariants -/

theorem witness_FaultRecordsStayInOrder :
    ∃ t, (FaultInv oneFault ∧ FaultInv running) ∧ step oneFault = .next t :=
  ⟨_, by unfold FaultInv; decide, rfl⟩

theorem witness_PartStateRulesItsTimersAndLinks :
    ∃ t, (PartInv running ∧ LoadingInv running) ∧ step running = .next t :=
  ⟨_, by unfold PartInv LoadingInv; decide, rfl⟩

theorem pathInv_crowded : PathInv crowded := by
  have a : ∀ p ∈ crowded.filter.entries, ¬ (p.2.isLost .u1 = true ∧ p.2.isLost .u2 = true) := by decide
  exact fun i e h => a _ (Tbl.mem_of_look h)

theorem witness_NoEntryLosesBothPaths : ∃ t, PathInv crowded ∧ step crowded = .next t :=
  ⟨_, pathInv_crowded, rfl⟩

theorem witness_SourceTableKeepsItsForm :
    (∃ t, (TableInv crowded ∧ TableInv full3) ∧ step crowded = .next t) ∧
    ∃ t, WindowInv awaitingTwin ∧ step awaitingTwin = .next t := by
  refine ⟨⟨_, ⟨tableInv_crowded, tableInv_full3⟩, rfl⟩, _, fun i e h => ?_, rfl⟩
  have a : ∀ p ∈ awaitingTwin.filter.entries, p.2.windowOk := by
    simp only [awaitingTwin, List.mem_singleton, forall_eq, Entry.windowOk, awaiting]
    decide
  exact a _ (Tbl.mem_of_look h)

theorem witness_LevelsCountWhatTheyName :
    (∃ t, (TableInv crowded ∧ LevelInv crowded) ∧ step crowded = .next t) ∧
    ∃ t, PartInv originThree ∧ OriginInv originThree ∧ OriginLevelInv originThree ∧
      step originThree = .next t :=
  ⟨⟨_, ⟨tableInv_crowded, by unfold LevelInv; decide⟩, rfl⟩,
    _, by unfold PartInv; decide, originInv_originThree, by unfold OriginLevelInv; decide, rfl⟩

theorem queueInv_running : QueueInv running := by
  refine ⟨fun u q => ?_, fun q => ?_, by decide⟩
  · cases u <;> cases q <;> decide
  · cases q <;> decide

theorem witness_PoolsAndQueuesKeepTheirBounds :
    ∃ t, (StoreInv running ∧ QueueInv running ∧ LinkInv running) ∧ step running = .next t :=
  ⟨_, ⟨storeInv_running, queueInv_running, linkInv_running⟩, rfl⟩

/-- `quiet` with a reply of class 2 in handle 0, which the Timing queues of both uplinks name. -/
def replying : State :=
  { quiet with
    store := { running.store with
      blocks := [(0, { block64 0 with data := List.replicate 64 0x81 })]
      handles := [(0, { handle64 0 2 with
        tag := some { seq := 7, path := none, epoch := 3, cls := .timing, interval := 0 } })] }
    u1 := { running.u1 with timing := { Queue.empty with entries := [entryFor 0] } }
    u2 := { running.u2 with timing := { Queue.empty with entries := [entryFor 0] } } }

theorem naming_replying (h : Nat) : naming replying h = if h = 0 then 2 else 0 := by
  by_cases k : h = 0
  · subst k; rfl
  · have : (0 == h) = false := by simp [Ne.symm k]
    simp [naming, UplinkEgress.naming, BayEgress.naming, Queue.naming, replying, quiet, running, released,
      State.reset, UplinkEgress.reset, Queue.empty, entryFor, this, k]

theorem blockInv_replying : BlockInv replying := by
  refine ⟨rfl, fun h r b a _ m => ?_, fun h b k a o => ?_⟩
  · have c := Tbl.mem_of_look a
    simp only [replying, List.mem_singleton, Prod.mk.injEq] at c
    obtain ⟨rfl, rfl⟩ := c
    simp only [handle64, List.mem_singleton] at m
    subst m
    exact ⟨_, rfl, rfl⟩
  · have c := Tbl.mem_of_look a
    simp only [replying, List.mem_singleton, Prod.mk.injEq] at c
    obtain ⟨rfl, rfl⟩ := c
    simp only [block64, BlockOwner.held.injEq] at o
    subst o
    exact ⟨_, rfl, rfl, List.mem_singleton.mpr rfl⟩

theorem refInv_replying : RefInv replying := by
  refine ⟨fun h a => ?_, fun h r a _ => ?_⟩
  · rw [naming_replying, if_neg]
    rintro rfl
    cases a
  · have c := Tbl.mem_of_look a
    simp only [replying, List.mem_singleton, Prod.mk.injEq] at c
    obtain ⟨rfl, rfl⟩ := c
    exact ⟨rfl, by decide, by decide⟩

theorem replyInv_replying : ReplyInv replying := by
  intro _ u h r t _ a _ e
  have c := Tbl.mem_of_look a
  simp only [replying, List.mem_singleton, Prod.mk.injEq] at c
  obtain ⟨rfl, rfl⟩ := c
  cases e
  decide

theorem witness_ReferencesNameWhatIsQueued :
    ∃ t, ((PartInv replying ∧ LoadingInv replying) ∧ StoreInv replying ∧ LinkInv replying) ∧
      (BlockInv replying ∧ RefInv replying ∧ ReplyInv replying) ∧ replying.loader.part ≠ .run ∧
      step replying = .next t :=
  ⟨_, ⟨⟨by unfold PartInv; decide, by unfold LoadingInv; decide⟩, by unfold StoreInv; decide,
      fun u h => by cases u <;> cases h⟩,
    ⟨blockInv_replying, refInv_replying, replyInv_replying⟩, by decide, rfl⟩

/-! #### A valid image -/

/-- R131, R188: 64 ORIGIN-PIN records pin 63 addresses in an empty table, a repeat and an address held add
none, and one place takes one; a fourth key of a bucket is not pinned, and the last record of a key gives its
limit; a SLOTS sum of 64 is taken and one of 65 is not; entry 7 of the classifier is there and 8 is not; a
multicast or zero STATION address is passed over. -/
theorem test_image_records :
    (originsPinned [] 63 ((List.range 64).map fun i =>
      ImageRecord.originPin (BitVec.ofNat 48 (i / 2 * 2)))).length = 32 ∧
    (originsPinned [] 63 ((List.range 64).map fun i => ImageRecord.originPin (BitVec.ofNat 48 i))).length = 63 ∧
    originsPinned [5] 1 ([5, 6, 6, 7].map ImageRecord.originPin) = [6] ∧
    (keysPinned [] ([0x02B50010042C, 0x02B50010052D, 0x02B50010062E, 0x02B50010072F].map
      fun a => ImageRecord.sourcePin a 2 0)).length = 3 ∧
    silenceGiven 5 .timing none [.sourcePin 5 2 9, .sourcePin 5 3 8, .sourcePin 6 2 7] =
      some { limit := 9, silent := false } ∧
    silenceGiven 5 .timing (some { limit := 9, silent := true }) [.sourcePin 5 2 0] = none ∧
    slotsGiven .u2 none (.slots 2 30 20 14) = some { event := 30, timing := 20, stream := 14 } ∧
    slotsGiven .u2 none (.slots 2 30 20 15) = none ∧ slotsGiven .u2 none (.slots 3 1 1 1) = none ∧
    (ImageRecord.classifier 7 0x9A01 0xFF 3 1).skippedIn [] [] = false ∧
    (ImageRecord.classifier 8 0x9A01 0xFF 3 1).skippedIn [] [] = true ∧
    [ImageRecord.station 0x03B5E0000003, .station 0].map (stationGiven station) = [station, station] ∧
    stationGiven station (.station 0x02B5E0000107) = 0x02B5E0000107 := by decide +kernel

/-- 10.4: the records of the start-up image. -/
def startRecords : List RawRecord :=
  [{ offset := 4, type := 1, length := 6, body := [1, 1, 0, 0, 0, 32] },
    { offset := 12, type := 1, length := 6, body := [1, 5, 0, 0, 0, 3] },
    { offset := 20, type := 2, length := 6, body := [2, 0xB5, 0xE0, 0, 1, 7] },
    { offset := 28, type := 3, length := 6, body := [2, 0xB5, 0xE0, 0, 1, 7] },
    { offset := 36, type := 4, length := 7, body := [2, 0xB5, 0, 0x10, 4, 0x2C, 6] },
    { offset := 45, type := 6, length := 4, body := [2, 30, 20, 20] }]

/-- 10.4: the start-up image is valid, and three of its records are skipped. -/
theorem witness_ImageSettingsEndAtTheLastValue_records :
    (readImage released.loader.straps startImage = .valid startRecords ∧ released.resetN = true ∧
      released.loader.part = .loading ∧ released.pairing = State.reset.pairing ∧
      released.filter = State.reset.filter ∧ released.loader.recordsSkipped = 0) ∧
    (startRecords.map RawRecord.read).countP (ImageRecord.skippedIn [0x02B5E0000107] []) = 3 ∧
    originsPinned [] 63 (startRecords.map RawRecord.read) = [0x02B5E0000107] ∧
    keysPinned [] (startRecords.map RawRecord.read) = [] := by decide +kernel

/-! #### The Origin visit, the Raised flags, and entries that fail their Check -/

/-- `crowded` with entry `i` failing its Check. -/
def crowdedFailing (i : Nat) : State :=
  { crowded with filter := { crowded.filter with
      entries := crowded.filter.entries.map fun p => if p.1 = i then (i, { p.2 with check := 1 }) else p } }

/-- The scanner about to visit Origin entry `j` of `originThree`, changed to `o`, at 112,040 ms. -/
def scanning (j : Fin 64) (o : OriginEntry) : State :=
  { crowdedFailing 292 with
    filter := { (crowdedFailing 292).filter with originCursor := j }
    pairing := { originThree.pairing with entries := Tbl.put originThree.pairing.entries j.val o } }

/-- With Origin Age 300, ages of 300 seconds and one microsecond more; for a PINNED entry, of 1,000 seconds. -/
theorem witness_ScannerVisitsOneBucketAndOneOrigin_origin :
    (∀ o ∈ [{ originFor .learned 1 with lastSeen := 112039999 - 300000000 }],
      (scanning 1 o).resetN = true ∧ (scanning 1 o).filter.scanTimer.isSome = true ∧
      originOf (scanning 1 o) (scanning 1 o).filter.originCursor.val = some o ∧ o.check = 0 ∧
      o.state = .learned ∧
      (scanning 1 o).settings.originAge * 1000000 < age (scanning 1 o).stationTime o.lastSeen) ∧
    (∀ o ∈ [{ originFor .learned 1 with lastSeen := 112040000 - 300000000 },
        { originFor .pinned 1 with lastSeen := 112040000 - 1000000000 }],
      originOf (scanning 1 o) (scanning 1 o).filter.originCursor.val = some o ∧ o.check = 0 ∧
      (o.state = .pinned ∨
        age (scanning 1 o).stationTime o.lastSeen ≤ (scanning 1 o).settings.originAge * 1000000)) ∧
    (∀ j ∈ [0, 63], let o := { originFor .pinned 1 with check := 1 };
      originOf (scanning j o) (scanning j o).filter.originCursor.val = some o ∧ o.check ≠ 0) ∧
    (∃ e, entryOf (scanning 1 zero) 292 = some e ∧ e.check ≠ 0) ∧
    originOf { scanning 1 zero with filter := { crowded.filter with originCursor := 63 } } 63 = none :=
  ⟨by decide, by decide, by decide, ⟨_, rfl, by decide⟩, by decide⟩

/-- The part with its own frames seen 400,000 and 400,001 microseconds ago, both flags raised. -/
def joinedLong : State :=
  { linksDown with
    stationTime := 900000
    loader := { linksDown.loader with quietTimer := some 0 }
    presence :=
      { timer := some 0
        own1 := { joinedRaised := true, joinedLastSeen := some 500000,
                  loopRaised := true, loopLastSeen := some 499999 }
        own2 := { joinedRaised := false, joinedLastSeen := some 0,
                  loopRaised := true, loopLastSeen := none } } }

/-- R106: a flag is re-armed when its Last Seen is more than 4 × 100 ms old. -/
theorem test_presence_rearms :
    let p := (after .presenceTimerExpiry joinedLong).presence
    (p.own1.joinedRaised, p.own1.loopRaised, p.own2.joinedRaised, p.own2.loopRaised, p.own1.loopLastSeen) =
      (true, false, false, true, some 499999) := by decide

/-- Entry 0 failing its Check, with the presence timer running and both links UP. -/
def zeroFailing : State :=
  { running with
    presence := { running.presence with timer := some 0 }
    pairing := { running.pairing with entries := [(0, { zero with check := 1 })] } }

theorem witness_PresenceTimerBuildsOneFrame_zero :
    (zeroFailing.resetN = true ∧ zeroFailing.presence.timer.isSome = true ∧ anyLinkUp zeroFailing = true ∧
      0 < freeBlocks zeroFailing ∧ 0 < freeHandles zeroFailing) ∧
    (∃ e, originOf zeroFailing 0 = some e ∧ e.check ≠ 0) ∧
    (joinedLong.resetN = true ∧ joinedLong.presence.timer.isSome = true ∧ anyLinkUp joinedLong = false ∧
      joinedLong.loader.quietTimer.isSome = true) :=
  ⟨by decide, ⟨_, rfl, by decide⟩, by decide⟩

theorem witness_RepliesAreDelivered_zero :
    (fromLine (ask 0 0 [])).port ≠ .b ∧ anyLinkUp zeroFailing = true ∧
    blocksNeeded (replyOctets 0x0F (fromLine (ask 0 0 [])) (okValues (fromLine (ask 0 0 [])) []) zeroFailing).length
      ≤ freeBlocks zeroFailing ∧ 1 ≤ freeHandles zeroFailing ∧
    ∃ e, originOf zeroFailing 0 = some e ∧ e.check ≠ 0 :=
  ⟨by decide, by decide, by decide +kernel, by decide, _, rfl, by decide⟩

theorem tableInv_crowdedFailing : TableInv (crowdedFailing 292) :=
  tableInv_of rfl rfl (by decide) (by decide) (by decide)

theorem witness_EntryReadReturnsTheEntry_failing :
    (Admissible .entryRead (ask 0 292 []) (crowdedFailing 292) ∧ (ask 0 292 []).count = 0 ∧
      (ask 0 292 []).index.toNat ≤ 511) ∧
    (Admissible .entryRead (ask 1 0 keyP) (crowdedFailing 292) ∧ (ask 1 0 keyP).count = 3) ∧
    TableInv (crowdedFailing 292) ∧
    ∃ e, entryOf (crowdedFailing 292) 292 = some e ∧ e.check ≠ 0 ∧
      keyOfValues (carried (ask 1 0 keyP)) = some (e.addr, e.cls) :=
  ⟨by unfold Admissible; decide +kernel, by unfold Admissible; decide +kernel, tableInv_crowdedFailing, _, rfl,
    by decide⟩

/-- R47: read by index, the failing entry is FREE, with its fault report. -/
theorem test_entry_read_failing :
    let t := after (.entryRead (ask 0 292 [])) (crowdedFailing 292)
    (t.filter.entries.map Prod.fst, t.filter.entriesInUse, t.filter.pinnedInUse) = ([294], 1, 0) ∧
    t.reports = [{ kind := .entryCheck, location := 292, port := some .b, cls := none }] := by decide +kernel

/-- Bucket 73 full, of the two ACTIVE entries the older failing its Check, the key P not held. -/
def full4 : State :=
  { running with
    stationTime := 9000
    filter :=
      { running.filter with
        entriesInUse := 4, pinnedInUse := 2
        entries :=
          [(292, newEntry 0x02B50010052D .timing .pinned none 0),
            (293, newEntry 0x02B50010062E .timing .pinned none 0),
            (294, newEntry 0x02B50010072F .timing .active none 3000),
            (295, { newEntry 0x02B500100820 .timing .active none 2999 with check := 1 })] } }

theorem tableInv_full4 : TableInv full4 := tableInv_of rfl rfl (by decide) (by decide) (by decide)

theorem no_key_full4 : ∀ j d, entryOf full4 j = some d → ¬ (d.addr = 0x02B50010042C ∧ d.cls = .timing) := by
  have a : ∀ p ∈ full4.filter.entries, ¬ (p.2.addr = 0x02B50010042C ∧ p.2.cls = .timing) := by decide
  exact fun j d h => a _ (Tbl.mem_of_look h)

theorem replaced_full4 : Replaced 295 (bucketOf 0x02B50010042C .timing) full4 := by
  have a : ∀ p ∈ full4.filter.entries, p.2.state = .active →
      age full4.stationTime p.2.lastUse < age full4.stationTime 2999 ∨
      age full4.stationTime p.2.lastUse = age full4.stationTime 2999 ∧ 295 ≤ p.1 := by
    decide
  refine ⟨by decide, fun j h => ?_, _, rfl, rfl, fun j d _ h g => a (j, d) (Tbl.mem_of_look h) g⟩
  have : j = 292 ∨ j = 293 ∨ j = 294 ∨ j = 295 := by
    have b : bucketOf 0x02B50010042C .timing = 73 := by decide
    omega
  rcases this with rfl | rfl | rfl | rfl <;> rfl

theorem witness_EntryPinPinsTheKey_failing :
    (∀ s ∈ [crowdedFailing 292, full4], Admissible .entryPin (ask 0 0 keyP) s ∧
      (ask 0 0 keyP).object = 0 ∧ (ask 0 0 keyP).count = 3 ∧ pinLimit (ask 0 0 keyP) ≤ 65535 ∧
      keyOfValues (carried (ask 0 0 keyP)) = some (0x02B50010042C, .timing)) ∧
    (∃ e, entryOf (crowdedFailing 292) 292 = some e ∧ e.check ≠ 0 ∧ e.addr = 0x02B50010042C ∧
      e.cls = .timing) ∧
    (∃ e, entryOf full4 295 = some e ∧ e.check ≠ 0) ∧
    (TableInv full4 ∧ ∀ j d, entryOf full4 j = some d → ¬ (d.addr = 0x02B50010042C ∧ d.cls = .timing)) ∧
    (Replaced 295 (bucketOf 0x02B50010042C .timing) full4 ∧
      pinnedInBucket full4 (bucketOf 0x02B50010042C .timing) < 3) :=
  ⟨by unfold Admissible; decide +kernel, ⟨_, rfl, by decide⟩, ⟨_, rfl, by decide⟩,
    ⟨tableInv_full4, no_key_full4⟩, replaced_full4, by decide⟩

theorem witness_EntryUnpinAndRemove_failing :
    TableInv (crowdedFailing 292) ∧ Admissible .entryUnpin (ask 0 0 keyP) (crowdedFailing 292) ∧
    Admissible .entryRemove (ask 0 0 keyP) (crowdedFailing 292) ∧
    ∃ e, entryOf (crowdedFailing 292) 292 = some e ∧ e.check ≠ 0 ∧
      keyOfValues (carried (ask 0 0 keyP)) = some (e.addr, e.cls) :=
  ⟨tableInv_crowdedFailing, by unfold Admissible; decide +kernel, by unfold Admissible; decide +kernel, _, rfl,
    by decide⟩

theorem witness_FirstCopyReachesTheBay_failing :
    (∀ s ∈ [crowdedFailing 292, full4], s.serving = true ∧ isOwnOrigin s (sourceOf firstCopy) = false ∧
      admits s firstCopy.length (blockFloor s.settings .timing) (handleFloor s.settings .timing) = true) ∧
    (TagPasses .u1 firstCopy (copyTag .u1) (crowdedFailing 292) ∧
      TagPasses .u1 firstCopy (copyTag .u1) full4) ∧
    (∃ d, entryOf (crowdedFailing 292) 292 = some d ∧ d.check ≠ 0 ∧ d.addr = sourceOf firstCopy ∧
      d.cls = .timing) ∧
    (∃ d, entryOf full4 295 = some d ∧ d.check ≠ 0) ∧
    (sourceOf firstCopy = 0x02B50010042C ∧
      Replaced 295 (bucketOf 0x02B50010042C .timing) full4 ∧
      ∀ j e, entryOf full4 j = some e → ¬ (e.addr = 0x02B50010042C ∧ e.cls = .timing)) :=
  ⟨by decide +kernel, ⟨tagPasses_firstCopy rfl rfl, tagPasses_firstCopy rfl rfl⟩,
    ⟨_, rfl, by decide +kernel⟩, ⟨_, rfl, by decide⟩, by decide +kernel, replaced_full4, no_key_full4⟩

/-- `originThree` with entry `i` failing its Check. -/
def originFailing (i : Nat) : State :=
  { originThree with pairing := { originThree.pairing with
      entries := originThree.pairing.entries.map fun p => if p.1 = i then (i, { p.2 with check := 1 }) else p } }

theorem originInv_originFailing : OriginInv (originFailing 0) ∧ OriginInv (originFailing 2) :=
  ⟨originInv_of { zero with check := 1 } rfl rfl (by decide) (by decide) (by decide),
    originInv_of zero rfl rfl (by decide) (by decide) (by decide)⟩

theorem witness_OriginRequestsOnOneAddress_failing :
    (OriginInv (originFailing 0) ∧ OriginInv (originFailing 2)) ∧
    (∀ p ∈ [(0, [0x02B5, 0xE0000009]), (2, [0x0200, 2])],
      Admissible .originRead (ask 0 0 p.2) (originFailing p.1) ∧
      Admissible .originPin (ask 0 0 p.2) (originFailing p.1) ∧
      Admissible .originRemove (ask 0 0 p.2) (originFailing p.1) ∧
      (ask 0 0 p.2).object = 0 ∧ (ask 0 0 p.2).count = 2 ∧
      (originOf (originFailing p.1) p.1).any (fun e =>
        e.check != 0 && addrOfValues (carried (ask 0 0 p.2)) == some e.addr) = true) ∧
    (∀ i ∈ [0, 2, 1, 63, 64], Admissible .originRead (ask 0 i []) (originFailing 0) ∧
      Admissible .originRead (ask 0 i []) (originFailing 2) ∧ (ask 0 i []).object = 0 ∧
      (ask 0 i []).count = 0 ∧ (ask 0 i []).index.toNat = i) ∧
    (∃ e, originOf (originFailing 2) 1 = some e ∧ e.check = 0) ∧ originOf (originFailing 0) 63 = none :=
  ⟨originInv_originFailing, by unfold Admissible; decide +kernel, by unfold Admissible; decide +kernel,
    ⟨_, rfl, by decide⟩, by decide⟩

/-- R116: entry 0 is rebuilt with the next epoch and the request answered as by the rebuilt entry. -/
theorem test_origin_pin_failing :
    let t := after (.originPin (ask 0 0 [0x02B5, 0xE0000009])) (originFailing 0)
    (originOf t 0).map (fun e => (e.state, e.epoch, e.next, e.lastSeen)) =
      some (.pinned, 5, noSequences, 5000) ∧
    (t.pairing.epochCounter, t.pairing.originInUse, t.pairing.originPinned) = (6, 3, 2) ∧
    t.reports = [{ kind := .originCheck, location := 0, port := some .b, cls := none }] := by decide +kernel

/-- The sender's entry is entry 0, failing. -/
theorem witness_PairedBayFrameIsCopiedToBothUplinks_failing :
    (BayPasses bayData (originFailing 0) ∧ OriginInv (originFailing 0)) ∧
    BayDataPasses (originFailing 0) ∧
    ∃ e, originOf (originFailing 0) 0 = some e ∧ e.addr = sourceOf bayData ∧ e.check ≠ 0 :=
  ⟨⟨by unfold BayPasses; exact ⟨rfl, fcsGood_plain _ _ _, by decide +kernel⟩, originInv_originFailing.1⟩,
    by unfold BayDataPasses; decide +kernel, _, rfl, by decide +kernel⟩

theorem witness_OriginTableKeepsItsForm :
    ∃ t, PartInv originThree ∧ OriginInv originThree ∧ step originThree = .next t :=
  ⟨_, by unfold PartInv; decide, originInv_originThree, rfl⟩

theorem witness_SlotMapsKeepTheirCounts : ∃ t, SlotInv running ∧ step running = .next t := by
  refine ⟨_, fun u => ?_, rfl⟩
  cases u <;> (unfold MapOf; decide)

/-! #### What a flush releases, and what a RELOAD leaves -/

/-- U1 sends handle 0 and queues handle 0 again, 1, one in quarantine, 2, and 3, whose Check is `check`. -/
def flushing (check : BitVec 16) : State :=
  { running with
    store :=
      { running.store with
        blocks := [(0, block64 0), (1, block64 1), (2, { block64 2 with owner := .quarantined }), (3, block64 3)]
        handles :=
          [(0, handle64 0 2), (1, handle64 1 2), (2, { handle64 2 1 with quarantined := true }),
            (3, { handle64 3 2 with check := check })] }
    u1 :=
      { running.u1 with
        tx := some copyOf0
        event := { Queue.empty with entries := [entryFor 3] }
        timing := { Queue.empty with entries := [entryFor 0, entryFor 1] }
        general := { Queue.empty with entries := [entryFor 2, entryFor 3] } } }

theorem linkInv_flushing (c : BitVec 16) : LinkInv (flushing c) := by
  intro u h; cases u <;> exact absurd h (by simp [flushing, running, State.uplink])

theorem storeInv_flushing : StoreInv (flushing 0) ∧ StoreInv (flushing 5) := by unfold StoreInv; decide

/-- Handles named once and twice, with one reference left, with none, in quarantine, and failing or not. -/
theorem witness_PortResetEmptiesOneUplink_flush :
    (∀ s ∈ [flushing 0, flushing 5], Admissible .reset (ask 0 1 []) s ∧ s.serving = true ∧
      (s.uplink .u1).linkUp = true) ∧
    (∀ c, LinkInv (flushing c)) ∧ (StoreInv (flushing 0) ∧ StoreInv (flushing 5)) ∧
    ([0, 1, 2, 3, 4].map ((flushing 5).uplink .u1).naming = [2, 1, 1, 2, 0]) ∧
    (handleOf (flushing 5) 4 = none ∧ handleOf (flushing 5) 0 = some (handle64 0 2) ∧
      handleOf (flushing 5) 1 = some (handle64 1 2)) ∧
    ((flushing 0).uplink .u1).released.any (fails (flushing 0)) = false ∧
    ((flushing 5).uplink .u1).released.filter (fails (flushing 5)) = [3, 3] := by
  have a : ∀ s ∈ [flushing 0, flushing 5], Admissible .reset (ask 0 1 []) s ∧ s.serving = true ∧
      (s.uplink .u1).linkUp = true := by unfold Admissible; decide +kernel
  have b : ([0, 1, 2, 3, 4].map ((flushing 5).uplink .u1).naming = [2, 1, 1, 2, 0]) ∧
      (handleOf (flushing 5) 4 = none ∧ handleOf (flushing 5) 0 = some (handle64 0 2) ∧
        handleOf (flushing 5) 1 = some (handle64 1 2)) := by decide +kernel
  have c : ((flushing 0).uplink .u1).released.any (fails (flushing 0)) = false ∧
      ((flushing 5).uplink .u1).released.filter (fails (flushing 5)) = [3, 3] := by decide +kernel
  exact ⟨a, linkInv_flushing, storeInv_flushing, b.1, b.2, c.1, c.2⟩

/-- R32, R36, R37, R151: what the flush of `flushing` leaves. -/
theorem test_link_state_down_flush :
    let t := after (.linkStateDown .u1)
      { flushing 5 with notices := { running.notices with timer := some 5 } }
    t.store.handles.map (fun p => (p.1, p.2.refs, p.2.quarantined)) =
      [(1, 1, false), (2, 1, true), (3, 2, true)] ∧
    (t.u1.flushDrops, t.store.quarantineDrops, t.store.blocks.map Prod.fst) = (3, 2, [1, 2, 3]) ∧
    t.reports = [{ kind := .handleCheck, location := 3, port := some .u1, cls := none }] := by decide +kernel

/-- A reload with a Source Table and an Origin Table in use. -/
def reloadingTables : State :=
  { originThree with
    loader := { originThree.loader with reloadRunning := true }
    stationTime := crowded.stationTime, filter := crowded.filter }

/-- STATION with the address of entry 2, ORIGIN-PIN of that of entry 1 and of a new one, two new keys of bucket
73, and two SLOTS records for U2, the second with a sum of 65. -/
def reloadImageOctets : List Octet :=
  image [2, 6, 2, 0, 0, 0, 0, 2, 3, 6, 2, 0, 0, 0, 0, 1, 3, 6, 2, 0, 0, 0, 0, 9,
    4, 7, 2, 0xB5, 0, 0x10, 5, 0x2D, 2, 4, 9, 2, 0xB5, 0, 0x10, 6, 0x2E, 2, 0, 7,
    6, 4, 2, 30, 20, 14, 6, 4, 2, 30, 20, 15]

/-- The records of that image. -/
def reloadRecords : List RawRecord :=
  [{ offset := 4, type := 2, length := 6, body := [2, 0, 0, 0, 0, 2] },
    { offset := 12, type := 3, length := 6, body := [2, 0, 0, 0, 0, 1] },
    { offset := 20, type := 3, length := 6, body := [2, 0, 0, 0, 0, 9] },
    { offset := 28, type := 4, length := 7, body := [2, 0xB5, 0, 0x10, 5, 0x2D, 2] },
    { offset := 37, type := 4, length := 9, body := [2, 0xB5, 0, 0x10, 6, 0x2E, 2, 0, 7] },
    { offset := 48, type := 6, length := 4, body := [2, 30, 20, 14] },
    { offset := 54, type := 6, length := 4, body := [2, 30, 20, 15] }]

/-- The two new keys fill the two FREE ways of bucket 73; entry 2 is the lowest FREE one for the new address. -/
theorem witness_ReloadRequestAndItsEnd_valid :
    (reloadingTables.serving = true ∧ reloadingTables.loader.reloadRunning = true ∧
      readImage reloadingTables.loader.straps reloadImageOctets = .valid reloadRecords) ∧
    (OriginInv reloadingTables ∧ TableInv reloadingTables) ∧
    ((∀ i o, originOf reloadingTables i = some o → o.check = 0) ∧
      ∀ i d, entryOf reloadingTables i = some d → d.check = 0) ∧
    (let a : Address := 0x020000000002;
      let recs := reloadRecords.map RawRecord.read;
      let keys := keysPinned (keysHeld reloadingTables) recs;
      recs.foldl stationGiven (defaultStationAddress straps) = a ∧
      (originKept a reloadingTables 0).isSome = true ∧ (originKept a reloadingTables 1).isSome = true ∧
      originsHeld a reloadingTables = [a, 0x020000000001] ∧
      (originsFree a reloadingTables)[0]? = some 2 ∧
      originsPinned (originsHeld a reloadingTables) 62 recs = [0x020000000009] ∧
      keys = [(0x02B50010042C, .timing), (0x02B50010052D, .timing), (0x02B50010062E, .timing)] ∧
      (keysFresh keys 73 reloadingTables).length = 2 ∧ (waysFree 73 reloadingTables).length = 2 ∧
      recs.foldl (slotsGiven .u2) none = some { event := 30, timing := 20, stream := 14 } ∧
      recs.foldl (slotsGiven .u1) none = none) := by
  refine ⟨by decide +kernel, ⟨originInv_of zero rfl rfl (by decide) (by decide) (by decide),
    tableInv_of rfl rfl (by decide) (by decide) (by decide)⟩, ⟨fun i o h => ?_, fun i d h => ?_⟩, by decide +kernel⟩
  · exact (by decide : ∀ p ∈ reloadingTables.pairing.entries, p.2.check = 0) _ (Tbl.mem_of_look h)
  · exact (by decide : ∀ p ∈ reloadingTables.filter.entries, p.2.check = 0) _ (Tbl.mem_of_look h)

/-- R131, R51, R144: entry 0 has the new address with its Epoch and sequences, entry 2 is freed, counted and
taken by the new address, entry 1 is converted; the new keys are in ways 1 and 3; the staged counts are those of
the record that can be applied, the active ones stay. -/
theorem test_reload_end_tables :
    let t := after (.reloadEnd reloadImageOctets) reloadingTables
    t.pairing.entries.map (fun p => (p.1, p.2.addr, p.2.state, p.2.epoch, p.2.next.timing)) =
      [(0, 0x020000000002, .pinned, 3, 7), (1, 0x020000000001, .pinned, 3, 7),
        (2, 0x020000000009, .pinned, 0, 0)] ∧
    t.filter.entries.map (fun p => (p.1, p.2.addr, p.2.state)) =
      [(292, 0x02B50010042C, .pinned), (293, 0x02B50010052D, .pinned), (294, 0x02B500100820, .active),
        (295, 0x02B50010062E, .pinned)] ∧
    (t.pairing.counters.originRemoved, t.loader.recordsSkipped, t.u1.stagedCounts, t.u2.stagedCounts,
      t.u2.activeCounts, t.u1.applyPending) =
      (1, 1, SlotCounts.default, { event := 30, timing := 20, stream := 14 }, SlotCounts.default, true) := by
  decide +kernel

/-! #### Settings' actions, pins, replies and events -/

theorem witness_WriteSetsOneSetting_actions :
    (SettingName.jumpLimit ∉ [SettingName.suspectThreshold, .bayPause, .pauseOn, .pauseOff, .honorPause,
      .epochSeed]) ∧
    ∀ a, ∀ b ∈ [none, some (BayTx.frame 0 copyOf0.wire)],
      let y := { pausing 0 0 a with
        settings := { (pausing 0 0 a).settings with bayPause := false }
        bay := { running.bay with tx := b } };
      y.settings.bayPause = false ∧ y.pause.asserted = a ∧ y.bay.tx = b :=
  ⟨by decide, fun _ _ _ => ⟨rfl, rfl, rfl⟩⟩

/-- R34: a WRITE of Bay Pause 0 releases the pause asserted; R115: one of Epoch Seed gives the Epoch counter. -/
theorem test_write_actions :
    let t := after (.write (ask 0x0120 0 [0])) (pausing 0 2048 true)
    (t.pause.asserted, t.portB.pausesSent, t.settings.bayPause) = (false, 1, false) ∧
    (after (.write (ask 0x010C 0 [6])) running).pairing.epochCounter = 6 := by decide +kernel

/-- A PINNED key in a bucket of three, with limits on both sides of 65,535 and of the clamp flag. -/
theorem witness_EntryPinPinsTheKey_limits :
    (∀ v ∈ [keyP, keyP ++ [65535], keyP ++ [65536]], ∀ f ∈ [(0 : Octet), 1],
      let r := { ask 0 0 v with flags := f };
      Admissible .entryPin r full3 ∧ r.object = 0 ∧ (r.count = 3 ∨ r.count = 4) ∧
      keyOfValues (carried r) = some (0x02B50010042C, .timing)) ∧
    [keyP, keyP ++ [65535], keyP ++ [65536]].map (fun v => pinLimit (ask 0 0 v)) = [0, 65535, 65536] ∧
    [(0 : Octet), 1].map (fun f => clampFlag { ask 0 0 keyP with flags := f }) = [false, true] ∧
    (TableInv full3 ∧ ∀ i d, i / 4 = bucketOf 0x02B50010042C .timing → entryOf full3 i = some d →
      d.check = 0) ∧
    (∃ d, entryOf full3 292 = some d ∧ d.addr = 0x02B50010042C ∧ d.cls = .timing ∧ d.state = .pinned) ∧
    (Admissible .entryPin (ask 0 0 [0x02B5, 0x0010042C, 5]) full3 ∧
      (ask 0 0 [0x02B5, 0x0010042C, 5]).count = 3 ∧
      keyOfValues (carried (ask 0 0 [0x02B5, 0x0010042C, 5])) = none) :=
  ⟨by unfold Admissible; decide +kernel, by decide, by decide,
    ⟨tableInv_full3, fun i d _ h => (by decide : ∀ p ∈ full3.filter.entries, p.2.check = 0) _ (Tbl.mem_of_look h)⟩,
    ⟨_, rfl, by decide⟩, by unfold Admissible; decide +kernel⟩

/-- `running` with as many entries in the Service queue and in U1's and U2's Timing queues. -/
def loaded (b n m : Nat) : State :=
  { running with
    bay := { running.bay with service := { Queue.empty with entries := List.replicate b (entryFor 0) } }
    u1 := { running.u1 with timing := { Queue.empty with entries := List.replicate n (entryFor 0) } }
    u2 := { running.u2 with timing := { Queue.empty with entries := List.replicate m (entryFor 0) } } }

theorem blockInv_of_empty {s : State} (h : s.store = running.store) : BlockInv s := by
  have e : ∀ n, handleOf s n = none ∧ Tbl.look s.store.blocks n = none := fun n => by
    simp only [handleOf, h]; exact ⟨rfl, rfl⟩
  refine ⟨?_, fun n r b k => ?_, fun n b k l => ?_⟩
  · simp only [freeBlocks, heldBlocks, quarantinedBlocks, h]; rfl
  · rw [(e n).1] at k; cases k
  · rw [(e b).2] at l; cases l

theorem freeHandles_of {s : State} (h : s.store.handles.length = 1024) : freeHandles s = 0 := by
  simp [freeHandles, totalHandles, h]

/-- Full queues and queues with one free place; one link UP and none; 1,024 handles taken. -/
theorem witness_RepliesAreDelivered_failures :
    (∀ b n m, StoreInv (loaded b n m) ∧ BlockInv (loaded b n m) ∧ 1 ≤ freeHandles (loaded b n m) ∧
      originOf (loaded b n m) 0 = some zero ∧ anyLinkUp (loaded b n m) = true) ∧
    (∀ r ∈ [ask 0 0 [], fromLine (ask 0 0 [])],
      (∀ s ∈ [loaded 15 63 64, loaded 16 64 64],
        blocksNeeded (replyOctets 0x0F r (okValues r []) s).length ≤ freeBlocks s) ∧
      blocksNeeded (replyOctets 0x0F r (okValues r []) linksDown).length ≤ freeBlocks linksDown) ∧
    ((loaded 15 63 64).bay.service.entries.length < 16 ∧ 16 ≤ (loaded 16 64 64).bay.service.entries.length ∧
      (loaded 15 63 64).u1.timing.entries.length < 64 ∧ 64 ≤ (loaded 15 63 64).u2.timing.entries.length) ∧
    (StoreInv linksDown ∧ BlockInv linksDown ∧ anyLinkUp linksDown = false ∧ 1 ≤ freeHandles linksDown) ∧
    freeHandles { running with store := { running.store with
      handles := List.replicate 1024 (0, handle64 0 1) } } = 0 := by
  refine ⟨fun b n m => ⟨storeInv_running, blockInv_of_empty rfl, by simp [freeHandles, loaded, running, released,
      State.reset, totalHandles], rfl, rfl⟩, by decide +kernel, by decide,
    ⟨storeInv_running, blockInv_of_empty rfl, by decide, by decide⟩, ?_⟩
  exact freeHandles_of List.length_replicate

/-- A path that was LOST, another that fails at a Miss Limit of 1, a flag that each changes, and a twin whose
skew of 1,000 us is over a limit of 999. -/
theorem witness_PathArrivalsUpdateBothPaths_events :
    (let e := { awaiting with
        path1 := { PathRecord.new with state := .lost }, path2 := { PathRecord.new with missRun := 1 } };
      let s := { awaitingTwin with
        settings := { running.settings with suspectThreshold := 1, missLimit := 1 }
        filter := { awaitingTwin.filter with
          single2 := 1, suspect1 := true, entries := [(292, e)] } };
      entryOf s 292 = some e ∧ e.isLost .u1 = true ∧
      (pathArrival 292 .u1 s).notices.records.map (fun r => (r.kind, r.whr, r.detail)) =
        [(.pathRestored, 1, 292 * 256), (.networkClear, 1, 0), (.pathLost, 2, 292 * 256 + 1),
          (.networkSuspect, 2, 1)]) ∧
    (entryOf awaitingTwin 292 = some awaiting ∧
      (screenEntry { running.settings with skewLimit := 999 } awaitingTwin.stationTime (copyTag .u2)
        { entry := awaiting, counters := running.filter.counters }).2.2 = some true) := by decide +kernel

end Sys2Proof.Tests
end

/-! SUPPORT. Reading octets back from a layout, and the two frame-format statements (R3, R5, R6, R148). -/

namespace Sys2Proof.Machine

/-! ### Octets read back from a layout -/

/-- Octets spell the low part of the number they were made from. -/
theorem beNat_beOctets (n x a : Nat) : beNat (beOctets n x) a = a * 256 ^ n + x % 256 ^ n := by
  induction n generalizing a with
  | zero => simp [beOctets, beNat, Nat.mod_one]
  | succ n ih =>
    have top : (BitVec.ofNat 8 (x >>> (8 * n))).toNat = x / 256 ^ n % 256 := by
      rw [BitVec.toNat_ofNat, Nat.shiftRight_eq_div_pow, Nat.pow_mul]
    simp only [beOctets, beNat, ih, top, Nat.mod_pow_succ]
    ring

theorem slice_append_self (p q r : List Octet) : slice (p ++ (q ++ r)) p.length q.length = q := by
  simp [slice]

theorem octetAt_append_right (p q : List Octet) (i : Nat) : octetAt (p ++ q) (p.length + i) = octetAt q i := by
  simp [octetAt, List.getD_eq_getElem?_getD, List.getElem?_append_right]

/-- Two octets laid down most significant first are read back as the value they spell. -/
theorem u16At_append_beOctets (p r : List Octet) (v : BitVec 16) :
    u16At (p ++ (beOctets 2 v.toNat ++ r)) p.length = v := by
  have cut := slice_append_self p (beOctets 2 v.toNat) r
  rw [beOctets_length] at cut
  rw [u16At, cut, beNat_beOctets]
  apply BitVec.eq_of_toNat_eq
  simpa using v.isLt

/-! ### The composed tag -/

/-- What an uplink sends for a frame with tag fields: the first 12 octets as stored, the tag, the rest as stored,
and four FCS octets, good or bad (R5). -/
theorem uplinkOctets_tagged (m : BitVec 16) (u : Uplink) (f : List Octet) (t : TagFields) (so fc : Bool) :
    ∃ fcs, fcs.length = 4 ∧
      uplinkOctets m u f (some t) so fc =
        f.take 12 ++ (tagOctets m t so u ++ ((lessFcs f).drop 12 ++ fcs)) := by
  cases fc
  · exact ⟨fcsOctets (fcsOf _), rfl, by simp [uplinkOctets, withFcs]; rfl⟩
  · exact ⟨fcsOctets (~~~ fcsOf _), rfl, by simp [uplinkOctets, withBadFcs]; rfl⟩

/-- Path, Epoch and Class share the tag's fifth octet without overlap (R3). -/
theorem pathEpochClass_fields (u : Uplink) (e : BitVec 3) (c : TClass) :
    let o : Octet := BitVec.ofNat 8 (pathNumber u * 64 + e.toNat * 8 + classCode c)
    (o.extractLsb' 6 2).toNat = pathNumber u ∧ o.extractLsb' 3 3 = e ∧
      (o.extractLsb' 0 3).toNat = classCode c := by
  have hp : pathNumber u < 4 := by cases u <;> decide
  have hc : classCode c < 8 := by cases c <;> decide
  have he := e.isLt
  refine ⟨?_, BitVec.eq_of_toNat_eq ?_, ?_⟩ <;>
    simp only [BitVec.extractLsb'_toNat, BitVec.toNat_ofNat, Nat.shiftRight_eq_div_pow] <;> omega

/-- A tag composed at octet 12 is read back from there, behind whatever stands before and after it. -/
theorem readTag_tagOctets (m : BitVec 16) (u : Uplink) (t : TagFields) (so : Bool) (p r : List Octet)
    (hp : p.length = 12) :
    u16At (p ++ (tagOctets m t so u ++ r)) 12 = m ∧
    readTag (p ++ (tagOctets m t so u ++ r)) =
      { seq := t.seq + (if so then 1 else 0), path := pathNumber u, epoch := t.epoch,
        cls := classCode t.cls, interval := t.interval } := by
  obtain ⟨hpath, hepoch, hcls⟩ := pathEpochClass_fields u t.epoch t.cls
  have marker := u16At_append_beOctets p
    (beOctets 2 (t.seq + (if so then 1 else 0)).toNat ++
      ([BitVec.ofNat 8 (pathNumber u * 64 + t.epoch.toNat * 8 + classCode t.cls), t.interval] ++ r)) m
  have seq := u16At_append_beOctets (p ++ beOctets 2 m.toNat)
    ([BitVec.ofNat 8 (pathNumber u * 64 + t.epoch.toNat * 8 + classCode t.cls), t.interval] ++ r)
    (t.seq + (if so then 1 else 0))
  have last := octetAt_append_right
    (p ++ (beOctets 2 m.toNat ++ beOctets 2 (t.seq + (if so then 1 else 0)).toNat))
    ([BitVec.ofNat 8 (pathNumber u * 64 + t.epoch.toNat * 8 + classCode t.cls), t.interval] ++ r)
  simp only [List.length_append, beOctets_length, hp, List.append_assoc] at marker seq last
  have fields := last 0
  have interval := last 1
  simp only [readTag, tagOctets, List.append_assoc]
  refine ⟨marker, ?_⟩
  rw [seq, fields, interval]
  simp only [octetAt, List.cons_append, List.getD_cons_zero, List.getD_cons_succ, hpath, hepoch, hcls]

/-- Settles O21: the tag stands at octet 12, behind the first 12 octets of what is stored. -/
theorem tagRoundTrip : Obligations.TagRoundTrip := by
  intro m u f t so fc hf
  obtain ⟨fcs, hfcs, sent⟩ := uplinkOctets_tagged m u f t so fc
  obtain ⟨marker, tag⟩ := readTag_tagOctets m u t so (f.take 12) ((lessFcs f).drop 12 ++ fcs)
    (by simp; omega)
  rw [sent]
  refine ⟨marker, tag, ?_⟩
  simp [lessFcs, hfcs]
  omega

/-! ### Insertion and removal -/

/-- A frame whose FCS matches is its body with the body's FCS behind it. -/
theorem withFcs_lessFcs {f : List Octet} (h : fcsGood f = true) : withFcs (lessFcs f) = f := by
  simp only [fcsGood, Bool.and_eq_true, beq_iff_eq] at h
  exact h.2.symm

/-- Octets that are long enough are not padded (R6). -/
theorem padTo_of_le {n : Nat} {f : List Octet} (h : n ≤ f.length) : padTo n f = f := by
  simp [padTo, Nat.sub_eq_zero_of_le h]

/-- B's removal takes out the six octets at octet 12 and computes the FCS over the rest (R6). -/
theorem bayOctets_withFcs_insert (f g : List Octet) (hg : g.length = 6) (hf : 64 ≤ f.length)
    (good : fcsGood f = true) :
    bayOctets (withFcs (f.take 12 ++ g ++ (lessFcs f).drop 12)) true = f := by
  have head : (lessFcs f).take 12 = f.take 12 := by
    rw [lessFcs, List.take_take]
    congr 1
    omega
  have cut : (f.take 12).length = 12 := by simp; omega
  have kept : (withFcs (f.take 12 ++ g ++ (lessFcs f).drop 12)).take 12 = f.take 12 := by
    rw [withFcs, List.append_assoc, List.append_assoc]
    exact List.take_left' cut
  have rest : (f.take 12 ++ g ++ (lessFcs f).drop 12).drop 18 = (lessFcs f).drop 12 :=
    List.drop_left' (by simp [hg]; omega)
  have whole : f.take 12 ++ (lessFcs f).drop 12 = lessFcs f := by
    rw [← head, List.take_append_drop]
  have long : 64 - 4 ≤ (lessFcs f).length := by simp [lessFcs]; omega
  simp only [bayOctets, if_true, lessFcs_withFcs, kept, rest, whole, sealFrame]
  rw [padTo_of_le long, withFcs_lessFcs good]

/-- Settles O22: removal undoes the insertion, and the FCS computed afresh over the body is the stored one. -/
theorem tagInsertionAndRemovalCancel : Obligations.TagInsertionAndRemovalCancel := by
  intro m u f t so hf good
  exact ⟨by simp [uplinkOctets],
    bayOctets_withFcs_insert f (tagOctets m t so u) (tagOctets_length m t so u) hf good⟩

end Sys2Proof.Machine

/-! SUPPORT. Sparse tables once more: a read after a filter and after several writes, and how many numbers the
search for free ones finds. -/

namespace Sys2Proof.Machine

variable {α : Type}

theorem Tbl.look_of_above {t : Tbl α} {k n : Nat} (h : Tbl.above k t = true) (hn : n < k) :
    Tbl.look t n = none := by
  induction t with
  | nil => rfl
  | cons p t ih =>
    simp only [Tbl.above, Bool.and_eq_true, decide_eq_true_eq] at h
    rw [Tbl.look, if_neg (by omega)]
    exact ih h.2

/-- A filter keeps the record of a number where the test holds of it. -/
theorem Tbl.look_keep (f : α → Bool) {t : Tbl α} (h : Tbl.wf t = true) (n : Nat) :
    Tbl.look (Tbl.keep f t) n = (Tbl.look t n).filter f := by
  induction t with
  | nil => rfl
  | cons p t ih =>
    obtain ⟨j, b⟩ := p
    simp only [Tbl.wf, Bool.and_eq_true] at h
    have tail : Tbl.look (Tbl.keep f t) n = (Tbl.look t n).filter f := ih h.2
    simp only [Tbl.keep, List.filter_cons] at tail ⊢
    by_cases e : j = n
    · subst e
      have gone : Tbl.look t j = none := Tbl.look_of_above h.1 (Nat.lt_succ_self j)
      rw [gone] at tail
      cases hb : f b <;> simp [Tbl.look, Option.filter, hb, tail]
    · cases hb : f b <;> simp [Tbl.look, e, tail]

theorem Tbl.look_putAll_of_notMem {l : List (Nat × α)} {n : Nat} (t : Tbl α) (h : n ∉ l.map Prod.fst) :
    Tbl.look (Tbl.putAll t l) n = Tbl.look t n := by
  induction l generalizing t with
  | nil => rfl
  | cons p l ih =>
    simp only [List.map_cons, List.mem_cons, not_or] at h
    rw [Tbl.putAll, ih _ h.2, Tbl.look_put_ne _ _ h.1]

/-- Of several writes to different numbers each is read back. -/
theorem Tbl.look_putAll_of_mem {l : List (Nat × α)} {n : Nat} {a : α} (t : Tbl α)
    (d : (l.map Prod.fst).Nodup) (h : (n, a) ∈ l) : Tbl.look (Tbl.putAll t l) n = some a := by
  induction l generalizing t with
  | nil => simp at h
  | cons p l ih =>
    simp only [List.map_cons, List.nodup_cons] at d
    rcases List.mem_cons.mp h with e | e
    · subst e
      rw [Tbl.putAll, Tbl.look_putAll_of_notMem _ d.1, Tbl.look_put_self]
    · exact ih _ d.2 e

/-! ### The lowest free numbers -/

/-- How many records have a number of at least `k`. -/
def Tbl.countFrom (t : Tbl α) (k : Nat) : Nat := t.countP fun p => decide (k ≤ p.1)

theorem Tbl.countFrom_le_length (t : Tbl α) (k : Nat) : Tbl.countFrom t k ≤ t.length := List.countP_le_length

theorem Tbl.countFrom_succ_le (t : Tbl α) (k : Nat) : Tbl.countFrom t (k + 1) ≤ Tbl.countFrom t k :=
  List.countP_mono_left fun p _ h => by simp only [decide_eq_true_eq] at *; omega

theorem Tbl.countFrom_succ_lt {t : Tbl α} {k : Nat} (h : Tbl.free t k = false) :
    Tbl.countFrom t (k + 1) < Tbl.countFrom t k := by
  induction t with
  | nil => simp [Tbl.free, Tbl.look] at h
  | cons p t ih =>
    have le := Tbl.countFrom_succ_le t k
    simp only [Tbl.countFrom, List.countP_cons, decide_eq_true_eq] at *
    by_cases e : p.1 = k
    · rw [if_neg (by omega), if_pos (by omega)]
      omega
    · have lt := ih (by simpa [Tbl.free, Tbl.look, e] using h)
      split <;> split <;> omega

/-- Where enough numbers are free, the search finds as many as it is asked for. -/
theorem Tbl.lowestFree_length (t : Tbl α) (fuel k need : Nat) (h : need + Tbl.countFrom t k ≤ fuel) :
    (Tbl.lowestFree t fuel k need).length = need := by
  induction fuel generalizing k need with
  | zero => simp [Tbl.lowestFree]; omega
  | succ fuel ih =>
    cases need with
    | zero => rfl
    | succ need =>
      rw [Tbl.lowestFree]
      split
      · have le := Tbl.countFrom_succ_le t k
        rw [List.length_cons, ih (k + 1) need (by omega)]
      · next f =>
        have lt := Tbl.countFrom_succ_lt (Bool.eq_false_iff.mpr f)
        exact ih (k + 1) (need + 1) (by omega)

/-- The search finds its numbers in rising order. -/
theorem Tbl.lowestFree_sorted (t : Tbl α) (fuel k need : Nat) :
    (Tbl.lowestFree t fuel k need).Pairwise (· < ·) := by
  induction fuel generalizing k need with
  | zero => exact List.Pairwise.nil
  | succ fuel ih =>
    cases need with
    | zero => exact List.Pairwise.nil
    | succ need =>
      rw [Tbl.lowestFree]
      split
      · exact List.Pairwise.cons (fun n hn => (Tbl.lowestFree_spec _ _ _ _ _ hn).2.1) (ih _ _)
      · exact ih _ _

theorem Tbl.lowestFree_nodup (t : Tbl α) (fuel k need : Nat) : (Tbl.lowestFree t fuel k need).Nodup :=
  (Tbl.lowestFree_sorted t fuel k need).imp fun h => Nat.ne_of_lt h

end Sys2Proof.Machine

/-! SUPPORT. A frame in storage: the handle and the blocks it takes, what they read back, what the pools are once it
is freed again, and a stored frame offered to a bay queue (R28, R29, R32, R153). -/

namespace Sys2Proof.Machine

/-! ### Storage taken -/

/-- The handle of a frame just stored, its reference count not yet set (R29, R32). -/
def storedHandle (f : List Octet) (c : TClass) (t : Option TagFields) (s : State) : Handle :=
  { length := f.length, cls := c, arrival := s.stationTime,
    blocks := lowestBlocks s (blocksNeeded f.length), refs := 0, tag := t, quarantined := false, check := 0 }

/-- There is storage for a frame with no floors (R30). -/
def HasRoom (f : List Octet) (s : State) : Prop :=
  blocksNeeded f.length ≤ freeBlocks s ∧ 1 ≤ freeHandles s

theorem hasRoom_of_admits {f : List Octet} {s : State} {bf hf : Nat} (h : admits s f.length bf hf = true) :
    HasRoom f s := by
  simp only [admits, Bool.and_eq_true, decide_eq_true_eq] at h
  exact ⟨by omega, by omega⟩

theorem lowestHandle_free {s : State} (h : 1 ≤ freeHandles s) : handleOf s (lowestHandle s) = none := by
  have len : (Tbl.lowestFree s.store.handles totalHandles 0 1).length = 1 :=
    Tbl.lowestFree_length _ _ _ _ (by
      have := Tbl.countFrom_le_length s.store.handles 0
      rw [freeHandles] at h
      omega)
  obtain ⟨n, found⟩ := List.length_eq_one_iff.mp len
  have free := (Tbl.lowestFree_spec s.store.handles totalHandles 0 1 n (by simp [found])).1
  rw [lowestHandle, found]
  exact free

theorem handleOf_storeFrame (f : List Octet) (c : TClass) (t : Option TagFields) (s : State) (n : Nat) :
    handleOf (storeFrame f c t s) n =
      if n = lowestHandle s then some (storedHandle f c t s) else handleOf s n := by
  rw [handleOf, storeFrame_handles, Tbl.look_put]
  rfl

theorem lowestBlocks_length {s : State} {need : Nat} (h : need ≤ freeBlocks s) :
    (lowestBlocks s need).length = need := by
  cases need with
  | zero => rfl
  | succ need =>
    exact Tbl.lowestFree_length _ _ _ _ (by
      have := Tbl.countFrom_le_length s.store.blocks 0
      rw [freeBlocks] at h
      omega)

theorem lowestBlocks_nodup (s : State) (need : Nat) : (lowestBlocks s need).Nodup :=
  Tbl.lowestFree_nodup _ _ _ _

theorem lowestBlocks_free {s : State} {need b : Nat} (h : b ∈ lowestBlocks s need) :
    Tbl.look s.store.blocks b = none := (Tbl.lowestFree_spec _ _ _ _ _ h).1

/-! ### Blocks written and read back -/

theorem newBlocks_numbers (h : Nat) (f : List Octet) (l : List Nat) : (newBlocks h f l).map Prod.fst = l := by
  simp [newBlocks, List.map_map, Function.comp_def, List.zipIdx_map_fst]

/-- Consecutive slices of 128 octets, put together again. -/
theorem flatMap_slices (f : List Octet) (l : List Nat) (k : Nat) :
    ((l.zipIdx k).flatMap fun p => slice f (128 * p.2) 128) = slice f (128 * k) (128 * l.length) := by
  induction l generalizing k with
  | nil => simp [slice]
  | cons b l ih =>
    rw [List.zipIdx_cons, List.flatMap_cons, ih, List.length_cons]
    simp only [slice]
    rw [show 128 * (l.length + 1) = 128 + 128 * l.length by ring, List.take_add, List.drop_drop]
    congr 3

/-- A new block reads back as its slice of the frame, held by the new handle. -/
theorem look_storeFrame_new {f : List Octet} {c : TClass} {t : Option TagFields} {s : State} {p : Nat × Nat}
    (h : p ∈ (lowestBlocks s (blocksNeeded f.length)).zipIdx) :
    Tbl.look (storeFrame f c t s).store.blocks p.1 =
      some { owner := .held (lowestHandle s), data := slice f (128 * p.2) 128, check := 0 } := by
  rw [storeFrame_blocks]
  apply Tbl.look_putAll_of_mem
  · rw [newBlocks_numbers]
    exact lowestBlocks_nodup s _
  · exact List.mem_map_of_mem h

theorem look_storeFrame_old {f : List Octet} {c : TClass} {t : Option TagFields} {s : State} {b : Nat}
    (h : b ∉ lowestBlocks s (blocksNeeded f.length)) :
    Tbl.look (storeFrame f c t s).store.blocks b = Tbl.look s.store.blocks b := by
  rw [storeFrame_blocks]
  apply Tbl.look_putAll_of_notMem
  rwa [newBlocks_numbers]

theorem storedFrame_congr {s x : State} {r g : Handle} (hb : x.store.blocks = s.store.blocks)
    (hr : g.blocks = r.blocks) : storedFrame x g = storedFrame s r := by rw [storedFrame, storedFrame, hb, hr]

/-- With storage for it, a stored frame reads back octet for octet (R28, R29). -/
theorem storedFrame_storeFrame {f : List Octet} {s : State} (c : TClass) (t : Option TagFields)
    (room : HasRoom f s) : storedFrame (storeFrame f c t s) (storedHandle f c t s) = f := by
  have len := lowestBlocks_length room.1
  have data := flatMap_slices f (lowestBlocks s (blocksNeeded f.length)) 0
  have all : f.length ≤ 128 * blocksNeeded f.length := by
    rw [blocksNeeded]
    omega
  calc storedFrame (storeFrame f c t s) (storedHandle f c t s)
      = (lowestBlocks s (blocksNeeded f.length)).zipIdx.flatMap fun p => slice f (128 * p.2) 128 := by
        rw [storedFrame, ← List.zipIdx_map_fst 0 (storedHandle f c t s).blocks, List.flatMap_map]
        refine List.flatMap_congr fun p hp => ?_
        rw [look_storeFrame_new hp]
    _ = f := by rw [data, len, slice, Nat.mul_zero, List.drop_zero, List.take_of_length_le all]

/-! ### Storage freed again -/

/-- The blocks of a frame stored in `s` are free again, as they were, once its handle is freed: no block of `s` is
held by that handle (R28). -/
theorem look_of_freed {f : List Octet} {c : TClass} {t : Option TagFields} {s x : State}
    (wf : StoreInv s) (own : BlockInv s) (free : handleOf s (lowestHandle s) = none)
    (hx : x.store.blocks =
      Tbl.keep (fun b => b.owner != .held (lowestHandle s)) (storeFrame f c t s).store.blocks) (b : Nat) :
    Tbl.look x.store.blocks b = Tbl.look s.store.blocks b := by
  have wf' : Tbl.wf (storeFrame f c t s).store.blocks = true := by
    rw [storeFrame_blocks]
    exact Tbl.wf_putAll _ _ wf.1
  rw [hx, Tbl.look_keep _ wf']
  by_cases new : b ∈ lowestBlocks s (blocksNeeded f.length)
  · have numbered := new
    rw [← List.zipIdx_map_fst 0 (lowestBlocks s _)] at numbered
    obtain ⟨p, hp, rfl⟩ := List.mem_map.mp numbered
    rw [look_storeFrame_new hp, lowestBlocks_free new]
    simp [Option.filter]
  · rw [look_storeFrame_old new]
    cases e : Tbl.look s.store.blocks b with
    | none => rfl
    | some k =>
      have other : k.owner ≠ .held (lowestHandle s) := by
        intro held
        obtain ⟨r, live, _⟩ := own.2.2 _ _ _ e held
        simp [free] at live
      simp [Option.filter, other]

/-! ### References -/

theorem handleOf_release_ne (p : Option Port) {h n : Nat} (s : State) (hn : n ≠ h) :
    handleOf (release p h s) n = handleOf s n := by
  obtain ⟨_, e⟩ | ⟨r, _, ⟨_, e⟩ | ⟨_, _, e⟩ | ⟨_, _, _, e⟩ | ⟨_, _, _, e⟩⟩ := release_cases p h s <;> rw [e]
  · rw [handleOf_quarantineHandle, if_neg hn]
  · rw [handleOf_freeHandle, if_neg hn]
  · rw [handleOf_writeHandle, if_neg hn]

/-- The release of a live handle's last reference frees it (R32). -/
theorem release_last {p : Option Port} {h : Nat} {s : State} {r : Handle} (live : handleOf s h = some r)
    (q : r.quarantined = false) (c : r.check = 0) (last : r.refs ≤ 1) :
    release p h s = freeHandle h s := by simp [release, live, q, c, last]

/-- The release of another reference lowers the count (R32). -/
theorem release_more {p : Option Port} {h : Nat} {s : State} {r : Handle} (live : handleOf s h = some r)
    (q : r.quarantined = false) (c : r.check = 0) (more : 1 < r.refs) :
    release p h s = writeHandle h (fun r => { r with refs := r.refs - 1 }) s := by
  simp [release, live, q, c, Nat.not_le.mpr more]

/-! ### The bay queues beside storage -/

section
variable (q : BayQueue) (s : State)

@[simp] theorem startPause_queue : (startPause s).bay.queue q = s.bay.queue q := by
  unfold startPause
  split
  · cases q <;> rfl
  · rfl

@[simp] theorem pauseTest_queue : (pauseTest s).bay.queue q = s.bay.queue q := by
  unfold pauseTest assertPause releasePause makePausePending
  split
  · split
    · simp
    · split <;> simp
  · rfl

@[simp] theorem storeFrame_queue (f : List Octet) (c : TClass) (t : Option TagFields) :
    (storeFrame f c t s).bay.queue q = s.bay.queue q := by simp [storeFrame]

@[simp] theorem freeHandle_queue (h : Nat) : (freeHandle h s).bay.queue q = s.bay.queue q := by
  simp [freeHandle]

@[simp] theorem writeHandle_queue (h : Nat) (f : Handle → Handle) :
    (writeHandle h f s).bay.queue q = s.bay.queue q := by
  unfold writeHandle
  split <;> rfl

@[simp] theorem setRefs_queue (h n : Nat) : (setRefs h n s).bay.queue q = s.bay.queue q :=
  writeHandle_queue q s h _

@[simp] theorem release_queue (p : Option Port) (h : Nat) : (release p h s).bay.queue q = s.bay.queue q := by
  obtain ⟨_, e⟩ | ⟨r, _, ⟨_, e⟩ | ⟨_, _, e⟩ | ⟨_, _, _, e⟩ | ⟨_, _, _, e⟩⟩ := release_cases p h s <;> rw [e]
  · rfl
  · exact freeHandle_queue q s h
  · exact writeHandle_queue q s h _

end

@[simp] theorem BayEgress.queue_onQueue_self (b : BayEgress) (q : BayQueue) (g : Queue → Queue) :
    (b.onQueue q g).queue q = g (b.queue q) := by cases q <;> rfl

theorem BayEgress.queue_onQueue_ne (b : BayEgress) {q n : BayQueue} (g : Queue → Queue) (h : n ≠ q) :
    (b.onQueue q g).queue n = b.queue n := by
  cases q <;> cases n <;> simp_all [BayEgress.onQueue, BayEgress.queue]

/-! ### A stored frame offered to a bay queue -/

/-- A frame stored, given its one reference and offered to a bay queue: what becomes of an untagged uplink frame
(R26) and of a reply to B (R181). -/
def storeForBay (p : Option Port) (q : BayQueue) (f : List Octet) (c : TClass) (t : Option TagFields)
    (s : State) : State :=
  (offerBay p q (lowestHandle s) (setRefs (lowestHandle s) 1 (storeFrame f c t s))).2

theorem offerBay_of_room {p : Option Port} {q : BayQueue} {h : Nat} {s : State}
    (room : (s.bay.queue q).entries.length < bayCapacity q) :
    (offerBay p q h s).2 = s.onBay fun b => b.onQueue q fun x =>
      x.join { handle := h, seqOffset := false, fcsCorrupt := false } := by simp [offerBay, room]

theorem offerBay_of_full {p : Option Port} {q : BayQueue} {h : Nat} {s : State}
    (full : bayCapacity q ≤ (s.bay.queue q).entries.length) :
    (offerBay p q h s).2 = (release p h s).onBay fun b => b.onQueue q Queue.refuse := by
  simp [offerBay, Nat.not_lt.mpr full]

section
variable (p : Option Port) (q : BayQueue) (f : List Octet) (c : TClass) (t : Option TagFields) (s : State)

theorem offerBay_storage (h : Nat) : OnlyStorage s (offerBay p q h s).2 := by
  rcases Nat.lt_or_ge (s.bay.queue q).entries.length (bayCapacity q) with room | full
  · rw [offerBay_of_room room]
    exact onBay_storage _ s
  · rw [offerBay_of_full full]
    exact (release_storage p h s).trans (onBay_storage _ _)

theorem storeForBay_storage : OnlyStorage s (storeForBay p q f c t s) :=
  ((storeFrame_storage f c t s).trans (setRefs_storage _ 1 _)).trans (offerBay_storage p q _ _)

/-- The handle of the stored frame with its one reference. -/
theorem handleOf_setRefs_storeFrame (k n : Nat) :
    handleOf (setRefs (lowestHandle s) k (storeFrame f c t s)) n =
      if n = lowestHandle s then some { storedHandle f c t s with refs := k } else handleOf s n := by
  rw [handleOf_setRefs, handleOf_storeFrame, handleOf_storeFrame, if_pos rfl]
  split <;> rfl

variable {p q f c t s}

theorem handleOf_storeForBay_ne {n : Nat} (hn : n ≠ lowestHandle s) :
    handleOf (storeForBay p q f c t s) n = handleOf s n := by
  have placed := handleOf_setRefs_storeFrame f c t s 1 n
  rw [if_neg hn] at placed
  rw [← placed, storeForBay]
  rcases Nat.lt_or_ge (s.bay.queue q).entries.length (bayCapacity q) with room | full
  · rw [offerBay_of_room (by simpa using room)]
    rfl
  · rw [offerBay_of_full (by simpa using full)]
    exact handleOf_release_ne p _ hn

theorem storeForBay_queue_ne {n : BayQueue} (hn : n ≠ q) :
    (storeForBay p q f c t s).bay.queue n = s.bay.queue n := by
  rw [storeForBay]
  rcases Nat.lt_or_ge (s.bay.queue q).entries.length (bayCapacity q) with room | full
  · rw [offerBay_of_room (by simpa using room)]
    simp [BayEgress.queue_onQueue_ne _ _ hn]
  · rw [offerBay_of_full (by simpa using full)]
    simp [BayEgress.queue_onQueue_ne _ _ hn]

/-- With room in the queue the frame stands at its tail, in storage with one reference (R153). -/
theorem storeForBay_of_room (room : (s.bay.queue q).entries.length < bayCapacity q) :
    handleOf (storeForBay p q f c t s) (lowestHandle s) = some { storedHandle f c t s with refs := 1 } ∧
    (storeForBay p q f c t s).store.blocks = (storeFrame f c t s).store.blocks ∧
    (storeForBay p q f c t s).bay.queue q =
      (s.bay.queue q).join { handle := lowestHandle s, seqOffset := false, fcsCorrupt := false } := by
  have placed := handleOf_setRefs_storeFrame f c t s 1 (lowestHandle s)
  rw [if_pos rfl] at placed
  rw [storeForBay, offerBay_of_room (by simpa using room)]
  exact ⟨placed, writeHandle_blocks _ _ _, by simp⟩

/-- So it reads back octet for octet (R28, R153). -/
theorem storeForBay_joined (stored : HasRoom f s) (room : (s.bay.queue q).entries.length < bayCapacity q) :
    ∃ g, handleOf (storeForBay p q f c t s) (lowestHandle s) = some g ∧
      storedFrame (storeForBay p q f c t s) g = f ∧ g.refs = 1 ∧ g.cls = c ∧ g.tag = t ∧
      (storeForBay p q f c t s).bay.queue q =
        (s.bay.queue q).join { handle := lowestHandle s, seqOffset := false, fcsCorrupt := false } := by
  obtain ⟨live, blocks, tail⟩ := storeForBay_of_room (p := p) (f := f) (c := c) (t := t) room
  exact ⟨_, live, (storedFrame_congr blocks rfl).trans (storedFrame_storeFrame c t stored), rfl, rfl, rfl, tail⟩

/-- With the queue full the frame is refused there and its storage freed (R153). -/
theorem storeForBay_of_full (full : bayCapacity q ≤ (s.bay.queue q).entries.length) :
    handleOf (storeForBay p q f c t s) (lowestHandle s) = none ∧
    (storeForBay p q f c t s).store.blocks =
      Tbl.keep (fun b => b.owner != .held (lowestHandle s)) (storeFrame f c t s).store.blocks ∧
    (storeForBay p q f c t s).bay.queue q = (s.bay.queue q).refuse := by
  have placed := handleOf_setRefs_storeFrame f c t s 1 (lowestHandle s)
  rw [if_pos rfl] at placed
  have freed := release_last (p := p) placed rfl rfl (Nat.le_refl 1)
  rw [storeForBay, offerBay_of_full (by simpa using full), freed]
  refine ⟨?_, ?_, by simp⟩
  · exact (handleOf_freeHandle _ _ _).trans (if_pos rfl)
  · rw [State.onBay_store, freeHandle_blocks, setRefs, writeHandle_blocks]

end

end Sys2Proof.Machine

/-! SUPPORT. Copies on the uplinks (R123, R139): what one uplink's part leaves of its egress, of the handle's
references and of the pools, and the same for both parts of a frame that injection does not touch. -/

namespace Sys2Proof.Machine

theorem OnlyStorage.uplink {s t : State} (h : OnlyStorage s t) (u : Uplink) : t.uplink u = s.uplink u := by
  cases u
  · exact h.u1
  · exact h.u2

theorem eq_other_of_ne : ∀ {u v : Uplink}, v ≠ u → v = other u
  | .u1, .u2, _ => rfl
  | .u2, .u1, _ => rfl
  | .u1, .u1, h => absurd rfl h
  | .u2, .u2, h => absurd rfl h

theorem State.onUplink_uplink_ne (s : State) {u v : Uplink} (f : UplinkEgress → UplinkEgress) (h : v ≠ u) :
    (s.onUplink u f).uplink v = s.uplink v := by
  rw [eq_other_of_ne h, State.onUplink_uplink_other]

/-- Two updates of an uplink that agree on it as it is are the same. -/
theorem State.onUplink_congr (s : State) {u : Uplink} {f g : UplinkEgress → UplinkEgress}
    (h : f (s.uplink u) = g (s.uplink u)) : s.onUplink u f = s.onUplink u g := by
  cases u
  · exact congrArg (fun e => { s with u1 := e }) h
  · exact congrArg (fun e => { s with u2 := e }) h

@[simp] theorem handleOf_onUplink (s : State) (u : Uplink) (f : UplinkEgress → UplinkEgress) (n : Nat) :
    handleOf (s.onUplink u f) n = handleOf s n := by simp [handleOf]

@[simp] theorem handleOf_onPairing (s : State) (f : Pairing → Pairing) (n : Nat) :
    handleOf (s.onPairing f) n = handleOf s n := rfl

/-! ### One uplink's part -/

/-- A copy that injection leaves alone joins its queue: the link is UP and the queue has room (R123, R139). -/
def copyJoins (c : TClass) (e : UplinkEgress) : Bool :=
  e.linkUp && decide ((e.queue (slotClassOf c)).entries.length < uplinkCapacity (slotClassOf c))

/-- An uplink after its part of R123, for a copy that injection leaves alone. -/
def UplinkEgress.offered (e : UplinkEgress) (c : TClass) (h : Nat) : UplinkEgress :=
  if e.linkUp = false then e
  else if (e.queue (slotClassOf c)).entries.length < uplinkCapacity (slotClassOf c) then
    e.onQueue (slotClassOf c) fun x => x.join (copyEntry h false false)
  else e.onQueue (slotClassOf c) Queue.refuse

/-- The counting of a copy that a DOWN link withholds (R123). -/
def Pairing.countDown (p : Pairing) : Pairing :=
  p.onCounters fun c => { c with linkDownCopies := c.linkDownCopies + 1 }

/-- One uplink's part of R123, where injection leaves the copy alone. -/
theorem placeCopy_cases (p : Option Port) (h : Nat) (c : TClass) (u : Uplink) (s : State) :
    (copyJoins c (s.uplink u) = true ∧ (s.uplink u).linkUp = true ∧
      placeCopy p h c none u s = s.onUplink u fun e => e.offered c h) ∨
    (copyJoins c (s.uplink u) = false ∧ (s.uplink u).linkUp = true ∧
      placeCopy p h c none u s = (release p h s).onUplink u fun e => e.offered c h) ∨
    (copyJoins c (s.uplink u) = false ∧ (s.uplink u).linkUp = false ∧
      placeCopy p h c none u s = (release p h s).onPairing Pairing.countDown) := by
  have kept := (release_storage p h s).uplink u
  cases up : (s.uplink u).linkUp
  · exact .inr (.inr ⟨by simp [copyJoins, up], rfl, by simp [placeCopy, up]; rfl⟩)
  · by_cases room : ((s.uplink u).queue (slotClassOf c)).entries.length < uplinkCapacity (slotClassOf c)
    · refine .inl ⟨by simp [copyJoins, up, room], rfl, ?_⟩
      simp only [placeCopy, up, if_true, offerUplink, room]
      exact s.onUplink_congr (by simp [UplinkEgress.offered, up, room])
    · refine .inr (.inl ⟨by simp [copyJoins, room], rfl, ?_⟩)
      simp only [placeCopy, up, if_true, offerUplink, room, if_false]
      exact (release p h s).onUplink_congr (by simp [UplinkEgress.offered, kept, up, room])

/-- A handle with `n` references to its frame; with none it is free (R32). -/
def Handle.held (r : Handle) (n : Nat) : Option Handle := if n = 0 then none else some { r with refs := n }

/-- A release of one of a live handle's references (R32). -/
theorem handleOf_release_held {p : Option Port} {h n : Nat} {s : State} {r : Handle}
    (live : handleOf s h = r.held (n + 1)) (q : r.quarantined = false) (c : r.check = 0) :
    handleOf (release p h s) h = r.held n := by
  simp only [Handle.held, Nat.succ_ne_zero, if_false] at live
  cases n with
  | zero =>
    rw [release_last live q c (Nat.le_refl 1), handleOf_freeHandle, if_pos rfl]
    rfl
  | succ n =>
    rw [release_more live q c (by simp), handleOf_writeHandle, if_pos rfl, live]
    simp [Handle.held, c]

/-- A release that leaves references leaves the blocks (R32). -/
theorem release_blocks_of_held {p : Option Port} {h n : Nat} {s : State} {r : Handle}
    (live : handleOf s h = r.held (n + 1)) (q : r.quarantined = false) (c : r.check = 0) (left : 0 < n) :
    (release p h s).store.blocks = s.store.blocks := by
  simp only [Handle.held, Nat.succ_ne_zero, if_false] at live
  rw [release_more live q c (by simpa using left), writeHandle_blocks]

section
variable {p : Option Port} {h : Nat} {c : TClass} {u : Uplink} {s : State}

theorem placeCopy_uplink : (placeCopy p h c none u s).uplink u = (s.uplink u).offered c h := by
  have kept := (release_storage p h s).uplink u
  obtain ⟨_, _, e⟩ | ⟨_, _, e⟩ | ⟨_, down, e⟩ := placeCopy_cases p h c u s <;> rw [e]
  · rw [State.onUplink_uplink]
  · rw [State.onUplink_uplink, kept]
  · rw [State.onPairing_uplink, kept, UplinkEgress.offered, if_pos down]

theorem placeCopy_uplink_ne {v : Uplink} (hv : v ≠ u) :
    (placeCopy p h c none u s).uplink v = s.uplink v := by
  have kept := (release_storage p h s).uplink v
  obtain ⟨_, _, e⟩ | ⟨_, _, e⟩ | ⟨_, _, e⟩ := placeCopy_cases p h c u s <;> rw [e]
  · rw [State.onUplink_uplink_ne _ _ hv]
  · rw [State.onUplink_uplink_ne _ _ hv, kept]
  · rw [State.onPairing_uplink, kept]

theorem placeCopy_pairing : (placeCopy p h c none u s).pairing =
    if (s.uplink u).linkUp then s.pairing else s.pairing.countDown := by
  have kept := (release_storage p h s).pairing
  obtain ⟨_, up, e⟩ | ⟨_, up, e⟩ | ⟨_, up, e⟩ := placeCopy_cases p h c u s <;> rw [e, up]
  · rw [State.onUplink_pairing]; rfl
  · rw [State.onUplink_pairing, kept]; rfl
  · rw [State.onPairing_pairing, kept]; rfl

theorem placeCopy_notices : (placeCopy p h c none u s).notices = s.notices := by
  have kept := (release_storage p h s).notices
  obtain ⟨_, _, e⟩ | ⟨_, _, e⟩ | ⟨_, _, e⟩ := placeCopy_cases p h c u s <;> rw [e]
  · rw [State.onUplink_notices]
  · rw [State.onUplink_notices, kept]
  · rw [State.onPairing_notices, kept]

theorem placeCopy_queue (q : BayQueue) : (placeCopy p h c none u s).bay.queue q = s.bay.queue q := by
  obtain ⟨_, _, e⟩ | ⟨_, _, e⟩ | ⟨_, _, e⟩ := placeCopy_cases p h c u s <;> rw [e] <;> simp

theorem handleOf_placeCopy_ne {n : Nat} (hn : n ≠ h) :
    handleOf (placeCopy p h c none u s) n = handleOf s n := by
  obtain ⟨_, _, e⟩ | ⟨_, _, e⟩ | ⟨_, _, e⟩ := placeCopy_cases p h c u s <;> rw [e]
  · exact handleOf_onUplink _ _ _ _
  · rw [handleOf_onUplink, handleOf_release_ne p s hn]
  · rw [handleOf_onPairing, handleOf_release_ne p s hn]

/-- The reference meant for the copy is kept where it joins and released where it does not (R123). -/
theorem handleOf_placeCopy {n : Nat} {r : Handle} (live : handleOf s h = r.held (n + 1))
    (q : r.quarantined = false) (k : r.check = 0) :
    handleOf (placeCopy p h c none u s) h = r.held (n + (copyJoins c (s.uplink u)).toNat) := by
  obtain ⟨j, _, e⟩ | ⟨j, _, e⟩ | ⟨j, _, e⟩ := placeCopy_cases p h c u s <;> rw [e, j]
  · rw [handleOf_onUplink, live]; rfl
  · rw [handleOf_onUplink, handleOf_release_held live q k]; rfl
  · rw [handleOf_onPairing, handleOf_release_held live q k]; rfl

/-- While references are left the frame's blocks are kept (R32). -/
theorem placeCopy_blocks {n : Nat} {r : Handle} (live : handleOf s h = r.held (n + 1))
    (q : r.quarantined = false) (k : r.check = 0)
    (left : 0 < n + (copyJoins c (s.uplink u)).toNat) :
    (placeCopy p h c none u s).store.blocks = s.store.blocks := by
  obtain ⟨j, _, e⟩ | ⟨j, _, e⟩ | ⟨j, _, e⟩ := placeCopy_cases p h c u s <;> rw [e] <;> rw [j] at left
  · rw [State.onUplink_store]
  · rw [State.onUplink_store, release_blocks_of_held live q k left]
  · rw [State.onPairing_store, release_blocks_of_held live q k left]

end

/-! ### Both parts -/

/-- How many copies of a frame join their queues, where injection leaves them alone. -/
def copiesJoined (c : TClass) (s : State) : Nat :=
  (copyJoins c (s.uplink .u1)).toNat + (copyJoins c (s.uplink .u2)).toNat

section
variable {p : Option Port} {h : Nat} {c : TClass} {s : State}

/-- Without injection: two references, U1's part, then U2's (R119, R126). -/
theorem placeCopies_plain : placeCopies p h c false s =
    placeCopy p h c none .u2 (placeCopy p h c none .u1 (setRefs h 2 s)) := by
  simp [placeCopies, injectedKind, spendInjection]

theorem setRefs_uplink (n : Nat) (u : Uplink) : (setRefs h n s).uplink u = s.uplink u :=
  (setRefs_storage h n s).uplink u

theorem placeCopies_uplink (u : Uplink) :
    (placeCopies p h c false s).uplink u = (s.uplink u).offered c h := by
  rw [placeCopies_plain]
  cases u
  · rw [placeCopy_uplink_ne (by decide), placeCopy_uplink, setRefs_uplink]
  · rw [placeCopy_uplink, placeCopy_uplink_ne (by decide), setRefs_uplink]

theorem placeCopies_pairing : (placeCopies p h c false s).pairing =
    let x := if (s.uplink .u1).linkUp then s.pairing else s.pairing.countDown
    if (s.uplink .u2).linkUp then x else x.countDown := by
  rw [placeCopies_plain, placeCopy_pairing, placeCopy_pairing, placeCopy_uplink_ne (by decide),
    setRefs_uplink, setRefs_uplink, (setRefs_storage h 2 s).pairing]

theorem placeCopies_notices : (placeCopies p h c false s).notices = s.notices := by
  rw [placeCopies_plain, placeCopy_notices, placeCopy_notices, (setRefs_storage h 2 s).notices]

theorem placeCopies_queue (q : BayQueue) : (placeCopies p h c false s).bay.queue q = s.bay.queue q := by
  rw [placeCopies_plain, placeCopy_queue, placeCopy_queue, setRefs_queue]

theorem handleOf_placeCopies_ne {n : Nat} (hn : n ≠ h) :
    handleOf (placeCopies p h c false s) n = handleOf s n := by
  rw [placeCopies_plain, handleOf_placeCopy_ne hn, handleOf_placeCopy_ne hn, handleOf_setRefs, if_neg hn]

/-- The handle keeps a reference for each copy that has joined, and with the last of none the frame goes
(R32, R123). -/
theorem placeCopies_held {r : Handle} (live : handleOf s h = some r) (q : r.quarantined = false)
    (k : r.check = 0) :
    handleOf (placeCopies p h c false s) h = r.held (copiesJoined c s) ∧
    (0 < copiesJoined c s → (placeCopies p h c false s).store.blocks = s.store.blocks) := by
  have two : handleOf (setRefs h 2 s) h = r.held (1 + 1) := by
    rw [handleOf_setRefs, if_pos rfl, live]
    simp [Handle.held, k]
  have one := handleOf_placeCopy (p := p) (c := c) (u := .u1) two q k
  rw [setRefs_uplink, Nat.add_comm] at one
  have last := handleOf_placeCopy (p := p) (c := c) (u := .u2) one q k
  rw [placeCopy_uplink_ne (by decide), setRefs_uplink] at last
  rw [placeCopies_plain]
  refine ⟨last, fun left => ?_⟩
  rw [placeCopy_blocks one q k, placeCopy_blocks two q k (by omega), setRefs, writeHandle_blocks]
  rwa [placeCopy_uplink_ne (by decide), setRefs_uplink]

end

end Sys2Proof.Machine

/-! SUPPORT. Replies (R11, R126, R181): where a reply's storage comes from, and what its delivery to B and to the
uplinks leaves. -/

namespace Sys2Proof.Machine

/-! ### Storage for a frame built in the part -/

theorem admits_built_iff (f : List Octet) (s : State) : admits s f.length 0 0 = true ↔ HasRoom f s := by
  simp [admits, HasRoom]

theorem admitBuilt_of_room {f : List Octet} {s : State} (c : TClass) (room : HasRoom f s) :
    admitBuilt f c s = (some (lowestHandle s), storeFrame f c none s) := by
  simp [admitBuilt, offerStorage, (admits_built_iff f s).mpr room]

theorem admitBuilt_of_no_room {f : List Octet} {s : State} (c : TClass) (full : ¬ HasRoom f s) :
    admitBuilt f c s = (none, s.onStore fun st => { st with internalDrops := st.internalDrops + 1 }) := by
  have refused : admits s f.length 0 0 = false :=
    Bool.eq_false_iff.mpr fun h => full ((admits_built_iff f s).mp h)
  simp [admitBuilt, offerStorage, refused]

/-- Replies Built counts one (R181). -/
def countReply (s : State) : State := s.onNotices fun n => { n with repliesBuilt := n.repliesBuilt + 1 }

section
variable {code : Octet} {r : Request} {a : Answer} {s : State}

/-- With storage a reply is stored in the lowest free handle and delivered (R31, R181). -/
theorem sendReply_of_room (room : HasRoom (replyOctets code r a s) s) :
    sendReply code r a s = deliver (lowestHandle s) r.port
      (storeFrame (replyOctets code r a s) (if r.port = .b then .general else .timing) none (countReply s)) := by
  have stored := admitBuilt_of_room (s := countReply s) (if r.port = .b then .general else .timing) room
  rw [countReply] at stored ⊢
  rw [sendReply, stored]
  rfl

/-- Without storage a reply is dropped and counted (R31, R181). -/
theorem sendReply_of_no_room (full : ¬ HasRoom (replyOctets code r a s) s) :
    sendReply code r a s =
      (countReply s).onStore fun st => { st with internalDrops := st.internalDrops + 1 } := by
  have refused := admitBuilt_of_no_room (s := countReply s) (if r.port = .b then .general else .timing) full
  rw [countReply] at refused ⊢
  rw [sendReply, refused]

/-- A reply to B is stored, and offered to the Service queue (R181). -/
theorem sendReply_to_bay (room : HasRoom (replyOctets code r a s) s) (hb : r.port = .b) :
    sendReply code r a s =
      storeForBay (some .b) .service (replyOctets code r a s) .general none (countReply s) := by
  rw [sendReply_of_room room, if_pos hb, deliver, if_pos hb]
  rfl

/-- A reply to an uplink is stored, and numbered from entry 0 (R126, R181). -/
theorem sendReply_to_uplink (room : HasRoom (replyOctets code r a s) s) (hb : r.port ≠ .b) :
    sendReply code r a s =
      pairOwnFrame (some r.port) (lowestHandle s) .timing false
        (storeFrame (replyOctets code r a s) .timing none (countReply s)) := by
  rw [sendReply_of_room room, if_neg hb, deliver, if_neg hb]

end

/-! ### Stamping from entry 0 -/

section
variable {p : Option Port} {h : Nat} {c : TClass} {s : State}

/-- Entry 0 as a stamping leaves it: its next number of the class taken, Last Seen written (R121, R126). -/
def OriginEntry.stamped (e : OriginEntry) (c : TClass) (now : Time) : OriginEntry :=
  { e with next := e.next.set c (e.next.get c + 1), lastSeen := now }

theorem prepareZero_of_holding {e : OriginEntry} (zero : originOf s 0 = some e) (holds : e.check = 0) :
    prepareZero p c s = putOrigin 0 { e with lastSeen := s.stationTime } s := by
  simp [prepareZero, verifyOrigin, touchOrigin, zero, holds]

theorem Tbl.put_put {α : Type} (t : Tbl α) (k : Nat) (a b : α) :
    Tbl.put (Tbl.put t k a) k b = Tbl.put t k b := by
  induction t with
  | nil => simp [Tbl.put]
  | cons x t ih =>
    obtain ⟨j, d⟩ := x
    rcases Nat.lt_trichotomy k j with lt | rfl | gt
    · simp [Tbl.put, lt]
    · simp [Tbl.put]
    · simp [Tbl.put, Nat.not_lt.mpr gt.le, gt.ne', ih]

theorem putOrigin_putOrigin (i : Nat) (d e : OriginEntry) (s : State) :
    putOrigin i e (putOrigin i d s) = putOrigin i e s := by
  simp [putOrigin, State.onPairing, Tbl.put_put]

theorem writeHandle_putOrigin (i : Nat) (e : OriginEntry) (h : Nat) (f : Handle → Handle) (s : State) :
    writeHandle h f (putOrigin i e s) = putOrigin i e (writeHandle h f s) := by
  have same : handleOf (putOrigin i e s) h = handleOf s h := rfl
  rw [writeHandle, writeHandle, same]
  split <;> rfl

theorem originOf_putOrigin (i j : Nat) (e : OriginEntry) (s : State) :
    originOf (putOrigin i e s) j = if j = i then some { e with check := 0 } else originOf s j :=
  Tbl.look_put _ _ _ _

/-- A frame stamped from entry 0 while its Check holds: the handle takes the tag fields, the entry advances
(R121, R126). -/
theorem stampZero_of_holding {e : OriginEntry} (zero : originOf s 0 = some e) (holds : e.check = 0) :
    stamp (.entry 0) h c (prepareZero p c s) =
      putOrigin 0 (e.stamped c s.stationTime) (writeHandle h (fun r =>
        { r with tag := some (stampFields (e.next.get c) e.epoch c s.settings) }) s) := by
  rw [prepareZero_of_holding zero holds, stamp]
  simp only [originOf_putOrigin, if_true]
  rw [writeHandle_putOrigin, putOrigin_putOrigin]
  rfl

theorem handleOf_stamp_ne {k : Numbering} {n : Nat} (hn : n ≠ h) :
    handleOf (stamp k h c s) n = handleOf s n := by
  have kept := fun f => handleOf_writeHandle h n f s
  simp only [if_neg hn] at kept
  unfold stamp
  split
  · split
    · rfl
    · exact kept _
  · exact kept _

theorem stamp_notices {k : Numbering} : (stamp k h c s).notices = s.notices := by
  unfold stamp
  split
  · split
    · rfl
    · exact (writeHandle_storage h _ s).notices
  · exact (writeHandle_storage h _ s).notices

end

/-! ### A frame of the part's own, without injection -/

theorem OnlyPairing.handleOf {s t : State} (k : OnlyPairing s t) (n : Nat) : handleOf t n = handleOf s n := by
  rw [Machine.handleOf, Machine.handleOf, k.store]

section
variable {p : Option Port} {h : Nat} {c : TClass} {s : State}

theorem handleOf_pairOwnFrame_ne {n : Nat} (hn : n ≠ h) :
    handleOf (pairOwnFrame p h c false s) n = handleOf s n := by
  unfold pairOwnFrame
  split
  · rw [noLinkDrop, handleOf_onPairing, handleOf_freeHandle, if_neg hn]
  · rw [handleOf_placeCopies_ne hn, handleOf_stamp_ne hn, (prepareZero_pairing p c s).handleOf]

theorem pairOwnFrame_notices : (pairOwnFrame p h c false s).notices = s.notices := by
  unfold pairOwnFrame
  split
  · exact (freeHandle_storage h s).notices
  · rw [placeCopies_notices, stamp_notices, (prepareZero_pairing p c s).notices]

end

/-- A frame of the part's own, stored and stamped from entry 0 `e` (R121, R126). -/
def ownStamped (e : OriginEntry) (f : List Octet) (c : TClass) (s : State) : State :=
  putOrigin 0 (e.stamped c s.stationTime) (writeHandle (lowestHandle s) (fun r =>
    { r with tag := some (stampFields (e.next.get c) e.epoch c s.settings) }) (storeFrame f c none s))

/-- The handle of such a frame. -/
def ownHandle (e : OriginEntry) (f : List Octet) (c : TClass) (s : State) : Handle :=
  { storedHandle f c none s with tag := some (stampFields (e.next.get c) e.epoch c s.settings) }

section
variable {e : OriginEntry} {f : List Octet} {c : TClass} {s : State}

/-- With a link UP and entry 0's Check holding, a stored frame is stamped and its copies go out (R126). -/
theorem pairOwnFrame_stored {p : Option Port} {b : Bool} (up : anyLinkUp s = true)
    (zero : originOf s 0 = some e) (holds : e.check = 0) :
    pairOwnFrame p (lowestHandle s) c b (storeFrame f c none s) =
      placeCopies p (lowestHandle s) c b (ownStamped e f c s) := by
  have kept := storeFrame_storage f c none s
  have up' : anyLinkUp (storeFrame f c none s) = true := by rwa [anyLinkUp, kept.u1, kept.u2]
  have zero' : originOf (storeFrame f c none s) 0 = some e := by rwa [originOf, kept.pairing]
  rw [pairOwnFrame, if_neg (by simp [up']), stampZero_of_holding zero' holds, kept.stationTime, kept.settings]
  rfl

theorem ownStamped_uplink (u : Uplink) : (ownStamped e f c s).uplink u = s.uplink u :=
  ((storeFrame_storage f c none s).trans (writeHandle_storage _ _ _)).uplink u

theorem ownStamped_queue (q : BayQueue) : (ownStamped e f c s).bay.queue q = s.bay.queue q := by
  simp [ownStamped, putOrigin]

theorem ownStamped_pairing : (ownStamped e f c s).pairing =
    { s.pairing with
      entries := Tbl.put s.pairing.entries 0 { e.stamped c s.stationTime with check := 0 } } := by
  have kept := ((storeFrame_storage f c none s).trans (writeHandle_storage (lowestHandle s) (fun r =>
    { r with tag := some (stampFields (e.next.get c) e.epoch c s.settings) }) _)).pairing
  rw [ownStamped, putOrigin, State.onPairing_pairing, kept]

theorem ownStamped_blocks : (ownStamped e f c s).store.blocks = (storeFrame f c none s).store.blocks :=
  writeHandle_blocks _ _ _

theorem handleOf_ownStamped : handleOf (ownStamped e f c s) (lowestHandle s) = some (ownHandle e f c s) := by
  rw [ownStamped, putOrigin, handleOf_onPairing, handleOf_writeHandle, if_pos rfl, handleOf_storeFrame,
    if_pos rfl]
  rfl

end

/-! ### The three ways of a reply -/

theorem countP_uplinks (p : Uplink → Bool) :
    [Uplink.u1, .u2].countP p = (p .u1).toNat + (p .u2).toNat := by
  cases h1 : p .u1 <;> cases h2 : p .u2 <;> simp [h1, h2]

section
variable {code : Octet} {r : Request} {a : Answer} {s : State}

theorem handleOf_sendReply_ne (room : HasRoom (replyOctets code r a s) s) {n : Nat}
    (hn : n ≠ lowestHandle s) : handleOf (sendReply code r a s) n = handleOf s n := by
  by_cases hb : r.port = .b
  · rw [sendReply_to_bay room hb]
    exact handleOf_storeForBay_ne hn
  · rw [sendReply_to_uplink room hb, handleOf_pairOwnFrame_ne hn]
    exact (handleOf_storeFrame _ _ _ (countReply s) n).trans (if_neg hn)

theorem sendReply_notices (room : HasRoom (replyOctets code r a s) s) :
    (sendReply code r a s).notices =
      { s.notices with repliesBuilt := s.notices.repliesBuilt + 1 } := by
  by_cases hb : r.port = .b
  · rw [sendReply_to_bay room hb]
    exact (storeForBay_storage _ _ _ _ _ (countReply s)).notices
  · rw [sendReply_to_uplink room hb, pairOwnFrame_notices]
    exact (storeFrame_storage _ _ _ (countReply s)).notices

/-- With neither link UP a reply to an uplink is dropped as it is stored (R126). -/
theorem sendReply_no_link (room : HasRoom (replyOctets code r a s) s) (hb : r.port ≠ .b)
    (down : anyLinkUp s = false) :
    sendReply code r a s = noLinkDrop (lowestHandle s)
      (storeFrame (replyOctets code r a s) .timing none (countReply s)) := by
  have kept := storeFrame_storage (replyOctets code r a s) .timing none (countReply s)
  rw [sendReply_to_uplink room hb, pairOwnFrame, if_pos]
  rw [anyLinkUp, kept.u1, kept.u2]
  exact down

/-- With a link UP and entry 0's Check holding, the copies of a reply to an uplink go out (R126). -/
theorem sendReply_linked {e : OriginEntry} (room : HasRoom (replyOctets code r a s) s) (hb : r.port ≠ .b)
    (up : anyLinkUp s = true) (zero : originOf s 0 = some e) (holds : e.check = 0) :
    sendReply code r a s = placeCopies (some r.port) (lowestHandle s) .timing false
      (ownStamped e (replyOctets code r a s) .timing (countReply s)) := by
  rw [sendReply_to_uplink room hb]
  exact pairOwnFrame_stored (s := countReply s) up zero holds

end

end Sys2Proof.Machine

/-! SUPPORT. Delivery of replies, case by case, and what a failing entry 0 changes of it (R116, R181). -/

namespace Sys2Proof.Machine

/-! ### Storage beside the Pairing Unit -/

/-- A state with another Pairing Unit and other fault reports in flight. -/
def State.withPairing (s : State) (p : Pairing) (l : List FaultReport) : State :=
  { s with pairing := p, reports := l }

section
variable (s : State) (p : Pairing) (l : List FaultReport)

theorem startPause_withPairing : startPause (s.withPairing p l) = (startPause s).withPairing p l := by
  unfold startPause
  simp only [State.withPairing]
  split <;> rfl

theorem makePausePending_withPairing (q : BitVec 16) :
    makePausePending q (s.withPairing p l) = (makePausePending q s).withPairing p l := by
  rw [makePausePending, makePausePending, ← startPause_withPairing]
  rfl

theorem assertPause_withPairing : assertPause (s.withPairing p l) = (assertPause s).withPairing p l := by
  rw [assertPause, assertPause, ← makePausePending_withPairing]
  rfl

theorem releasePause_withPairing : releasePause (s.withPairing p l) = (releasePause s).withPairing p l := by
  rw [releasePause, releasePause, ← makePausePending_withPairing]
  rfl

/-- The free-block test reads and writes nothing of the Pairing Unit (R33). -/
theorem pauseTest_withPairing : pauseTest (s.withPairing p l) = (pauseTest s).withPairing p l := by
  have free : freeBlocks (s.withPairing p l) = freeBlocks s := rfl
  have settings : (s.withPairing p l).settings = s.settings := rfl
  have pause : (s.withPairing p l).pause = s.pause := rfl
  rw [pauseTest, pauseTest, free, settings, pause]
  split
  · split
    · exact assertPause_withPairing s p l
    · split
      · exact releasePause_withPairing s p l
      · rfl
  · rfl

theorem storeFrame_withPairing (f : List Octet) (c : TClass) (t : Option TagFields) :
    storeFrame f c t (s.withPairing p l) = (storeFrame f c t s).withPairing p l := by
  rw [storeFrame, storeFrame, ← pauseTest_withPairing]
  rfl

end

@[simp] theorem startPause_reports (s : State) : (startPause s).reports = s.reports := by
  unfold startPause
  split <;> rfl

@[simp] theorem pauseTest_reports (s : State) : (pauseTest s).reports = s.reports := by
  unfold pauseTest assertPause releasePause makePausePending
  split
  · split
    · simp
    · split <;> simp
  · rfl

/-- Entry 0 rebuilt and reported (R114, R116). -/
theorem originCheckFails_zero (p : Option Port) (c : Option TClass) (s : State) :
    originCheckFails 0 p c s = s.withPairing
      { s.pairing with
        entries := Tbl.put s.pairing.entries 0
          (newOrigin .pinned s.loader.stationAddress s.pairing.epochCounter s.stationTime)
        epochCounter := s.pairing.epochCounter + 1 }
      (s.reports ++ [{ kind := .originCheck, location := 0, port := p, cls := c }]) := rfl

theorem originCheckFails_zero_storeFrame (p : Option Port) (d : Option TClass) (f : List Octet) (c : TClass)
    (t : Option TagFields) (s : State) :
    originCheckFails 0 p d (storeFrame f c t s) = storeFrame f c t (originCheckFails 0 p d s) := by
  have kept := storeFrame_storage f c t s
  have reports : (storeFrame f c t s).reports = s.reports := pauseTest_reports _
  rw [originCheckFails_zero, originCheckFails_zero, storeFrame_withPairing, kept.pairing, kept.loader,
    kept.stationTime, reports]

/-- A failing entry 0 is mended and reported: the Pairing Unit and the reports alone differ (R116). -/
theorem originFails_zero (p : Option Port) (c : Option TClass) (s : State) :
    OriginFails 0 p c s (originCheckFails 0 p c s) := by
  refine ⟨originCheckFails_pairing 0 p c s, ⟨fun j hj => ?_, fun h => absurd rfl h, fun _ => ⟨?_, rfl⟩⟩, rfl⟩
  · rw [originCheckFails_zero]
    exact Tbl.look_put_ne _ _ hj
  · rw [originCheckFails_zero]
    exact Tbl.look_put_self _ _ _

/-- A stamping from an entry 0 that fails its Check is one from the entry mended and reported (R116, R126). -/
theorem pairOwnFrame_of_failing {p : Option Port} {h : Nat} {c : TClass} {b : Bool} {e : OriginEntry} {s : State}
    (zero : originOf s 0 = some e) (bad : e.check ≠ 0) (up : anyLinkUp s = true) :
    pairOwnFrame p h c b s = pairOwnFrame p h c b (originCheckFails 0 p (some c) s) := by
  have mended : originOf (originCheckFails 0 p (some c) s) 0 =
      some (newOrigin .pinned s.loader.stationAddress s.pairing.epochCounter s.stationTime) :=
    Tbl.look_put_self _ _ _
  have found : verifyOrigin 0 p (some c) s = (some 0, originCheckFails 0 p (some c) s) := by
    simp only [verifyOrigin, zero, if_neg bad, if_true]
  have holds : verifyOrigin 0 p (some c) (originCheckFails 0 p (some c) s) =
      (some 0, originCheckFails 0 p (some c) s) := by
    simp only [verifyOrigin, mended, newOrigin, if_true]
  have prepared : prepareZero p c s = prepareZero p c (originCheckFails 0 p (some c) s) := by
    simp only [prepareZero, found, holds]
  have up' : anyLinkUp (originCheckFails 0 p (some c) s) = true := up
  simp only [pairOwnFrame, up, up', prepared, Bool.true_eq_false, if_false]

/-- A reply to an uplink with a failing entry 0 goes out as after the mending of entry 0 (R116, R181). -/
theorem sendReply_of_failing {code : Octet} {r : Request} {a : Answer} {e : OriginEntry} {s : State}
    (room : HasRoom (replyOctets code r a s) s) (hb : r.port ≠ .b) (up : anyLinkUp s = true)
    (zero : originOf s 0 = some e) (bad : e.check ≠ 0) :
    sendReply code r a s = sendReply code r a (originCheckFails 0 (some r.port) (some .timing) s) := by
  have octets : replyOctets code r a (originCheckFails 0 (some r.port) (some .timing) s) =
      replyOctets code r a s := rfl
  have kept := storeFrame_storage (replyOctets code r a s) .timing none (countReply s)
  have zero' : originOf (storeFrame (replyOctets code r a s) .timing none (countReply s)) 0 = some e := by
    rw [originOf, kept.pairing]
    exact zero
  have up' : anyLinkUp (storeFrame (replyOctets code r a s) .timing none (countReply s)) = true := by
    rw [anyLinkUp, kept.u1, kept.u2]
    exact up
  rw [sendReply_to_uplink room hb, sendReply_to_uplink (octets ▸ room) hb, octets,
    pairOwnFrame_of_failing zero' bad up', originCheckFails_zero_storeFrame]
  rfl

/-! ### What delivery to an uplink leaves -/

section
variable {code : Octet} {r : Request} {a : Answer} {s : State}

/-- What delivery to a linked uplink leaves of the handle and its frame (R32, R121, R126). -/
theorem sendReply_linked_handle {e : OriginEntry} (room : HasRoom (replyOctets code r a s) s)
    (hb : r.port ≠ .b) (up : anyLinkUp s = true) (zero : originOf s 0 = some e) (holds : e.check = 0) :
    (copiesJoined .timing s = 0 → handleOf (sendReply code r a s) (lowestHandle s) = none) ∧
    (0 < copiesJoined .timing s → ∃ g, handleOf (sendReply code r a s) (lowestHandle s) = some g ∧
      storedFrame (sendReply code r a s) g = replyOctets code r a s ∧ g.refs = copiesJoined .timing s ∧
      g.tag = some (stampFields e.next.timing e.epoch .timing s.settings)) := by
  obtain ⟨held, blocks⟩ := placeCopies_held (p := some r.port) (c := .timing)
    (handleOf_ownStamped (e := e) (f := replyOctets code r a s) (c := .timing) (s := countReply s)) rfl rfl
  have same : copiesJoined .timing (ownStamped e (replyOctets code r a s) .timing (countReply s)) =
      copiesJoined .timing s := by
    simp only [copiesJoined, ownStamped_uplink]
    rfl
  rw [same] at held blocks
  rw [sendReply_linked room hb up zero holds]
  refine ⟨fun gone => held.trans (if_pos gone), fun left => ⟨_, held.trans (if_neg left.ne'), ?_, rfl, rfl⟩⟩
  exact (storedFrame_congr ((blocks left).trans ownStamped_blocks) rfl).trans
    (storedFrame_storeFrame (s := countReply s) .timing none room)

/-- What it leaves of the Origin Table and the pairing counters (R123, R126). -/
theorem sendReply_linked_pairing {e : OriginEntry} (room : HasRoom (replyOctets code r a s) s)
    (hb : r.port ≠ .b) (up : anyLinkUp s = true) (zero : originOf s 0 = some e) (holds : e.check = 0) :
    (sendReply code r a s).pairing =
      { s.pairing with
        entries := Tbl.put s.pairing.entries 0
          { e with next := { e.next with timing := e.next.timing + 1 }, lastSeen := s.stationTime }
        counters :=
          { s.pairing.counters with
            linkDownCopies := s.pairing.counters.linkDownCopies +
              (if s.u1.linkUp && s.u2.linkUp then 0 else 1) } } := by
  have entry : { e.stamped .timing s.stationTime with check := 0 } =
      { e with next := { e.next with timing := e.next.timing + 1 }, lastSeen := s.stationTime } := by
    rw [← holds]
    rfl
  rw [sendReply_linked room hb up zero holds, placeCopies_pairing, ownStamped_uplink, ownStamped_uplink,
    ownStamped_pairing, ← entry]
  have u1 : ((countReply s).uplink .u1).linkUp = s.u1.linkUp := rfl
  have u2 : ((countReply s).uplink .u2).linkUp = s.u2.linkUp := rfl
  rw [anyLinkUp] at up
  rw [u1, u2]
  cases h1 : s.u1.linkUp <;> cases h2 : s.u2.linkUp
  · simp [h1, h2] at up
  · rfl
  · rfl
  · simp [countReply]

end

end Sys2Proof.Machine

/-! SUPPORT. The statement on replies (R11, R126, R181). -/

namespace Sys2Proof.Machine

/-- What an uplink is after it has been offered a reply, by its link and by the room in its Timing queue. -/
theorem offered_timing (e : UplinkEgress) (h : Nat) :
    (e.linkUp = false → e.offered .timing h = e) ∧
    (e.linkUp = true → e.timing.entries.length < 64 → e.offered .timing h =
      { e with timing := { e.timing with
          entries := e.timing.entries ++ [{ handle := h, seqOffset := false, fcsCorrupt := false }] } }) ∧
    (e.linkUp = true → 64 ≤ e.timing.entries.length → e.offered .timing h =
      { e with timing := { e.timing with drops := e.timing.drops + 1, overflow := true } }) := by
  have queue : e.queue (slotClassOf .timing) = e.timing := rfl
  have capacity : uplinkCapacity (slotClassOf .timing) = 64 := rfl
  rw [UplinkEgress.offered, queue, capacity]
  refine ⟨fun down => if_pos down, fun up room => ?_, fun up full => ?_⟩
  · rw [if_neg (by simp [up]), if_pos room]
    rfl
  · rw [if_neg (by simp [up]), if_neg (Nat.not_lt.mpr full)]
    rfl

/-- The copies that join are those of the uplinks that are UP with room in their Timing queues. -/
theorem copiesJoined_timing (s : State) : copiesJoined .timing s =
    [Uplink.u1, .u2].countP (fun u =>
      (s.uplink u).linkUp && decide ((s.uplink u).timing.entries.length < 64)) := by
  rw [countP_uplinks]
  rfl

/-- Settles O39: a reply to B is a frame stored for the Service queue, one to an uplink a frame of the part's own
without injection, and a failing entry 0 is mended ahead of either part of R123. -/
theorem repliesAreDelivered : Obligations.RepliesAreDelivered := by
  refine ⟨fun code r a s wf blocks handles => ?_, fun code r a s full => ?_,
    fun code r a e s hb up blocks handles zero bad => ?_⟩
  · have room : HasRoom (replyOctets code r a s) s := ⟨blocks, handles⟩
    have free := lowestHandle_free handles
    refine ⟨lowestHandle s, _, rfl, free, fun k hk => handleOf_sendReply_ne room hk, sendReply_notices room,
      fun hb => ?_, fun hb down => ?_, fun e n hb up zero holds hn => ?_⟩
    · -- a reply to B
      rw [sendReply_to_bay room hb]
      have kept := storeForBay_storage (some .b) .service (replyOctets code r a s) .general none (countReply s)
      refine ⟨kept.u1, kept.u2, kept.pairing, fun q hq => storeForBay_queue_ne hq, fun short => ?_,
        fun full => ?_⟩
      · obtain ⟨g, live, octets, refs, _, tag, tail⟩ := storeForBay_joined (p := some .b) (q := .service)
          (c := .general) (t := none) (s := countReply s) room short
        exact ⟨g, live, octets, refs, tag, tail⟩
      · obtain ⟨gone, freed, refused⟩ := storeForBay_of_full (p := some .b) (q := .service)
          (f := replyOctets code r a s) (c := .general) (t := none) (s := countReply s) full
        exact ⟨gone, refused, fun own => look_of_freed (s := countReply s) wf own free freed⟩
    · -- a reply to an uplink, neither link UP
      rw [sendReply_no_link room hb down]
      have kept := (storeFrame_storage (replyOctets code r a s) .timing none (countReply s)).trans
        (freeHandle_storage (lowestHandle s) _)
      refine ⟨?_, fun u => kept.uplink u, fun q => ?_, ?_, fun own =>
        look_of_freed (s := countReply s) wf own free (freeHandle_blocks _ _)⟩
      · rw [noLinkDrop, handleOf_onPairing, handleOf_freeHandle, if_pos rfl]
      · rw [noLinkDrop, State.onPairing_bay, freeHandle_queue, storeFrame_queue]
        rfl
      · rw [noLinkDrop, State.onPairing_pairing, kept.pairing]
        rfl
    · -- a reply to an uplink, with copies
      obtain ⟨gone, live⟩ := sendReply_linked_handle room hb up zero holds
      have paired := sendReply_linked_pairing room hb up zero holds
      have sent := sendReply_linked room hb up zero holds
      rw [copiesJoined_timing, ← hn] at gone live
      have origins : ∀ i, originOf (sendReply code r a s) i = if i = 0 then _ else originOf s i := fun i => by
        rw [originOf, paired, Tbl.look_put]
        rfl
      refine ⟨gone, live, fun u => ?_, fun q => ?_, (origins 0).trans (if_pos rfl),
        fun i hi => (origins i).trans (if_neg hi), ?_⟩
      · rw [sent, placeCopies_uplink, ownStamped_uplink]
        exact offered_timing (s.uplink u) _
      · rw [sent, placeCopies_queue, ownStamped_queue]
        rfl
      · rw [paired]
  · rw [sendReply_of_no_room]
    · rfl
    · intro room
      have blocks := room.1
      have handles := room.2
      omega
  · exact ⟨_, originFails_zero _ _ _, sendReply_of_failing ⟨blocks, handles⟩ hb up zero bad⟩

end Sys2Proof.Machine

/-! SUPPORT. Arrivals that pass their tests (R17, R18, R24 to R26), and the requests in frames that reach the Agent
(R10). -/

namespace Sys2Proof.Machine

/-! ### The tests passed -/

theorem isOwnOrigin_eq_false {s : State} {a : Address} (h : ∀ i e, (i, e) ∈ s.pairing.entries → e.addr ≠ a) :
    isOwnOrigin s a = false := by
  rw [isOwnOrigin, List.any_eq_false]
  exact fun p hp => by simpa using h p.1 p.2 hp

theorem part_of_serving {s : State} (h : s.serving = true) : s.loader.part ≠ .loading := by
  simp only [State.serving, Bool.and_eq_true, decide_eq_true_eq] at h
  exact h.2

theorem resetN_of_serving {s : State} (h : s.serving = true) : s.resetN = true := by
  simp only [State.serving, Bool.and_eq_true] at h
  exact h.1

section
variable {u : Uplink} {w : Walk} {f : List Octet} {s : State} (serves : s.serving = true)
  (foreign : ∀ i e, (i, e) ∈ s.pairing.entries → e.addr ≠ sourceOf f)
include serves foreign

/-- Tests 7 and 8 of R17 passed, with a tag. -/
theorem uplinkRouting_tagged {t : Tag} : uplinkRouting u (some t) w f s = routeTagged u t w f s := by
  simp only [uplinkRouting, isOwnOrigin_eq_false foreign, part_of_serving serves, Bool.false_eq_true, if_false]

/-- Tests 7 and 8 of R17 passed, without a tag. -/
theorem uplinkRouting_untagged : uplinkRouting u none w f s = routeUntagged u w f s := by
  simp only [uplinkRouting, isOwnOrigin_eq_false foreign, part_of_serving serves, Bool.false_eq_true, if_false]

end

/-- An untagged frame that passes the tests is routed (R17, R26). -/
theorem uplinkTests_untagged {u : Uplink} {f : List Octet} {s : State} (serves : s.serving = true)
    (passes : UntaggedPasses f s) (foreign : ∀ i e, (i, e) ∈ s.pairing.entries → e.addr ≠ sourceOf f) :
    uplinkTests u f s = routeUntagged u (walkUplink s.settings.tagMarker f) f s := by
  obtain ⟨fcs, short, long, untagged, pause⟩ := passes
  have length : ¬ (f.length < 64 ∨ uplinkMaxLength (walkUplink s.settings.tagMarker f) < f.length) := by
    rw [uplinkMaxLength, untagged]
    simp
    omega
  simp only [uplinkTests, fcs, length, pause, uplinkBody, untagged, Bool.true_eq_false, Bool.false_eq_true,
    if_false]
  exact uplinkRouting_untagged serves foreign

/-- A tagged frame that passes the tests is routed (R17, R25). -/
theorem uplinkTests_tagged {u : Uplink} {f : List Octet} {t : Tag} {s : State} (serves : s.serving = true)
    (passes : TagPasses u f t s) (foreign : ∀ i e, (i, e) ∈ s.pairing.entries → e.addr ≠ sourceOf f) :
    uplinkTests u f s = routeTagged u t (walkUplink s.settings.tagMarker f) f s := by
  obtain ⟨fcs, short, long, tagged, pause, valid, path, own⟩ := passes
  have length : ¬ (f.length < 64 ∨ uplinkMaxLength (walkUplink s.settings.tagMarker f) < f.length) := by
    rw [uplinkMaxLength, tagged]
    simp
    omega
  have other : isOwnPresence s t (walkUplink s.settings.tagMarker f) f = false := by
    rw [isOwnPresence, Bool.and_eq_false_imp]
    exact fun c => by simpa using own (by simpa using c)
  simp only [uplinkTests, fcs, length, pause, uplinkBody, tagged, valid, uplinkTagTests, other, path, ne_eq,
    not_true_eq_false, Bool.true_eq_false, Bool.false_eq_true, if_false, if_true]
  exact uplinkRouting_tagged serves foreign

/-- A bay frame that passes the tests is routed (R18, R24). -/
theorem bayTests_of_passes {f : List Octet} {s : State} (passes : BayPasses f s) :
    bayTests f s = routeBay (walkBay f) f s := by
  obtain ⟨serves, fcs, short, long, untagged, pause⟩ := passes
  have length : ¬ (f.length < 64 ∨ 1522 < f.length) := by omega
  simp only [bayTests, fcs, length, untagged, part_of_serving serves, pause, Bool.true_eq_false,
    Bool.false_eq_true, if_false]

/-! ### The Agent -/

theorem ReqKind.ofCode_code (k : ReqKind) : ReqKind.ofCode k.code = some k := by cases k <;> rfl

theorem ReqKind.code_lt (k : ReqKind) : k.code.toNat < 0x80 := by cases k <;> decide

theorem ReqKind.ofCode_of_ne {c : Octet} (h : ∀ k : ReqKind, c ≠ k.code) : ReqKind.ofCode c = none := by
  rw [ReqKind.ofCode, List.find?_eq_none]
  exact fun k _ => by simpa using (h k).symm

section
variable {port : Port} {a : Address} {body : List Octet} {s : State}

theorem serveBody_reply (h : 0x80 ≤ (bodyCode body).toNat) :
    serveBody port a body s =
      s.onPort port fun c => { c with managementDiscards := c.managementDiscards + 1 } := by
  rw [serveBody, if_pos h]

theorem serveBody_kind {k : ReqKind} (h : bodyCode body = k.code) :
    serveBody port a body s = serve k (readRequest port a body) s := by
  rw [serveBody, h, if_neg (Nat.not_le.mpr k.code_lt), ReqKind.ofCode_code]

theorem serveBody_unknown (h : (bodyCode body).toNat < 0x80) (unknown : ∀ k : ReqKind, bodyCode body ≠ k.code) :
    serveBody port a body s =
      sendReply (bodyCode body) (readRequest port a body)
        (refuse (readRequest port a body) .badRequest) s := by
  rw [serveBody, if_neg (Nat.not_le.mpr h), ReqKind.ofCode_of_ne unknown]

end

theorem endRequest_of_serving {h : Nat} {s : State} (serves : s.loader.part ≠ .loading) :
    endRequest h s = freeHandle h s := if_neg serves

/-- A management frame served as it is stored reaches the Agent (R10, R24, R25). -/
theorem agentTakes_of_serveFrame {o : Host.Outcome State Fault Refusal} {port : Port} {h : Nat} {w : Walk}
    {f : List Octet} {s : State} (serves : s.serving = true)
    (ends : o = .next (finish (serveFrame port h w f s))) : AgentTakes o port h w f s := by
  refine ⟨readRequest port (sourceOf f) (w.body f), rfl, fun high => ?_, fun k code => ⟨?_, ?_⟩,
    fun low unknown => ?_⟩
  · rw [ends, serveFrame, serveBody_reply high, endRequest_of_serving]
    rw [State.onPort_loader]
    exact part_of_serving serves
  · exact exec_commandOf k _ serves
  · rw [ends, serveFrame, serveBody_kind code]
    rfl
  · rw [ends, serveFrame, serveBody_unknown low unknown, endRequest_of_serving]
    · rfl
    · rw [(sendReply_reply _ _ _ s).loader]
      exact part_of_serving serves

end Sys2Proof.Machine

/-! SUPPORT. Arrivals reach the bay and the Agent (R10, R24 to R26). -/

namespace Sys2Proof.Machine

/-! ### An arrival counted -/

theorem OnlyStorage.port {s t : State} (h : OnlyStorage s t) (u : Uplink) :
    t.port (uplinkPort u) = s.port (uplinkPort u) := by
  cases u
  · exact h.portU1
  · exact h.portU2

theorem State.onPort_onPort (s : State) (p : Port) (f g : PortCounters → PortCounters) :
    (s.onPort p f).onPort p g = s.onPort p fun c => g (f c) := by cases p <;> rfl

section
variable (p : Port) (s : State)

@[simp] theorem countReceived_settings : (countReceived p s).settings = s.settings := State.onPort_settings s p _
@[simp] theorem countReceived_loader : (countReceived p s).loader = s.loader := State.onPort_loader s p _
@[simp] theorem countReceived_pairing : (countReceived p s).pairing = s.pairing := State.onPort_pairing s p _
@[simp] theorem countReceived_bay : (countReceived p s).bay = s.bay := State.onPort_bay s p _
@[simp] theorem countReceived_store : (countReceived p s).store = s.store := State.onPort_store s p _
@[simp] theorem countReceived_serving : (countReceived p s).serving = s.serving := by cases p <;> rfl

@[simp] theorem handleOf_countReceived (h : Nat) : handleOf (countReceived p s) h = handleOf s h := by
  simp [handleOf]

@[simp] theorem admits_countReceived (n bf hf : Nat) :
    admits (countReceived p s) n bf hf = admits s n bf hf := by cases p <;> rfl

end

/-- A handling that counts an arrival and one thing more. -/
theorem countedAs_of_eq {o : Host.Outcome State Fault Refusal} {p : Port} {g : PortCounters → PortCounters}
    {s : State} (h : o = .next (finish ((countReceived p s).onPort p g))) : CountedAs o p g s := by
  rw [countReceived, State.onPort_onPort] at h
  exact handledTo_of_eq h

section
variable {u : Uplink} {f : List Octet} {s : State}

/-- An untagged arrival that passes the tests is counted and routed (R17, R26). -/
theorem exec_untagged (serves : s.serving = true) (passes : UntaggedPasses f s)
    (foreign : ∀ i e, (i, e) ∈ s.pairing.entries → e.addr ≠ sourceOf f) :
    exec (.uplinkArrival u f) s = .next (finish
      (routeUntagged u (walkUplink s.settings.tagMarker f) f (countReceived (uplinkPort u) s))) := by
  rw [exec_uplinkArrival u f (resetN_of_serving serves), uplinkIntake, uplinkTests_untagged]
  · rw [countReceived_settings]
  · rwa [countReceived_serving]
  · rwa [UntaggedPasses, countReceived_settings]
  · rwa [countReceived_pairing]

/-- A tagged arrival that passes the tests is counted and routed (R17, R25). -/
theorem exec_tagged {t : Tag} (serves : s.serving = true) (passes : TagPasses u f t s)
    (foreign : ∀ i e, (i, e) ∈ s.pairing.entries → e.addr ≠ sourceOf f) :
    exec (.uplinkArrival u f) s = .next (finish
      (routeTagged u t (walkUplink s.settings.tagMarker f) f (countReceived (uplinkPort u) s))) := by
  rw [exec_uplinkArrival u f (resetN_of_serving serves), uplinkIntake, uplinkTests_tagged (t := t)]
  · rw [countReceived_settings]
  · rwa [countReceived_serving]
  · rwa [TagPasses, countReceived_settings, countReceived_loader]
  · rwa [countReceived_pairing]

/-- A bay arrival that passes the tests is counted and routed (R18, R24). -/
theorem exec_bay (passes : BayPasses f s) :
    exec (.bayArrival f) s = .next (finish (routeBay (walkBay f) f (countReceived .b s))) := by
  rw [exec_bayArrival f (resetN_of_serving passes.1), bayIntake, bayTests_of_passes]
  exact passes

end

theorem OnlyStorage.serving {s t : State} (h : OnlyStorage s t) : t.serving = s.serving := by
  rw [State.serving, State.serving, h.resetN, h.loader]

theorem OnlyFilter.serving {s t : State} (h : OnlyFilter s t) : t.serving = s.serving := by
  rw [State.serving, State.serving, h.resetN, h.loader]

/-! ### Admission -/

section
variable {f : List Octet} {c : TClass} {t : Option TagFields} {s : State}

theorem admitReceived_of_admits (h : admits s f.length (blockFloor s.settings c) (handleFloor s.settings c) = true) :
    admitReceived f c t s = some (lowestHandle s, storeFrame f c t s) := by
  rw [admitReceived, offerStorage, if_pos h]

theorem admitReceived_of_refuses
    (h : admits s f.length (blockFloor s.settings c) (handleFloor s.settings c) = false) :
    admitReceived f c t s = none := by
  rw [admitReceived, offerStorage, if_neg (by simp [h])]

/-- A frame admitted: the handle was free, and holds the frame (R28, R30). -/
theorem admitted_stored {bf hf : Nat} (h : admits s f.length bf hf = true) :
    handleOf s (lowestHandle s) = none ∧
    handleOf (storeFrame f c t s) (lowestHandle s) = some (storedHandle f c t s) ∧
    storedFrame (storeFrame f c t s) (storedHandle f c t s) = f := by
  have room := hasRoom_of_admits h
  exact ⟨lowestHandle_free room.2, (handleOf_storeFrame f c t s _).trans (if_pos rfl),
    storedFrame_storeFrame c t room⟩

end

/-! ### The routes taken -/

section
variable {u : Uplink} {w : Walk} {f : List Octet} {c : TClass} {s : State}

/-- An untagged frame admitted is stored for the bay queue of its class (R26). -/
theorem routeUntagged_admitted (pass : s.settings.passUntagged = true)
    (dest : destOf f ≠ s.loader.stationAddress) (cls : classify s.settings (w.type f) w.priority = c)
    (adm : admits s f.length (blockFloor s.settings c) (handleFloor s.settings c) = true) :
    routeUntagged u w f s = storeForBay (some (uplinkPort u)) (bayQueueOf c) f c none s := by
  rw [routeUntagged, pass, if_neg (by decide), if_neg dest, cls, admitReceived_of_admits adm]
  rfl

/-- An untagged frame that is not admitted is counted in its class (R26). -/
theorem routeUntagged_refused (pass : s.settings.passUntagged = true)
    (dest : destOf f ≠ s.loader.stationAddress) (cls : classify s.settings (w.type f) w.priority = c)
    (refused : admits s f.length (blockFloor s.settings c) (handleFloor s.settings c) = false) :
    routeUntagged u w f s = countIntakeDrop (uplinkPort u) c s := by
  rw [routeUntagged, pass, if_neg (by decide), if_neg dest, cls, admitReceived_of_refuses refused]

/-- A management frame admitted on B is served (R24). -/
theorem routeBay_admitted (dest : destOf f = s.loader.stationAddress)
    (type : w.type f = s.settings.managementMarker)
    (adm : admits s f.length s.settings.generalFloor s.settings.generalHandleFloor = true) :
    routeBay w f s = serveFrame .b (lowestHandle s) w f (storeFrame f .general none s) := by
  rw [routeBay, if_pos dest, if_pos type, bayRequest, admitReceived_of_admits (c := .general) adm]

/-- A management frame that is not admitted on B is counted in class 0 (R24). -/
theorem routeBay_refused (dest : destOf f = s.loader.stationAddress)
    (type : w.type f = s.settings.managementMarker)
    (refused : admits s f.length s.settings.generalFloor s.settings.generalHandleFloor = false) :
    routeBay w f s = countIntakeDrop .b .general s := by
  rw [routeBay, if_pos dest, if_pos type, bayRequest, admitReceived_of_refuses (c := .general) refused]

theorem handleOf_of_store {s x : State} (h : x.store = s.store) (n : Nat) : handleOf x n = handleOf s n := by
  rw [handleOf, handleOf, h]

/-- The screening of a stored frame leaves it stored, and the settings and the part's state as they were. -/
theorem screen_stored {t : Tag} {a : Address} {g : Option TagFields} {i : Nat} {v : Verdict} {z : State}
    (scr : screen t a (storeFrame f c g s) = (i, v, z)) :
    z.store = (storeFrame f c g s).store ∧ z.settings = s.settings ∧ z.loader = s.loader ∧
      z.serving = s.serving := by
  have kept := storeFrame_storage f c g s
  have screened := screen_filter t a (storeFrame f c g s)
  rw [scr] at screened
  exact ⟨screened.store, screened.settings.trans kept.settings, screened.loader.trans kept.loader,
    screened.serving.trans kept.serving⟩

/-- A tagged frame to the station that its verdict lets go on (R25). -/
theorem routeTagged_to_station {t : Tag} {i : Nat} {v : Verdict} {z : State}
    (adm : admits s f.length (blockFloor s.settings t.cls) (handleFloor s.settings t.cls) = true)
    (scr : screen t (sourceOf f) (storeFrame f t.cls (some (receivedFields t)) s) = (i, v, z))
    (go : goesOn s.settings v = true) (cls : t.cls ≠ .presence) (dest : destOf f = s.loader.stationAddress) :
    routeTagged u t w f s =
      if w.type f = s.settings.managementMarker then serveFrame (uplinkPort u) (lowestHandle s) w f z
      else freeHandle (lowestHandle s) (countStationDiscard (uplinkPort u) z) := by
  obtain ⟨_, settings, loader, _⟩ := screen_stored scr
  rw [← settings] at go ⊢
  rw [← loader] at dest
  rw [routeTagged, admitReceived_of_admits adm]
  simp only [scr]
  rw [routeVerdict, go, if_neg (by decide), if_neg cls, if_pos dest]

end

/-! ### The statement -/

/-- Settles O45: after the tests each arrival is on one route, and what the route does is said by the lemmas on a
frame stored for a bay queue and on a frame served by the Agent. -/
theorem arrivalsReachTheBayAndTheAgent : Obligations.ArrivalsReachTheBayAndTheAgent := by
  refine ⟨fun u f c s serves _ passes foreign dest pass cls => ⟨fun adm => ?_, fun refused => ?_⟩,
    fun f s passes _ dest type => ⟨fun adm => ?_, fun refused => ?_⟩,
    fun u f t i v y z serves _ passes cls foreign dest adm scr go => ?_⟩
  · -- an untagged frame admitted
    have arrival := exec_untagged (u := u) serves passes foreign
    rw [routeUntagged_admitted (c := c) (by simpa using pass) (by simpa using dest) (by simpa using cls)
      (by simpa using adm)] at arrival
    have room : HasRoom f (countReceived (uplinkPort u) s) :=
      hasRoom_of_admits ((admits_countReceived _ s _ _ _).trans adm)
    have kept := storeForBay_storage (some (uplinkPort u)) (bayQueueOf c) f c none
      (countReceived (uplinkPort u) s)
    refine ⟨lowestHandle (countReceived (uplinkPort u) s), _, handledTo_of_eq arrival,
      (handleOf_countReceived _ s _).symm.trans (lowestHandle_free room.2),
      fun g hg => (handleOf_storeForBay_ne hg).trans (handleOf_countReceived _ s g),
      kept.filter.trans (State.onPort_filter s _ _), kept.pairing.trans (countReceived_pairing _ s),
      kept.u1.trans (State.onPort_u1 s _ _), kept.u2.trans (State.onPort_u2 s _ _),
      kept.notices.trans (State.onPort_notices s _ _), kept.settings.trans (countReceived_settings _ s),
      fun q hq => (storeForBay_queue_ne hq).trans (congrArg (BayEgress.queue · q) (countReceived_bay _ s)),
      (kept.port u).trans (State.onPort_port s _ _), ?_, ?_⟩ <;> rw [← countReceived_bay (uplinkPort u) s]
    · exact fun short => storeForBay_joined room short
    · intro full
      obtain ⟨gone, _, counted⟩ := storeForBay_of_full (p := some (uplinkPort u)) (f := f) (c := c)
        (t := none) full
      exact ⟨gone, counted⟩
  · -- an untagged frame refused
    have arrival := exec_untagged (u := u) serves passes foreign
    rw [routeUntagged_refused (c := c) (by simpa using pass) (by simpa using dest) (by simpa using cls)
      (by simpa using refused)] at arrival
    exact countedAs_of_eq arrival
  · -- a management frame on B, admitted
    have arrival := exec_bay passes
    rw [routeBay_admitted (s := countReceived .b s) dest type adm] at arrival
    obtain ⟨free, live, octets⟩ := admitted_stored (c := .general) (t := none) (s := countReceived .b s) adm
    have served := (storeFrame_storage f .general none (countReceived .b s)).serving.trans passes.1
    exact ⟨_, _, _, free, live, octets, rfl, agentTakes_of_serveFrame served arrival⟩
  · -- a management frame on B, refused
    have arrival := exec_bay passes
    rw [routeBay_refused (s := countReceived .b s) dest type refused] at arrival
    exact countedAs_of_eq arrival
  · -- a tagged frame to the station
    have arrival := exec_tagged serves passes foreign
    obtain ⟨_, _, _, _, _, _, rfl, _⟩ := passes
    have adm' := (admits_countReceived (uplinkPort t.path) y _ _ _).trans adm
    obtain ⟨free, live, octets⟩ := admitted_stored (c := t.cls) (t := some (receivedFields t)) adm'
    obtain ⟨store, _, _, served⟩ := screen_stored (s := countReceived (uplinkPort t.path) y) scr
    rw [routeTagged_to_station (s := countReceived (uplinkPort t.path) y) (by rwa [countReceived_settings]) scr
      (by rwa [countReceived_settings]) cls (by rwa [countReceived_loader]), countReceived_settings] at arrival
    refine ⟨lowestHandle (countReceived (uplinkPort t.path) y), _, (handleOf_countReceived _ y _).symm.trans free,
      (handleOf_of_store store _).trans live,
      (storedFrame_congr (congrArg FrameStore.blocks store) rfl).trans octets, fun type => ?_, fun type => ?_⟩
    · rw [if_pos type] at arrival
      exact agentTakes_of_serveFrame (served.trans ((countReceived_serving _ y).trans serves)) arrival
    · rw [if_neg type] at arrival
      exact handledTo_of_eq arrival

end Sys2Proof.Machine

/-! SUPPORT. One step (00 Conventions). -/

namespace Sys2Proof.Machine

/-- Settles O1: a step runs the front command, and idles on an empty queue as the idle step's branches say. -/
theorem stepTakesTheFrontCommand : Obligations.StepTakesTheFrontCommand := by
  refine ⟨fun c rest s => rfl, fun s empty => ?_⟩
  have idles : step s = .next (idle s) := by rw [step, empty]
  refine ⟨fun low => ?_, fun r rest high waiting => ?_, fun high none => ⟨?_, rfl⟩⟩
  · rw [idles, idle, if_pos low]
  · rw [idles, idle, if_neg (by simp [high]), waiting, exec_faultReport r high, waiting]
    simp
  · rw [idles, idle, if_neg (by simp [high]), none, tick, empty, List.nil_append]

end Sys2Proof.Machine

/-! SUPPORT. What storing a frame takes of the pools (R28, R30), and the statements on admission and storage. -/

namespace Sys2Proof.Machine

/-! ### How many numbers a table lists -/

section
variable {α : Type}

theorem Tbl.length_put_of_free {t : Tbl α} {k : Nat} (a : α) (free : Tbl.look t k = none) :
    (Tbl.put t k a).length = t.length + 1 := by
  induction t with
  | nil => rfl
  | cons p t ih =>
    obtain ⟨j, b⟩ := p
    rw [Tbl.look] at free
    split at free
    · exact absurd free (by simp)
    · next ne =>
      rw [Tbl.put]
      split
      · rfl
      · rw [if_neg (Ne.symm ne), List.length_cons, ih free, List.length_cons]

theorem Tbl.length_putAll_of_free {l : List (Nat × α)} {t : Tbl α} (distinct : (l.map Prod.fst).Nodup)
    (free : ∀ k ∈ l.map Prod.fst, Tbl.look t k = none) : (Tbl.putAll t l).length = t.length + l.length := by
  induction l generalizing t with
  | nil => rfl
  | cons p l ih =>
    simp only [List.map_cons, List.nodup_cons, List.mem_cons, forall_eq_or_imp] at distinct free
    rw [Tbl.putAll, ih distinct.2, Tbl.length_put_of_free _ free.1, List.length_cons]
    · omega
    · intro k hk
      rw [Tbl.look_put_ne _ _ (fun e : k = p.1 => distinct.1 (e ▸ hk))]
      exact free.2 k hk

end

/-! ### The pools after a storing -/

section
variable {f : List Octet} {c : TClass} {t : Option TagFields} {s : State}

theorem storeFrame_blocks_length (room : HasRoom f s) :
    (storeFrame f c t s).store.blocks.length = s.store.blocks.length + blocksNeeded f.length := by
  have numbers := newBlocks_numbers (lowestHandle s) f (lowestBlocks s (blocksNeeded f.length))
  have count : (newBlocks (lowestHandle s) f (lowestBlocks s (blocksNeeded f.length))).length =
      blocksNeeded f.length := by
    rw [← List.length_map (f := Prod.fst), numbers, lowestBlocks_length room.1]
  rw [storeFrame_blocks, Tbl.length_putAll_of_free, count] <;> rw [numbers]
  · exact lowestBlocks_nodup s _
  · exact fun b => lowestBlocks_free

theorem storeFrame_handles_length (room : HasRoom f s) :
    (storeFrame f c t s).store.handles.length = s.store.handles.length + 1 := by
  rw [storeFrame_handles]
  exact Tbl.length_put_of_free _ (lowestHandle_free room.2)

/-- A frame stored takes its blocks and one handle, and no more (R28, R30). -/
theorem storeFrame_takes (room : HasRoom f s) :
    freeBlocks (storeFrame f c t s) + blocksNeeded f.length = freeBlocks s ∧
    freeHandles (storeFrame f c t s) + 1 = freeHandles s := by
  have blocks := storeFrame_blocks_length (c := c) (t := t) room
  have handles := storeFrame_handles_length (c := c) (t := t) room
  obtain ⟨roomB, roomH⟩ := room
  simp only [freeBlocks, freeHandles, blocks, handles] at *
  omega

theorem admits_iff (n bf hf : Nat) (s : State) :
    admits s n bf hf = true ↔ blocksNeeded n + bf ≤ freeBlocks s ∧ 1 + hf ≤ freeHandles s := by
  simp [admits]

theorem admitReceived_isSome_iff : (admitReceived f c t s).isSome = true ↔
    admits s f.length (blockFloor s.settings c) (handleFloor s.settings c) = true := by
  rw [admitReceived]
  obtain ⟨adm, e⟩ | ⟨refused, e⟩ := offerStorage_cases f c t (blockFloor s.settings c)
    (handleFloor s.settings c) s <;> rw [e]
  · simp [adm]
  · simp [refused]

end

/-- Settles O23: admission is the test of both floors, and a storing takes just the frame's blocks and one
handle. -/
theorem admissionKeepsTheFloors : Obligations.AdmissionKeepsTheFloors := by
  intro f c t s _
  refine ⟨?_, fun h x taken => ?_, rfl, rfl, rfl, rfl, ?_, ?_, fun refused => ?_, fun w refused => ?_⟩
  · rw [admitReceived_isSome_iff, admits_iff]
  · obtain ⟨adm, _, rfl⟩ := admit_some taken
    have takes := storeFrame_takes (c := c) (t := t) (hasRoom_of_admits adm)
    rw [admits_iff] at adm
    omega
  · rintro (rfl | rfl | rfl) <;> exact ⟨rfl, rfl⟩
  · by_cases room : HasRoom f s
    · rw [admitBuilt_of_room c room]
      exact iff_of_true rfl room
    · rw [admitBuilt_of_no_room c room]
      exact iff_of_false (by simp) room
  · by_cases room : HasRoom f s
    · rw [admitBuilt_of_room c room] at refused
      exact absurd refused (by simp)
    · rw [admitBuilt_of_no_room c room]
      exact ⟨rfl, rfl⟩
  · rw [bayRequest, refused]

/-- Settles O24: what a storing writes is read back, in a handle and in blocks that were free. -/
theorem storedFramesReadBack : Obligations.StoredFramesReadBack := by
  intro f c t s _ blocks handles
  have room : HasRoom f s := ⟨blocks, handles⟩
  refine ⟨storedHandle f c t s, _, rfl, lowestHandle_free handles, ?_, storedFrame_storeFrame c t room, rfl, rfl, rfl,
    rfl, rfl, rfl, lowestBlocks_length blocks, fun b => lowestBlocks_free, fun h other => ?_, fun g taken => ?_⟩
  · rw [handleOf_storeFrame, if_pos rfl]
  · rw [handleOf_storeFrame, if_neg other]
  · refine List.flatMap_congr fun b hb => ?_
    rw [look_storeFrame_old]
    intro new
    have free := lowestBlocks_free new
    simpa [free] using taken b hb

end Sys2Proof.Machine

/-! SUPPORT. Pause emission (R33, R34): what making a pause pending leaves, and the statement on the pause timers. -/

namespace Sys2Proof.Machine

/-- What a pause made pending leaves: on the wire and counted with B's transmitter free, else pending in the place
of one not yet started; the rest of the state as it stood (R7, R33, log 13). -/
theorem makePausePending_effect (q : BitVec 16) (s : State) :
    (s.bay.tx = none → makePausePending q s =
      { s with
        pause := { s.pause with pending := none }
        bay := { s.bay with
          tx := some (.pause q
            (putOnWire s.loader.straps.bay1000 (pauseFrame s.loader.stationAddress q))) }
        portB := { s.portB with pausesSent := s.portB.pausesSent + 1 } }) ∧
    (s.bay.tx ≠ none → makePausePending q s = { s with pause := { s.pause with pending := some q } }) := by
  refine ⟨fun free => ?_, fun busy => ?_⟩
  · simp only [makePausePending, startPause, State.onPause, free]
    rfl
  · obtain ⟨x, sending⟩ := Option.ne_none_iff_exists'.mp busy
    simp only [makePausePending, startPause, State.onPause, sending]

/-- A pause made pending, with Pause Asserted and the refresh timer written ahead of it, in the terms of the
statement (R33, R34). -/
theorem pause_made {q : BitVec 16} {a : Bool} {r : Timer} {s x : State}
    (made : x = makePausePending q (s.onPause fun p => { p with asserted := a, refresh := r })) :
    OnlyStorage s x ∧ x.store = s.store ∧ x.pause.asserted = a ∧ x.pause.refresh = r ∧
    (s.bay.tx = none → x.pause.pending = none ∧
      x.bay = { s.bay with
        tx := some (.pause q (putOnWire s.loader.straps.bay1000 (pauseFrame s.loader.stationAddress q))) } ∧
      x.portB = { s.portB with pausesSent := s.portB.pausesSent + 1 }) ∧
    (s.bay.tx ≠ none → x.pause.pending = some q ∧ x.bay = s.bay ∧ x.portB = s.portB) := by
  have frame := (onPause_storage (fun p => { p with asserted := a, refresh := r }) s).trans
    (makePausePending_storage q _)
  have store := makePausePending_store q (s.onPause fun p => { p with asserted := a, refresh := r })
  obtain ⟨atOnce, waiting⟩ := makePausePending_effect q
    (s.onPause fun p => { p with asserted := a, refresh := r })
  rw [← made] at frame store atOnce waiting
  by_cases free : s.bay.tx = none
  · have now := atOnce free
    refine ⟨frame, store, ?_, ?_, fun _ => ⟨?_, ?_, ?_⟩, fun busy => absurd free busy⟩ <;> rw [now] <;> rfl
  · have later := waiting free
    refine ⟨frame, store, ?_, ?_, fun h => absurd h free, fun _ => ⟨?_, ?_, ?_⟩⟩ <;> rw [later] <;> rfl

/-- The free-block test with Bay Pause set, where it acts: a pause of 65,535 that stops, or one of 0 that releases
(R33). -/
theorem pauseTest_acts {stop : Bool} {s : State} (on : s.settings.bayPause = true)
    (flag : s.pause.asserted = !stop)
    (level : if stop then freeBlocks s < s.settings.pauseOn else s.settings.pauseOff ≤ freeBlocks s) :
    pauseTest s = makePausePending (if stop then 65535 else 0) (s.onPause fun p =>
      { p with asserted := stop, refresh := if stop then some (refreshTime s) else none }) := by
  cases stop
  · simp only [Bool.not_false, Bool.false_eq_true, if_false] at flag level
    simp [pauseTest, on, flag, level, releasePause]
  · simp only [Bool.not_true, if_true] at flag level
    simp [pauseTest, on, flag, level, assertPause]

theorem pauseTest_of_asserted_low {s : State} (flag : s.pause.asserted = true)
    (low : freeBlocks s < s.settings.pauseOff) : pauseTest s = s := by
  simp [pauseTest, flag, Nat.not_le.mpr low]

theorem pauseTest_of_clear_high {s : State} (flag : s.pause.asserted = false)
    (high : s.settings.pauseOn ≤ freeBlocks s) : pauseTest s = s := by
  simp [pauseTest, flag, Nat.not_lt.mpr high]

/-- Settles O11: both expiries and both changes of Pause Asserted make one pause pending or none, and every storing
and freeing ends with the free-block test. -/
theorem pauseTimerExpiries : Obligations.PauseTimerExpiries := by
  refine ⟨fun s => ⟨fun high running => ?_, fun stopped => ?_, fun high running => ?_, fun stopped => ?_⟩,
    fun s => ⟨fun off => ?_, fun stop on flag level => ?_, pauseTest_of_clear_high, pauseTest_of_asserted_low,
      fun f c t => ⟨_, rfl, rfl⟩, fun h => ⟨_, rfl, rfl⟩, fun n written on => ?_⟩⟩
  · obtain ⟨frame, store, asserted, refresh, atOnce, waiting⟩ :=
      pause_made (a := s.pause.asserted) (r := some (refreshTime s)) (s := s) rfl
    exact ⟨_, handledTo_of_eq (exec_pauseRefreshTimerExpiry high running), frame, store, asserted, refresh, atOnce,
      waiting⟩
  · simp [exec, execPauseRefreshTimerExpiry, whileRunning, stopped]
  · exact handledTo_of_eq (exec_receivedPauseTimerExpiry high running)
  · simp [exec, execReceivedPauseTimerExpiry, whileRunning, stopped]
  · simp [pauseTest, off]
  · obtain ⟨frame, store, asserted, refresh, atOnce, waiting⟩ := pause_made (pauseTest_acts on flag level)
    exact ⟨_, _, rfl, rfl, frame, store, asserted, refresh, atOnce, waiting⟩
  · rcases written with rfl | rfl | rfl <;> exact if_pos on

end Sys2Proof.Machine

/-! SUPPORT. The pools' canonical form (R28) and the ownership of blocks, kept by each operation of the Frame
Store. -/

namespace Sys2Proof.Machine

/-! ### Bounds of a table -/

section
variable {α : Type}

theorem Tbl.lt_of_look {t : Tbl α} {n k : Nat} {a : α} (bound : Tbl.below n t = true)
    (found : Tbl.look t k = some a) : k < n := by
  induction t with
  | nil => simp [Tbl.look] at found
  | cons p t ih =>
    simp only [Tbl.below, Bool.and_eq_true, decide_eq_true_eq] at bound
    rw [Tbl.look] at found
    split at found
    · next e => exact e ▸ bound.1
    · exact ih bound.2 found

theorem Tbl.below_putAll {n : Nat} {l : List (Nat × α)} {t : Tbl α} (numbers : ∀ k ∈ l.map Prod.fst, k < n)
    (bound : Tbl.below n t = true) : Tbl.below n (Tbl.putAll t l) = true := by
  induction l generalizing t with
  | nil => exact bound
  | cons p l ih =>
    simp only [List.map_cons, List.mem_cons, forall_eq_or_imp] at numbers
    exact ih numbers.2 (Tbl.below_put _ _ _ numbers.1 bound)

/-- A table in canonical form lists no more numbers than lie between its bounds. -/
theorem Tbl.length_le_of_above_below {t : Tbl α} {k n : Nat} (form : Tbl.wf t = true)
    (low : Tbl.above k t = true) (high : Tbl.below n t = true) : t.length ≤ n - k := by
  induction t generalizing k with
  | nil => exact Nat.zero_le _
  | cons p t ih =>
    simp only [Tbl.wf, Tbl.above, Tbl.below, Bool.and_eq_true, decide_eq_true_eq] at form low high
    have rest := ih form.2 form.1 high.2
    rw [List.length_cons]
    omega

theorem Tbl.above_zero (t : Tbl α) : Tbl.above 0 t = true := by
  induction t with
  | nil => rfl
  | cons p t ih => simp [Tbl.above, ih]

theorem Tbl.length_le_of_below {t : Tbl α} {n : Nat} (form : Tbl.wf t = true)
    (bound : Tbl.below n t = true) : t.length ≤ n :=
  Tbl.length_le_of_above_below form (Tbl.above_zero t) bound

end

/-! ### The canonical form -/

theorem lowestHandle_lt (s : State) : lowestHandle s < 1024 := by
  rw [lowestHandle]
  cases e : Tbl.lowestFree s.store.handles totalHandles 0 1 with
  | nil => exact Nat.succ_pos _
  | cons n l =>
    have found := Tbl.lowestFree_spec s.store.handles totalHandles 0 1 n (by simp [e])
    simpa [totalHandles] using found.2.2

theorem lowestBlocks_lt {s : State} {need b : Nat} (h : b ∈ lowestBlocks s need) : b < 2048 := by
  simpa [totalBlocks] using (Tbl.lowestFree_spec _ _ _ _ _ h).2.2

theorem freeHandle_handles (h : Nat) (s : State) :
    (freeHandle h s).store.handles = Tbl.del s.store.handles h := by
  simp [freeHandle, State.onStore]

theorem quarantineHandle_blocks (p : Option Port) (h : Nat) (s : State) :
    (quarantineHandle p h s).store.blocks = Tbl.mapAll
      (fun b => if b.owner = .held h then { b with owner := .quarantined } else b) s.store.blocks := rfl

theorem StoreInv.of_store {s t : State} (inv : StoreInv s) (blocks : t.store.blocks = s.store.blocks)
    (handles : t.store.handles = s.store.handles) : StoreInv t := by
  rwa [StoreInv, blocks, handles]

section
variable {s : State} (inv : StoreInv s)
include inv

theorem storeInv_storeFrame (f : List Octet) (c : TClass) (t : Option TagFields) :
    StoreInv (storeFrame f c t s) := by
  obtain ⟨bwf, bbelow, hwf, hbelow⟩ := inv
  refine ⟨?_, ?_, ?_, ?_⟩
  · rw [storeFrame_blocks]
    exact Tbl.wf_putAll _ _ bwf
  · rw [storeFrame_blocks]
    exact Tbl.below_putAll (by rw [newBlocks_numbers]; exact fun b => lowestBlocks_lt) bbelow
  · rw [storeFrame_handles]
    exact Tbl.wf_put _ _ _ hwf
  · rw [storeFrame_handles]
    exact Tbl.below_put _ _ _ (lowestHandle_lt s) hbelow

theorem storeInv_writeHandle (h : Nat) (f : Handle → Handle) : StoreInv (writeHandle h f s) := by
  obtain ⟨bwf, bbelow, hwf, hbelow⟩ := inv
  unfold writeHandle
  split
  · next live => exact ⟨bwf, bbelow, Tbl.wf_put _ _ _ hwf, Tbl.below_put _ _ _ (Tbl.lt_of_look hbelow live) hbelow⟩
  · exact ⟨bwf, bbelow, hwf, hbelow⟩

theorem storeInv_freeHandle (h : Nat) : StoreInv (freeHandle h s) := by
  obtain ⟨bwf, bbelow, hwf, hbelow⟩ := inv
  rw [StoreInv, freeHandle_blocks, freeHandle_handles]
  exact ⟨Tbl.wf_keep _ _ bwf, Tbl.below_keep _ _ bbelow, Tbl.wf_del _ _ hwf, Tbl.below_del _ _ hbelow⟩

theorem storeInv_quarantineHandle (p : Option Port) (h : Nat) : StoreInv (quarantineHandle p h s) := by
  obtain ⟨bwf, bbelow, hwf, hbelow⟩ := inv
  rw [StoreInv, quarantineHandle_blocks, Tbl.wf_mapAll, Tbl.below_mapAll]
  refine ⟨bwf, bbelow, ?_, ?_⟩ <;> simp only [quarantineHandle, report, State.onStore] <;> split
  · exact Tbl.wf_put _ _ _ hwf
  · exact hwf
  · next live => exact Tbl.below_put _ _ _ (Tbl.lt_of_look hbelow live) hbelow
  · exact hbelow

theorem storeInv_release (p : Option Port) (h : Nat) : StoreInv (release p h s) := by
  obtain ⟨_, e⟩ | ⟨r, _, ⟨_, e⟩ | ⟨_, _, e⟩ | ⟨_, _, _, e⟩ | ⟨_, _, _, e⟩⟩ := release_cases p h s <;> rw [e]
  · exact inv
  · exact inv
  · exact storeInv_quarantineHandle inv p h
  · exact storeInv_freeHandle inv h
  · exact storeInv_writeHandle inv h _

end

/-! ### Blocks and the handles that hold them -/

/-- The blocks of a live handle's list are held by it, and a held block is in the list of the live handle that
holds it: what `BlockInv` says beside the count of the blocks (R28). -/
def BlocksOwned (s : State) : Prop :=
  (∀ h r b, handleOf s h = some r → r.quarantined = false → b ∈ r.blocks →
    ∃ k, Tbl.look s.store.blocks b = some k ∧ k.owner = .held h) ∧
  (∀ h b k, Tbl.look s.store.blocks b = some k → k.owner = .held h →
    ∃ r, handleOf s h = some r ∧ r.quarantined = false ∧ b ∈ r.blocks)

/-- In canonical form free, held and quarantined blocks are all 2,048. -/
theorem blockInv_iff {s : State} (inv : StoreInv s) : BlockInv s ↔ BlocksOwned s := by
  obtain ⟨bwf, bbelow, _, _⟩ := inv
  refine ⟨fun h => h.2, fun h => ⟨?_, h⟩⟩
  have few := Tbl.length_le_of_below bwf bbelow
  have split := List.length_eq_countP_add_countP (fun p : Nat × Block => p.2.owner == .quarantined)
    (l := s.store.blocks)
  simp only [freeBlocks, totalBlocks, heldBlocks, quarantinedBlocks, Tbl.count, bne, Bool.not_eq_true,
    Bool.decide_eq_false] at *
  omega

theorem BlocksOwned.of_store {s t : State} (own : BlocksOwned s) (blocks : t.store.blocks = s.store.blocks)
    (handles : t.store.handles = s.store.handles) : BlocksOwned t := by
  simp only [BlocksOwned, handleOf, blocks, handles] at own ⊢
  exact own

theorem blocksOwned_storeFrame {f : List Octet} {s : State} (own : BlocksOwned s) (room : HasRoom f s)
    (c : TClass) (t : Option TagFields) : BlocksOwned (storeFrame f c t s) := by
  obtain ⟨listed, held⟩ := own
  have new : handleOf s (lowestHandle s) = none := lowestHandle_free room.2
  refine ⟨fun h r b live q mem => ?_, fun h b k found owner => ?_⟩
  · rw [handleOf_storeFrame] at live
    split at live
    · next e =>
      obtain rfl := Option.some.inj live
      have numbered := mem
      rw [storedHandle, ← List.zipIdx_map_fst 0 (lowestBlocks s _)] at numbered
      obtain ⟨p, hp, rfl⟩ := List.mem_map.mp numbered
      exact ⟨_, look_storeFrame_new hp, congrArg BlockOwner.held e.symm⟩
    · obtain ⟨k, found, owner⟩ := listed h r b live q mem
      refine ⟨k, (look_storeFrame_old fun isNew => ?_).trans found, owner⟩
      simp [lowestBlocks_free isNew] at found
  · rw [handleOf_storeFrame]
    by_cases isNew : b ∈ lowestBlocks s (blocksNeeded f.length)
    · have numbered := isNew
      rw [← List.zipIdx_map_fst 0 (lowestBlocks s _)] at numbered
      obtain ⟨p, hp, rfl⟩ := List.mem_map.mp numbered
      rw [look_storeFrame_new hp] at found
      obtain rfl := Option.some.inj found
      obtain rfl := BlockOwner.held.inj owner
      exact ⟨_, if_pos rfl, rfl, isNew⟩
    · rw [look_storeFrame_old isNew] at found
      obtain ⟨r, live, q, mem⟩ := held h b k found owner
      refine ⟨r, (if_neg fun e => ?_).trans live, q, mem⟩
      simp [e, new] at live

/-- A write of fields other than the block list and the quarantine mark. -/
theorem blocksOwned_writeHandle {s : State} (own : BlocksOwned s) (h : Nat) {f : Handle → Handle}
    (same : ∀ r, (f r).blocks = r.blocks ∧ (f r).quarantined = r.quarantined) :
    BlocksOwned (writeHandle h f s) := by
  obtain ⟨listed, held⟩ := own
  refine ⟨fun n r b live q mem => ?_, fun n b k found owner => ?_⟩
  · rw [handleOf_writeHandle] at live
    rw [writeHandle_blocks]
    split at live
    · next e =>
      obtain ⟨g, was, rfl⟩ := Option.map_eq_some_iff.mp live
      exact e ▸ listed h g b was ((same g).2 ▸ q) ((same g).1 ▸ mem)
    · exact listed n r b live q mem
  · rw [writeHandle_blocks] at found
    obtain ⟨r, live, q, mem⟩ := held n b k found owner
    rw [handleOf_writeHandle]
    split
    · next e =>
      subst e
      rw [live]
      exact ⟨_, rfl, (same r).2.trans q, (same r).1.symm ▸ mem⟩
    · exact ⟨r, live, q, mem⟩

theorem look_freeHandle {s : State} (inv : StoreInv s) (h b : Nat) :
    Tbl.look (freeHandle h s).store.blocks b =
      (Tbl.look s.store.blocks b).filter fun k => k.owner != .held h := by
  rw [freeHandle_blocks, Tbl.look_keep _ inv.1]

theorem blocksOwned_freeHandle {s : State} (inv : StoreInv s) (own : BlocksOwned s) (h : Nat) :
    BlocksOwned (freeHandle h s) := by
  obtain ⟨listed, held⟩ := own
  refine ⟨fun n r b live q mem => ?_, fun n b k found owner => ?_⟩
  · rw [handleOf_freeHandle] at live
    split at live
    · exact absurd live (by simp)
    · next other =>
      obtain ⟨k, found, owner⟩ := listed n r b live q mem
      refine ⟨k, ?_, owner⟩
      rw [look_freeHandle inv, found, Option.filter_some, owner]
      simp [other]
  · rw [look_freeHandle inv, Option.filter_eq_some_iff] at found
    obtain ⟨found, kept⟩ := found
    obtain ⟨r, live, q, mem⟩ := held n b k found owner
    refine ⟨r, ?_, q, mem⟩
    rw [handleOf_freeHandle, if_neg, live]
    rintro rfl
    simp [owner] at kept

theorem look_quarantineHandle (p : Option Port) (h b : Nat) (s : State) :
    Tbl.look (quarantineHandle p h s).store.blocks b =
      (Tbl.look s.store.blocks b).map fun k =>
        if k.owner = .held h then { k with owner := .quarantined } else k := by
  rw [quarantineHandle_blocks, Tbl.look_mapAll]

theorem blocksOwned_quarantineHandle {s : State} (own : BlocksOwned s) (p : Option Port) (h : Nat) :
    BlocksOwned (quarantineHandle p h s) := by
  obtain ⟨listed, held⟩ := own
  refine ⟨fun n r b live q mem => ?_, fun n b k found owner => ?_⟩
  · rw [handleOf_quarantineHandle] at live
    split at live
    · obtain ⟨g, _, rfl⟩ := Option.map_eq_some_iff.mp live
      exact absurd q (by simp)
    · next other =>
      obtain ⟨k, found, owner⟩ := listed n r b live q mem
      refine ⟨k, ?_, owner⟩
      rw [look_quarantineHandle, found, Option.map_some, owner, if_neg]
      simpa using other
  · rw [look_quarantineHandle, Option.map_eq_some_iff] at found
    obtain ⟨k', found, rfl⟩ := found
    split at owner
    · exact absurd owner (by simp)
    · next notH =>
      obtain ⟨r, live, q, mem⟩ := held n b k' found owner
      refine ⟨r, ?_, q, mem⟩
      rw [handleOf_quarantineHandle, if_neg, live]
      rintro rfl
      exact notH owner

theorem blocksOwned_release {s : State} (inv : StoreInv s) (own : BlocksOwned s) (p : Option Port) (h : Nat) :
    BlocksOwned (release p h s) := by
  obtain ⟨_, e⟩ | ⟨r, _, ⟨_, e⟩ | ⟨_, _, e⟩ | ⟨_, _, _, e⟩ | ⟨_, _, _, e⟩⟩ := release_cases p h s <;> rw [e]
  · exact own
  · exact own
  · exact blocksOwned_quarantineHandle own p h
  · exact blocksOwned_freeHandle inv own h
  · exact blocksOwned_writeHandle own h fun r => ⟨rfl, rfl⟩

end Sys2Proof.Machine

/-! SUPPORT. What a handling is made of: the operations on storage, queues and transmissions, each of them once, with
what the handling has in hand between two of them (R28, R32, R139, R153). The invariants of storage, queues and
links are proved for each such operation, and each command is shown to be a chain of them. -/

namespace Sys2Proof.Machine

/-! ### Handles named -/

/-- The handle whose frame B is sending. -/
def BayTx.handle? : BayTx → Option Nat
  | .frame h _ => some h
  | .pause _ _ => none

/-- The handle whose frame the Bay Egress is sending. -/
def BayEgress.sending (b : BayEgress) : Option Nat := b.tx.bind BayTx.handle?

/-- The handle whose copy an uplink is sending. -/
def UplinkEgress.sending (e : UplinkEgress) : Option Nat := e.tx.map UplinkTx.handle

theorem UplinkEgress.naming_eq (e : UplinkEgress) (h : Nat) :
    e.naming h = (e.queue .event).naming h + (e.queue .timing).naming h + (e.queue .stream).naming h +
      (e.queue .general).naming h + if e.sending = some h then 1 else 0 := by
  rw [UplinkEgress.naming, UplinkEgress.sending]
  cases e.tx <;> simp [UplinkEgress.queue]

theorem BayEgress.naming_eq (b : BayEgress) (h : Nat) :
    b.naming h = (b.queue .event).naming h + (b.queue .service).naming h + (b.queue .timing).naming h +
      (b.queue .stream).naming h + (b.queue .general).naming h + if b.sending = some h then 1 else 0 := by
  rw [BayEgress.naming, BayEgress.sending]
  rcases b.tx with _ | ⟨k, w⟩ | ⟨q, w⟩ <;> simp [BayEgress.queue, BayTx.sends, BayTx.handle?]

/-- An uplink's entries, and what it sends, say which handles it names. -/
theorem UplinkEgress.naming_congr {e g : UplinkEgress}
    (queues : ∀ q, (g.queue q).entries = (e.queue q).entries) (sends : g.sending = e.sending) (h : Nat) :
    g.naming h = e.naming h := by
  simp only [UplinkEgress.naming_eq, Queue.naming, queues, sends]

theorem BayEgress.naming_congr {b d : BayEgress}
    (queues : ∀ q, (d.queue q).entries = (b.queue q).entries) (sends : d.sending = b.sending) (h : Nat) :
    d.naming h = b.naming h := by
  simp only [BayEgress.naming_eq, Queue.naming, queues, sends]

theorem naming_eq (s : State) (h : Nat) :
    naming s h = (s.uplink .u1).naming h + (s.uplink .u2).naming h + s.bay.naming h := rfl

theorem naming_onUplink (s : State) (u : Uplink) (f : UplinkEgress → UplinkEgress) (h : Nat) :
    naming (s.onUplink u f) h + (s.uplink u).naming h = naming s h + (f (s.uplink u)).naming h := by
  cases u <;> simp only [naming, State.onUplink, State.uplink] <;> omega

theorem naming_onBay (s : State) (f : BayEgress → BayEgress) (h : Nat) :
    naming (s.onBay f) h + s.bay.naming h = naming s h + (f s.bay).naming h := by
  simp only [naming, State.onBay]
  omega

@[simp] theorem UplinkEgress.sending_onQueue (e : UplinkEgress) (q : SlotClass) (f : Queue → Queue) :
    (e.onQueue q f).sending = e.sending := by cases q <;> rfl

@[simp] theorem BayEgress.sending_onQueue (b : BayEgress) (q : BayQueue) (f : Queue → Queue) :
    (b.onQueue q f).sending = b.sending := by cases q <;> rfl

theorem UplinkEgress.naming_onQueue (e : UplinkEgress) (q : SlotClass) (f : Queue → Queue) (h : Nat) :
    (e.onQueue q f).naming h + (e.queue q).naming h = e.naming h + (f (e.queue q)).naming h := by
  rw [UplinkEgress.naming_eq, UplinkEgress.naming_eq, UplinkEgress.sending_onQueue]
  cases q <;> simp only [UplinkEgress.onQueue, UplinkEgress.queue] <;> omega

theorem BayEgress.naming_onQueue (b : BayEgress) (q : BayQueue) (f : Queue → Queue) (h : Nat) :
    (b.onQueue q f).naming h + (b.queue q).naming h = b.naming h + (f (b.queue q)).naming h := by
  rw [BayEgress.naming_eq, BayEgress.naming_eq, BayEgress.sending_onQueue]
  cases q <;> simp only [BayEgress.onQueue, BayEgress.queue] <;> omega

theorem Queue.naming_join (q : Queue) (e : QueueEntry) (h : Nat) :
    (q.join e).naming h = q.naming h + if e.handle = h then 1 else 0 := by
  simp [Queue.naming, Queue.join]

theorem Queue.naming_pop {q : Queue} {e : QueueEntry} {rest : List QueueEntry} (head : q.entries = e :: rest)
    (h : Nat) : q.pop.naming h + (if e.handle = h then 1 else 0) = q.naming h := by
  simp [Queue.naming, Queue.pop, head, List.countP_cons]

/-- The transmission that starts names its handle; it was free before. -/
theorem UplinkEgress.naming_start (e : UplinkEgress) (t : UplinkTx) (h : Nat) (free : e.tx = none) :
    { e with tx := some t }.naming h = e.naming h + if t.handle = h then 1 else 0 := by
  simp [UplinkEgress.naming, free]

theorem UplinkEgress.naming_stop {e : UplinkEgress} {t : UplinkTx} (sends : e.tx = some t) (h : Nat) :
    { e with tx := none }.naming h + (if t.handle = h then 1 else 0) = e.naming h := by
  simp [UplinkEgress.naming, sends]

theorem BayEgress.naming_start (b : BayEgress) (k : Nat) (w : OnWire) (h : Nat) (free : b.tx = none) :
    { b with tx := some (.frame k w) }.naming h = b.naming h + if k = h then 1 else 0 := by
  simp [BayEgress.naming, free, BayTx.sends]

theorem BayEgress.naming_stop {b : BayEgress} {k : Nat} {w : OnWire} (sends : b.tx = some (.frame k w)) (h : Nat) :
    { b with tx := none }.naming h + (if k = h then 1 else 0) = b.naming h := by
  simp [BayEgress.naming, sends, BayTx.sends]

theorem UplinkEgress.naming_emptied (e : UplinkEgress) (h : Nat) :
    e.emptied.naming h + (e.allEntries.map QueueEntry.handle).count h = e.naming h := by
  have sends : e.emptied.sending = e.sending := rfl
  rw [UplinkEgress.naming_eq, UplinkEgress.naming_eq, sends]
  simp only [UplinkEgress.emptied, UplinkEgress.queue, UplinkEgress.allEntries, Queue.naming, List.count,
    List.countP_map, List.countP_append, List.countP_nil, Function.comp_def]
  omega

/-! ### What a handling has in hand -/

/-- What a handling has in hand between two operations: the handles stored and not yet placed, the references taken
from a queue or a transmission or meant for one, and the uplink whose link is going down. -/
structure Hands where
  stored  : List Nat
  refs    : List Nat
  falling : Option Uplink

/-- Nothing in hand. -/
def Hands.empty : Hands := { stored := [], refs := [], falling := none }

/-- How often a handle is named by queues, transmissions and the references in hand. -/
def claims (refs : List Nat) (s : State) (h : Nat) : Nat := naming s h + refs.count h

/-- `RefInv` with handles stored and references in hand (R32). -/
structure RefsCount (stored refs : List Nat) (s : State) : Prop where
  free   : ∀ h, handleOf s h = none → claims refs s h = 0 ∧ h ∉ stored
  live   : ∀ h r, handleOf s h = some r → r.quarantined = false → h ∉ stored →
    r.refs = claims refs s h ∧ 1 ≤ r.refs ∧ r.refs ≤ 2
  unused : ∀ h ∈ stored, claims refs s h = 0
  nodup  : stored.Nodup

theorem refInv_iff (s : State) : RefInv s ↔ RefsCount [] [] s := by
  refine ⟨fun ⟨free, live⟩ => ⟨fun h e => ⟨free h e, by simp⟩, fun h r e q _ => live h r e q, by simp, List.nodup_nil⟩,
    fun ⟨free, live, _, _⟩ => ⟨fun h e => (free h e).1, fun h r e q => live h r e q (by simp)⟩⟩

/-- An uplink's frame may be on its way outside RUN: it is untagged, or of class 2 with a reply's Code (R120). -/
def ReplyLike (s : State) (h : Nat) : Prop :=
  ∀ r t, handleOf s h = some r → r.quarantined = false → r.tag = some t →
    t.cls = .timing ∧ 0x80 ≤ (octetAt (storedFrame s r) 14).toNat

theorem replyInv_iff (s : State) : ReplyInv s ↔
    (s.loader.part ≠ .run → ∀ u h, (s.uplink u).naming h ≠ 0 → ReplyLike s h) :=
  ⟨fun inv part u h named r t => inv part u h r t named, fun inv part u h r t named => inv part u h named r t⟩

/-- What a copy that joins an uplink's queue owes to R120. -/
def CopyAllowed (s : State) (h : Nat) : Prop := s.loader.part = .run ∨ ReplyLike s h

/-! ### The operations -/

/-- From `s` to `t` blocks, handles, link states, queue entries, what is sent, and the part state are the same, and
the Notice Queue stays within its bound. -/
structure SameHoldings (s t : State) : Prop where
  blocks    : t.store.blocks = s.store.blocks
  handles   : t.store.handles = s.store.handles
  links     : ∀ u, (t.uplink u).linkUp = (s.uplink u).linkUp
  queues    : ∀ u q, ((t.uplink u).queue q).entries = ((s.uplink u).queue q).entries
  sends     : ∀ u, (t.uplink u).sending = (s.uplink u).sending
  bayQueues : ∀ q, (t.bay.queue q).entries = (s.bay.queue q).entries
  baySends  : t.bay.sending = s.bay.sending
  part      : t.loader.part = s.loader.part
  records   : s.notices.records.length ≤ 32 → t.notices.records.length ≤ 32

/-- A state that holds nothing: what every reset leaves of storage, queues and transmissions. -/
structure HoldsNothing (s : State) : Prop where
  blocks    : s.store.blocks = []
  handles   : s.store.handles = []
  queues    : ∀ u q, ((s.uplink u).queue q).entries = []
  sends     : ∀ u, (s.uplink u).tx = none
  bayQueues : ∀ q, (s.bay.queue q).entries = []
  baySends  : s.bay.tx = none
  records   : s.notices.records = []

/-- The chains of operations that handlings are made of: from a state with something in hand to another. With
`strict` each copy that joins an uplink's queue is shown to be allowed there outside RUN (R120). -/
inductive Work (strict : Prop) : Hands → State → Hands → State → Prop
  /-- One operation after another. -/
  | trans {k l m : Hands} {s t v : State} : Work strict k s l t → Work strict l t m v → Work strict k s m v
  /-- A change of nothing that is held. -/
  | same {k : Hands} {s t : State} : SameHoldings s t → Work strict k s k t
  /-- A change of the part state: none leaves RUN. -/
  | enter {k : Hands} {s : State} (f : Loader → Loader) :
    (strict → s.loader.part = .run → (f s.loader).part = .run) → Work strict k s k (s.onLoader f)
  /-- A frame stored (R28). -/
  | store {o d : List Nat} {x : Option Uplink} {s : State} (f : List Octet) (c : TClass) (t : Option TagFields) :
    HasRoom f s → Work strict ⟨o, d, x⟩ s ⟨lowestHandle s :: o, d, x⟩ (storeFrame f c t s)
  /-- Fields of a stored frame's handle written (R121). -/
  | write {k : Hands} {s : State} (h : Nat) (g : Handle → Handle) : h ∈ k.stored →
    (∀ r, (g r).blocks = r.blocks ∧ (g r).quarantined = r.quarantined) → Work strict k s k (writeHandle h g s)
  /-- A stored frame given its references (R32). -/
  | place {o d : List Nat} {x : Option Uplink} {s : State} (h n : Nat) : 1 ≤ n → n ≤ 2 →
    Work strict ⟨h :: o, d, x⟩ s ⟨o, List.replicate n h ++ d, x⟩ (setRefs h n s)
  /-- A stored frame freed before it is placed. -/
  | free {o d : List Nat} {x : Option Uplink} {s : State} (h : Nat) :
    Work strict ⟨h :: o, d, x⟩ s ⟨o, d, x⟩ (freeHandle h s)
  /-- A reference released (R32). -/
  | release {o d : List Nat} {x : Option Uplink} {s : State} (p : Option Port) (h : Nat) :
    Work strict ⟨o, h :: d, x⟩ s ⟨o, d, x⟩ (release p h s)
  /-- A reference to no live handle dropped (R37, log 25). -/
  | drop {o d : List Nat} {x : Option Uplink} {s : State} (h : Nat) :
    (∀ r, handleOf s h = some r → r.quarantined = true) → Work strict ⟨o, h :: d, x⟩ s ⟨o, d, x⟩ s
  /-- A handle quarantined (R36). -/
  | quarantine {k : Hands} {s : State} (p : Option Port) (h : Nat) : Work strict k s k (quarantineHandle p h s)
  /-- A copy joins an uplink's queue (R139). -/
  | join {o d : List Nat} {x : Option Uplink} {s : State} (u : Uplink) (q : SlotClass) (e : QueueEntry) :
    (s.uplink u).linkUp = true → ((s.uplink u).queue q).entries.length < uplinkCapacity q →
    (strict → CopyAllowed s e.handle) →
    Work strict ⟨o, e.handle :: d, x⟩ s ⟨o, d, x⟩ (s.onUplink u fun g => g.onQueue q fun y => y.join e)
  /-- A frame joins a bay queue (R153). -/
  | joinBay {o d : List Nat} {x : Option Uplink} {s : State} (q : BayQueue) (e : QueueEntry) :
    (s.bay.queue q).entries.length < bayCapacity q →
    Work strict ⟨o, e.handle :: d, x⟩ s ⟨o, d, x⟩ (s.onBay fun b => b.onQueue q fun y => y.join e)
  /-- The head of an uplink's queue taken (R146). -/
  | pop {o d : List Nat} {x : Option Uplink} {s : State} (u : Uplink) (q : SlotClass) {e : QueueEntry}
    {rest : List QueueEntry} : ((s.uplink u).queue q).entries = e :: rest →
    Work strict ⟨o, d, x⟩ s ⟨o, e.handle :: d, x⟩ (s.onUplink u fun g => g.onQueue q Queue.pop)
  /-- The head of a bay queue taken (R154, R158). -/
  | popBay {o d : List Nat} {x : Option Uplink} {s : State} (q : BayQueue) {e : QueueEntry}
    {rest : List QueueEntry} : (s.bay.queue q).entries = e :: rest →
    Work strict ⟨o, d, x⟩ s ⟨o, e.handle :: d, x⟩ (s.onBay fun b => b.onQueue q Queue.pop)
  /-- The head of an uplink's queue started (R148). -/
  | start {k : Hands} {s : State} (u : Uplink) (q : SlotClass) {e : QueueEntry} {rest : List QueueEntry}
    {t : UplinkTx} : ((s.uplink u).queue q).entries = e :: rest → (s.uplink u).linkUp = true →
    (s.uplink u).tx = none → t.handle = e.handle →
    Work strict k s k (s.onUplink u fun g => { g.onQueue q Queue.pop with tx := some t })
  /-- The head of a bay queue started (R154). -/
  | startBay {k : Hands} {s : State} (q : BayQueue) {e : QueueEntry} {rest : List QueueEntry} (w : OnWire) :
    (s.bay.queue q).entries = e :: rest → s.bay.tx = none →
    Work strict k s k (s.onBay fun b => { b.onQueue q Queue.pop with tx := some (.frame e.handle w) })
  /-- A copy's transmission ended (R149, R150). -/
  | stop {o d : List Nat} {x : Option Uplink} {s : State} (u : Uplink) {t : UplinkTx} :
    (s.uplink u).tx = some t →
    Work strict ⟨o, d, x⟩ s ⟨o, t.handle :: d, x⟩ (s.onUplink u fun g => { g with tx := none })
  /-- A bay frame's transmission ended (R155). -/
  | stopBay {o d : List Nat} {x : Option Uplink} {s : State} {h : Nat} {w : OnWire} :
    s.bay.tx = some (.frame h w) →
    Work strict ⟨o, d, x⟩ s ⟨o, h :: d, x⟩ (s.onBay fun b => { b with tx := none })
  /-- An uplink's queues emptied into the hand (R151). -/
  | empty {o d : List Nat} {x : Option Uplink} {s : State} (u : Uplink) :
    Work strict ⟨o, d, x⟩ s ⟨o, (s.uplink u).allEntries.map QueueEntry.handle ++ d, x⟩
      (s.onUplink u UplinkEgress.emptied)
  /-- A link goes up (R108). -/
  | rise {k : Hands} {s : State} (u : Uplink) :
    Work strict k s k (s.onUplink u fun e => { e with linkUp := true })
  /-- A link goes down, its uplink not yet empty (R109). -/
  | fall {o d : List Nat} {s : State} (u : Uplink) :
    Work strict ⟨o, d, none⟩ s ⟨o, d, some u⟩ (s.onUplink u fun e => { e with linkUp := false })
  /-- It has been emptied (R150, R151). -/
  | fallen {o d : List Nat} {s : State} (u : Uplink) : (s.uplink u).tx = none →
    (∀ q, ((s.uplink u).queue q).entries = []) → Work strict ⟨o, d, some u⟩ s ⟨o, d, none⟩ s
  /-- A reset (R185, R191). -/
  | reset {k : Hands} {s t : State} : HoldsNothing t → Work strict k s Hands.empty t

end Sys2Proof.Machine

/-! SUPPORT. What every chain of operations keeps of storage, queues and links (R28, R32, R109, R120, R139, R151,
R153, R182). -/

namespace Sys2Proof.Machine

/-! ### Storage operations beside the egresses -/

/-- From `s` to `t` storage and pause emission alone may differ: a pause may have started on B, but no queue and no
frame that is being sent has changed. -/
structure Aside (s t : State) : Prop extends OnlyStorage s t where
  bayQueues : ∀ q, t.bay.queue q = s.bay.queue q
  baySends  : t.bay.sending = s.bay.sending

theorem Aside.trans {s t v : State} (a : Aside s t) (b : Aside t v) : Aside s v :=
  ⟨a.toOnlyStorage.trans b.toOnlyStorage, fun q => (b.bayQueues q).trans (a.bayQueues q),
    b.baySends.trans a.baySends⟩

theorem Aside.refl (s : State) : Aside s s := ⟨OnlyStorage.refl s, fun _ => rfl, rfl⟩

theorem Aside.naming {s t : State} (a : Aside s t) (h : Nat) : naming t h = naming s h := by
  rw [naming_eq, naming_eq, a.uplink, a.uplink,
    BayEgress.naming_congr (fun q => congrArg Queue.entries (a.bayQueues q)) a.baySends]

theorem startPause_sending (s : State) : (startPause s).bay.sending = s.bay.sending := by
  unfold startPause
  split
  · next free => exact (congrArg (Option.bind · BayTx.handle?) free).symm
  · rfl

theorem makePausePending_aside (q : BitVec 16) (s : State) : Aside s (makePausePending q s) :=
  ⟨makePausePending_storage q s, fun n => startPause_queue n _, startPause_sending _⟩

theorem pauseTest_sending (s : State) : (pauseTest s).bay.sending = s.bay.sending := by
  unfold pauseTest
  split
  · split
    · exact startPause_sending _
    · split
      · exact startPause_sending _
      · rfl
  · rfl

theorem pauseTest_aside (s : State) : Aside s (pauseTest s) :=
  ⟨pauseTest_storage s, fun q => pauseTest_queue q s, pauseTest_sending s⟩

theorem onStore_aside (f : FrameStore → FrameStore) (s : State) : Aside s (s.onStore f) :=
  ⟨onStore_storage f s, fun _ => rfl, rfl⟩

theorem storeFrame_aside (f : List Octet) (c : TClass) (t : Option TagFields) (s : State) :
    Aside s (storeFrame f c t s) := (onStore_aside _ s).trans (pauseTest_aside _)

theorem freeHandle_aside (h : Nat) (s : State) : Aside s (freeHandle h s) :=
  (onStore_aside _ s).trans (pauseTest_aside _)

theorem writeHandle_aside (h : Nat) (f : Handle → Handle) (s : State) : Aside s (writeHandle h f s) := by
  unfold writeHandle
  split
  · exact onStore_aside _ s
  · exact Aside.refl s

theorem quarantineHandle_aside (p : Option Port) (h : Nat) (s : State) : Aside s (quarantineHandle p h s) :=
  ⟨quarantineHandle_storage p h s, fun _ => rfl, rfl⟩

theorem release_aside (p : Option Port) (h : Nat) (s : State) : Aside s (release p h s) := by
  obtain ⟨_, e⟩ | ⟨r, _, ⟨_, e⟩ | ⟨_, _, e⟩ | ⟨_, _, _, e⟩ | ⟨_, _, _, e⟩⟩ := release_cases p h s <;> rw [e]
  · exact Aside.refl s
  · exact Aside.refl s
  · exact quarantineHandle_aside p h s
  · exact freeHandle_aside h s
  · exact writeHandle_aside h _ s

/-! ### Pools -/

section
variable {strict : Prop} {k l : Hands} {s t : State}

theorem Work.keeps_store (w : Work strict k s l t) : StoreInv s → StoreInv t := by
  induction w with
  | trans _ _ first second => exact fun inv => second (first inv)
  | same h => exact fun inv => inv.of_store h.blocks h.handles
  | store f c t _ => exact fun inv => storeInv_storeFrame inv f c t
  | write h g _ _ => exact fun inv => storeInv_writeHandle inv h g
  | place h n _ _ => exact fun inv => storeInv_writeHandle inv h _
  | free h => exact fun inv => storeInv_freeHandle inv h
  | release p h => exact fun inv => storeInv_release inv p h
  | quarantine p h => exact fun inv => storeInv_quarantineHandle inv p h
  | reset h => exact fun _ => by simp [StoreInv, h.blocks, h.handles, Tbl.wf, Tbl.below]
  | _ => exact fun inv => inv.of_store (by simp) (by simp)

theorem Work.keeps_blocks (w : Work strict k s l t) : StoreInv s → BlocksOwned s → BlocksOwned t := by
  induction w with
  | trans first _ one two => exact fun inv own => two (first.keeps_store inv) (one inv own)
  | same h => exact fun _ own => own.of_store h.blocks h.handles
  | store f c t room => exact fun _ own => blocksOwned_storeFrame own room c t
  | write h g _ same => exact fun _ own => blocksOwned_writeHandle own h same
  | place h n _ _ => exact fun _ own => blocksOwned_writeHandle own h fun r => ⟨rfl, rfl⟩
  | free h => exact fun inv own => blocksOwned_freeHandle inv own h
  | release p h => exact fun inv own => blocksOwned_release inv own p h
  | quarantine p h => exact fun _ own => blocksOwned_quarantineHandle own p h
  | reset h => exact fun _ _ => by simp [BlocksOwned, handleOf, h.blocks, h.handles, Tbl.look]
  | _ => exact fun _ own => own.of_store (by simp) (by simp)

end

/-! ### Queues -/

theorem UplinkEgress.queue_onQueue (e : UplinkEgress) (q n : SlotClass) (f : Queue → Queue) :
    (e.onQueue q f).queue n = if n = q then f (e.queue n) else e.queue n := by
  cases q <;> cases n <;> rfl

theorem BayEgress.queue_onQueue (b : BayEgress) (q n : BayQueue) (f : Queue → Queue) :
    (b.onQueue q f).queue n = if n = q then f (b.queue n) else b.queue n := by
  cases q <;> cases n <;> rfl

theorem State.onUplink_uplink_eq (s : State) (u v : Uplink) (f : UplinkEgress → UplinkEgress) :
    (s.onUplink u f).uplink v = if v = u then f (s.uplink v) else s.uplink v := by
  cases u <;> cases v <;> rfl

theorem QueueInv.of_same {s t : State} (inv : QueueInv s)
    (queues : ∀ u q, ((t.uplink u).queue q).entries = ((s.uplink u).queue q).entries)
    (bayQueues : ∀ q, (t.bay.queue q).entries = (s.bay.queue q).entries)
    (records : s.notices.records.length ≤ 32 → t.notices.records.length ≤ 32) : QueueInv t := by
  obtain ⟨up, bay, notices⟩ := inv
  exact ⟨fun u q => queues u q ▸ up u q, fun q => bayQueues q ▸ bay q, records notices⟩

theorem Aside.keeps_queues {s t : State} (a : Aside s t) (inv : QueueInv s) : QueueInv t :=
  inv.of_same (fun u q => by rw [a.uplink]) (fun q => by rw [a.bayQueues]) (fun h => a.notices ▸ h)

/-- A change of one uplink after which each of its queues is within its capacity where it was so before. -/
theorem QueueInv.onUplink {s : State} (inv : QueueInv s) (u : Uplink) {f : UplinkEgress → UplinkEgress}
    (within : ∀ q, ((s.uplink u).queue q).entries.length ≤ uplinkCapacity q →
      ((f (s.uplink u)).queue q).entries.length ≤ uplinkCapacity q) : QueueInv (s.onUplink u f) := by
  obtain ⟨up, bay, notices⟩ := inv
  refine ⟨fun v q => ?_, fun q => ?_, ?_⟩
  · rw [State.onUplink_uplink_eq]
    split
    · next e => exact e ▸ within q (up u q)
    · exact up v q
  · rw [State.onUplink_bay]
    exact bay q
  · rwa [State.onUplink_notices]

theorem QueueInv.onBay {s : State} (inv : QueueInv s) {f : BayEgress → BayEgress}
    (within : ∀ q, (s.bay.queue q).entries.length ≤ bayCapacity q →
      ((f s.bay).queue q).entries.length ≤ bayCapacity q) : QueueInv (s.onBay f) :=
  ⟨inv.1, fun q => within q (inv.2.1 q), inv.2.2⟩

theorem Queue.join_length {q : Queue} {cap : Nat} (e : QueueEntry) (room : q.entries.length < cap) :
    (q.join e).entries.length ≤ cap := by simp [Queue.join]; omega

theorem Queue.pop_length {q : Queue} {cap : Nat} (within : q.entries.length ≤ cap) :
    q.pop.entries.length ≤ cap := by simp [Queue.pop]; omega

section
variable {strict : Prop} {k l : Hands} {s t : State}

theorem Work.keeps_queues (w : Work strict k s l t) : QueueInv s → QueueInv t := by
  induction w with
  | trans _ _ first second => exact fun inv => second (first inv)
  | same h => exact fun inv => inv.of_same h.queues h.bayQueues h.records
  | enter f _ => exact fun inv => inv.of_same (fun u q => by simp) (fun q => rfl) id
  | store f c t _ => exact (storeFrame_aside f c t _).keeps_queues
  | write h g _ _ => exact (writeHandle_aside h g _).keeps_queues
  | place h n _ _ => exact (writeHandle_aside h _ _).keeps_queues
  | free h => exact (freeHandle_aside h _).keeps_queues
  | release p h => exact (release_aside p h _).keeps_queues
  | drop h _ => exact id
  | quarantine p h => exact (quarantineHandle_aside p h _).keeps_queues
  | join u q e _ room _ =>
    refine fun inv => inv.onUplink u fun n within => ?_
    rw [UplinkEgress.queue_onQueue]
    split
    · next e => exact Queue.join_length _ (e ▸ room)
    · exact within
  | joinBay q e room =>
    refine fun inv => inv.onBay fun n within => ?_
    rw [BayEgress.queue_onQueue]
    split
    · next e => exact Queue.join_length _ (e ▸ room)
    · exact within
  | pop u q _ =>
    refine fun inv => inv.onUplink u fun n within => ?_
    rw [UplinkEgress.queue_onQueue]
    split
    · exact Queue.pop_length within
    · exact within
  | popBay q _ =>
    refine fun inv => inv.onBay fun n within => ?_
    rw [BayEgress.queue_onQueue]
    split
    · exact Queue.pop_length within
    · exact within
  | start u q _ _ _ _ =>
    refine fun inv => inv.onUplink u fun n within => ?_
    have popped : ∀ (g : UplinkEgress) t, ({ g with tx := some t } : UplinkEgress).queue n = g.queue n :=
      fun g t => by cases n <;> rfl
    rw [popped, UplinkEgress.queue_onQueue]
    split
    · exact Queue.pop_length within
    · exact within
  | startBay q w _ _ =>
    refine fun inv => inv.onBay fun n within => ?_
    have popped : ∀ (b : BayEgress) t, ({ b with tx := some t } : BayEgress).queue n = b.queue n :=
      fun b t => by cases n <;> rfl
    rw [popped, BayEgress.queue_onQueue]
    split
    · exact Queue.pop_length within
    · exact within
  | stop u _ => exact fun inv => inv.onUplink u fun n within => by cases n <;> exact within
  | stopBay _ => exact fun inv => inv.onBay fun n within => by cases n <;> exact within
  | empty u => exact fun inv => inv.onUplink u fun n _ => by cases n <;> exact Nat.zero_le _
  | rise u => exact fun inv => inv.onUplink u fun n within => by cases n <;> exact within
  | fall u => exact fun inv => inv.onUplink u fun n within => by cases n <;> exact within
  | fallen u _ _ => exact id
  | reset h =>
    exact fun _ => ⟨fun u q => by simp [h.queues], fun q => by simp [h.bayQueues], by simp [h.records]⟩

end

/-! ### Links -/

/-- `LinkInv` but for an uplink whose link is going down (R109, R151). -/
def LinksBut (falling : Option Uplink) (s : State) : Prop :=
  ∀ u, falling ≠ some u → (s.uplink u).linkUp = false →
    (s.uplink u).tx = none ∧ ∀ q, ((s.uplink u).queue q).entries = []

theorem linkInv_iff (s : State) : LinkInv s ↔ LinksBut none s :=
  ⟨fun inv u _ => inv u, fun inv u => inv u (by simp)⟩

theorem UplinkEgress.tx_eq_none_iff (e : UplinkEgress) : e.tx = none ↔ e.sending = none := by
  simp [UplinkEgress.sending]

theorem LinksBut.of_uplinks {x : Option Uplink} {s t : State} (inv : LinksBut x s)
    (same : ∀ u, t.uplink u = s.uplink u) : LinksBut x t := fun u other => same u ▸ inv u other

/-- A change of one uplink after which it is empty if it is DOWN and was so, or is UP. -/
theorem LinksBut.onUplink {x : Option Uplink} {s : State} (inv : LinksBut x s) (u : Uplink)
    {f : UplinkEgress → UplinkEgress}
    (keeps : (f (s.uplink u)).linkUp = false → (s.uplink u).linkUp = false ∧
      ((s.uplink u).tx = none → (f (s.uplink u)).tx = none) ∧
      ∀ q, ((s.uplink u).queue q).entries = [] → ((f (s.uplink u)).queue q).entries = []) :
    LinksBut x (s.onUplink u f) := by
  intro v other down
  rw [State.onUplink_uplink_eq] at down ⊢
  split at down
  · next e =>
    subst e
    rw [if_pos rfl]
    obtain ⟨wasDown, tx, queues⟩ := keeps down
    obtain ⟨idle, emptied⟩ := inv v other wasDown
    exact ⟨tx idle, fun q => queues q (emptied q)⟩
  · next ne =>
    rw [if_neg ne]
    exact inv v other down

section
variable {strict : Prop} {k l : Hands} {s t : State}

theorem Work.keeps_links (w : Work strict k s l t) : LinksBut k.falling s → LinksBut l.falling t := by
  induction w with
  | trans _ _ first second => exact fun inv => second (first inv)
  | same h =>
    intro inv u other down
    obtain ⟨idle, emptied⟩ := inv u other (h.links u ▸ down)
    rw [UplinkEgress.tx_eq_none_iff] at idle ⊢
    exact ⟨(h.sends u).trans idle, fun q => (h.queues u q).trans (emptied q)⟩
  | enter f _ => exact fun inv => inv.of_uplinks fun u => State.onLoader_uplink _ _ u
  | store f c t _ => exact fun inv => inv.of_uplinks (storeFrame_aside f c t _).uplink
  | write h g _ _ => exact fun inv => inv.of_uplinks (writeHandle_aside h g _).uplink
  | place h n _ _ => exact fun inv => inv.of_uplinks (writeHandle_aside h _ _).uplink
  | free h => exact fun inv => inv.of_uplinks (freeHandle_aside h _).uplink
  | release p h => exact fun inv => inv.of_uplinks (release_aside p h _).uplink
  | drop h _ => exact id
  | quarantine p h => exact fun inv => inv.of_uplinks (quarantineHandle_aside p h _).uplink
  | join u q e up _ _ =>
    exact fun inv => inv.onUplink u fun down => by cases q <;> exact absurd (up.symm.trans down) (by simp)
  | joinBay q e _ => exact fun inv => inv.of_uplinks fun u => State.onBay_uplink _ _ u
  | pop u q head =>
    refine fun inv => inv.onUplink u fun down => ⟨?_, ?_, fun n emptied => ?_⟩
    · cases q <;> exact down
    · cases q <;> exact id
    · rw [UplinkEgress.queue_onQueue]
      split
      · simp [Queue.pop, emptied]
      · exact emptied
  | popBay q _ => exact fun inv => inv.of_uplinks fun u => State.onBay_uplink _ _ u
  | start u q _ up _ _ =>
    exact fun inv => inv.onUplink u fun down => by cases q <;> exact absurd (up.symm.trans down) (by simp)
  | startBay q w _ _ => exact fun inv => inv.of_uplinks fun u => State.onBay_uplink _ _ u
  | stop u _ =>
    exact fun inv => inv.onUplink u fun down => ⟨down, fun _ => rfl, fun q emptied => by cases q <;> exact emptied⟩
  | stopBay _ => exact fun inv => inv.of_uplinks fun u => State.onBay_uplink _ _ u
  | empty u =>
    exact fun inv => inv.onUplink u fun down => ⟨down, id, fun q _ => by cases q <;> rfl⟩
  | rise u => exact fun inv => inv.onUplink u fun down => absurd down (by simp)
  | fall u =>
    intro inv v other down
    have ne : v ≠ u := fun e => other (congrArg some e.symm)
    rw [State.onUplink_uplink_ne _ _ ne] at down ⊢
    exact inv v (by simp) down
  | fallen u idle emptied =>
    intro inv v _ down
    by_cases e : v = u
    · exact e ▸ ⟨idle, emptied⟩
    · exact inv v (fun same => e (Option.some.inj same).symm) down
  | reset h => exact fun _ u _ _ => ⟨h.sends u, h.queues u⟩

end

/-! ### References -/

theorem claims_cons (h : Nat) (d : List Nat) (s : State) (n : Nat) :
    claims (h :: d) s n = claims d s n + if h = n then 1 else 0 := by
  simp only [claims, List.count_cons, beq_iff_eq]
  omega

section
variable {o d e : List Nat} {s t : State}

/-- References moved between queues, transmissions and the hand. -/
theorem RefsCount.move (inv : RefsCount o d s) (handles : ∀ h, handleOf t h = handleOf s h)
    (moved : ∀ h, claims e t h = claims d s h) : RefsCount o e t where
  free h gone := moved h ▸ inv.free h (handles h ▸ gone)
  live h r live := moved h ▸ inv.live h r (handles h ▸ live)
  unused h mem := (moved h).trans (inv.unused h mem)
  nodup := inv.nodup

theorem Aside.claims {s t : State} (a : Aside s t) (d : List Nat) (h : Nat) : claims d t h = claims d s h := by
  rw [Machine.claims, Machine.claims, a.naming]

/-- A frame stored takes a free handle, which nothing names. -/
theorem refsCount_storeFrame (inv : RefsCount o d s) {f : List Octet} (room : HasRoom f s) (c : TClass)
    (t : Option TagFields) : RefsCount (lowestHandle s :: o) d (storeFrame f c t s) where
  free h gone := by
    rw [handleOf_storeFrame] at gone
    split at gone
    · exact absurd gone (by simp)
    · next ne =>
      obtain ⟨none, notStored⟩ := inv.free h gone
      exact ⟨((storeFrame_aside f c t s).claims d h).trans none, by simp [ne, notStored]⟩
  live h r live q other := by
    simp only [List.mem_cons, not_or] at other
    rw [handleOf_storeFrame, if_neg other.1] at live
    rw [(storeFrame_aside f c t s).claims]
    exact inv.live h r live q other.2
  unused h mem := by
    rw [(storeFrame_aside f c t s).claims]
    rcases List.mem_cons.mp mem with rfl | mem
    · exact (inv.free _ (lowestHandle_free room.2)).1
    · exact inv.unused h mem
  nodup := List.nodup_cons.mpr ⟨(inv.free _ (lowestHandle_free room.2)).2, inv.nodup⟩

/-- A stored frame's handle written. -/
theorem refsCount_writeHandle (inv : RefsCount o d s) {h : Nat} {g : Handle → Handle} (mem : h ∈ o) :
    RefsCount o d (writeHandle h g s) where
  free n gone := by
    rw [(writeHandle_aside h g s).claims]
    rw [handleOf_writeHandle] at gone
    split at gone
    · next e => exact e ▸ inv.free h (by simpa using gone)
    · exact inv.free n gone
  live n r live q other := by
    rw [handleOf_writeHandle, if_neg fun e : n = h => other (e ▸ mem)] at live
    rw [(writeHandle_aside h g s).claims]
    exact inv.live n r live q other
  unused n other := ((writeHandle_aside h g s).claims d n).trans (inv.unused n other)
  nodup := inv.nodup

theorem claims_replicate (n h : Nat) (d : List Nat) (s : State) (m : Nat) :
    claims (List.replicate n h ++ d) s m = claims d s m + if h = m then n else 0 := by
  simp only [claims, List.count_append, List.count_replicate, beq_iff_eq]
  omega

/-- A stored frame's references set: they are then in hand. -/
theorem refsCount_setRefs {h n : Nat} (inv : RefsCount (h :: o) d s) (low : 1 ≤ n) (high : n ≤ 2) :
    RefsCount o (List.replicate n h ++ d) (setRefs h n s) := by
  have fresh : h ∉ o := (List.nodup_cons.mp inv.nodup).1
  have moved : ∀ m, claims (List.replicate n h ++ d) (setRefs h n s) m =
      claims d s m + if h = m then n else 0 := fun m =>
    ((writeHandle_aside h _ s).claims _ m).trans (claims_replicate n h d s m)
  have kept : ∀ m, handleOf (setRefs h n s) m =
      if m = h then (handleOf s h).map fun r => { r with refs := n, check := 0 } else handleOf s m :=
    fun m => handleOf_setRefs h m n s
  refine ⟨fun m gone => ?_, fun m r live q other => ?_, fun m mem => ?_, (List.nodup_cons.mp inv.nodup).2⟩ <;>
    rw [moved]
  · rw [kept] at gone
    split at gone
    · have stored := (inv.free h (by simpa using gone)).2
      simp at stored
    · next ne =>
      obtain ⟨none, notStored⟩ := inv.free m gone
      simp only [List.mem_cons, not_or] at notStored
      exact ⟨by rw [none, if_neg (Ne.symm ne)], notStored.2⟩
  · rw [kept] at live
    split at live
    · next e =>
      subst e
      obtain ⟨g, _, rfl⟩ := Option.map_eq_some_iff.mp live
      have none := inv.unused m List.mem_cons_self
      rw [none, if_pos rfl]
      exact ⟨(Nat.zero_add n).symm, low, high⟩
    · next ne =>
      rw [if_neg (Ne.symm ne)]
      exact inv.live m r live q (by simp [ne, other])
  · rw [inv.unused m (List.mem_cons_of_mem _ mem), if_neg]
    rintro rfl
    exact fresh mem

theorem refsCount_freeHandle {h : Nat} (inv : RefsCount (h :: o) d s) : RefsCount o d (freeHandle h s) where
  free n gone := by
    rw [(freeHandle_aside h s).claims]
    by_cases e : n = h
    · exact e ▸ ⟨inv.unused h List.mem_cons_self, (List.nodup_cons.mp inv.nodup).1⟩
    · rw [handleOf_freeHandle, if_neg e] at gone
      obtain ⟨none, notStored⟩ := inv.free n gone
      exact ⟨none, fun mem => notStored (List.mem_cons_of_mem _ mem)⟩
  live n r live q other := by
    rw [handleOf_freeHandle] at live
    split at live
    · exact absurd live (by simp)
    · next ne =>
      rw [(freeHandle_aside h s).claims]
      exact inv.live n r live q (by simp [ne, other])
  unused n mem := ((freeHandle_aside h s).claims d n).trans (inv.unused n (List.mem_cons_of_mem _ mem))
  nodup := (List.nodup_cons.mp inv.nodup).2

/-- A live handle's last reference, in hand, leaves it as a stored frame that nothing names. -/
theorem refsCount_last {h : Nat} {r : Handle} (inv : RefsCount o (h :: d) s) (live : handleOf s h = some r)
    (unnamed : claims d s h = 0) (notStored : h ∉ o) : RefsCount (h :: o) d s where
  free n gone := by
    have ne : n ≠ h := by
      rintro rfl
      simp [live] at gone
    obtain ⟨none, fresh⟩ := inv.free n gone
    rw [claims_cons] at none
    exact ⟨by omega, by simp [ne, fresh]⟩
  live n g found q other := by
    simp only [List.mem_cons, not_or] at other
    have counted := inv.live n g found q other.2
    rwa [claims_cons, if_neg (Ne.symm other.1)] at counted
  unused n mem := by
    rcases List.mem_cons.mp mem with rfl | mem
    · exact unnamed
    · have none := inv.unused n mem
      rw [claims_cons] at none
      omega
  nodup := List.nodup_cons.mpr ⟨notStored, inv.nodup⟩

theorem refsCount_quarantineHandle (inv : RefsCount o d s) (p : Option Port) (h : Nat) :
    RefsCount o d (quarantineHandle p h s) where
  free n gone := by
    rw [(quarantineHandle_aside p h s).claims]
    rw [handleOf_quarantineHandle] at gone
    split at gone
    · next e => exact e ▸ inv.free h (by simpa using gone)
    · exact inv.free n gone
  live n r live q other := by
    rw [(quarantineHandle_aside p h s).claims]
    rw [handleOf_quarantineHandle] at live
    split at live
    · obtain ⟨g, _, rfl⟩ := Option.map_eq_some_iff.mp live
      exact absurd q (by simp)
    · exact inv.live n r live q other
  unused n mem := ((quarantineHandle_aside p h s).claims d n).trans (inv.unused n mem)
  nodup := inv.nodup

/-- A reference in hand to a handle in quarantine, or to none, dropped. -/
theorem refsCount_drop {h : Nat} (inv : RefsCount o (h :: d) s)
    (dead : ∀ r, handleOf s h = some r → r.quarantined = true) : RefsCount o d s where
  free n gone := by
    obtain ⟨none, notStored⟩ := inv.free n gone
    rw [claims_cons] at none
    exact ⟨by omega, notStored⟩
  live n r live q other := by
    have counted := inv.live n r live q other
    have ne : h ≠ n := by
      rintro rfl
      simp [dead r live] at q
    rwa [claims_cons, if_neg ne] at counted
  unused n mem := by
    have none := inv.unused n mem
    rw [claims_cons] at none
    omega
  nodup := inv.nodup

/-- A reference in hand released (R32): every way of a release keeps the count. -/
theorem refsCount_release {h : Nat} (inv : RefsCount o (h :: d) s) (p : Option Port) :
    RefsCount o d (release p h s) := by
  have inHand : claims (h :: d) s h = claims d s h + 1 := by rw [claims_cons, if_pos rfl]
  have notStored : h ∉ o := fun mem => by
    have none := inv.unused h mem
    omega
  obtain ⟨gone, e⟩ | ⟨r, live, ⟨q, e⟩ | ⟨_, _, e⟩ | ⟨q, _, last, e⟩ | ⟨q, _, more, e⟩⟩ :=
    release_cases p h s <;> rw [e]
  · exact refsCount_drop inv (by simp [gone])
  · exact refsCount_drop inv (by simp [live, q])
  · refine refsCount_drop (refsCount_quarantineHandle inv p h) fun g found => ?_
    rw [handleOf_quarantineHandle, if_pos rfl] at found
    obtain ⟨_, _, rfl⟩ := Option.map_eq_some_iff.mp found
    rfl
  · have counted := inv.live h r live q notStored
    exact refsCount_freeHandle (refsCount_last inv live (by omega) notStored)
  · have counted := inv.live h r live q notStored
    have a := writeHandle_aside h (fun r => { r with refs := r.refs - 1 }) s
    refine ⟨fun n gone => ?_, fun n g found q' other => ?_, fun n mem => ?_, inv.nodup⟩ <;> rw [a.claims]
    · rw [handleOf_writeHandle] at gone
      split at gone
      · simp [live] at gone
      · obtain ⟨none, fresh⟩ := inv.free n gone
        rw [claims_cons] at none
        exact ⟨by omega, fresh⟩
    · rw [handleOf_writeHandle] at found
      split at found
      · next same =>
        subst same
        rw [live] at found
        obtain rfl := Option.some.inj found
        dsimp only
        omega
      · next ne =>
        have other := inv.live n g found q' other
        rwa [claims_cons, if_neg (Ne.symm ne)] at other
    · have none := inv.unused n mem
      rw [claims_cons] at none
      omega

end

end Sys2Proof.Machine

/-! SUPPORT. What every chain of operations keeps of references and replies (R32, R120). -/

namespace Sys2Proof.Machine

/-! ### References -/

theorem handleOf_congr {s t : State} (same : t.store.handles = s.store.handles) (h : Nat) :
    handleOf t h = handleOf s h := congrArg (Tbl.look · h) same

theorem SameHoldings.naming {s t : State} (same : SameHoldings s t) (h : Nat) : naming t h = naming s h := by
  rw [naming_eq, naming_eq, BayEgress.naming_congr same.bayQueues same.baySends,
    UplinkEgress.naming_congr (same.queues .u1) (same.sends .u1),
    UplinkEgress.naming_congr (same.queues .u2) (same.sends .u2)]

theorem HoldsNothing.naming {s : State} (nothing : HoldsNothing s) (h : Nat) : naming s h = 0 := by
  have up : ∀ u, (s.uplink u).naming h = 0 := fun u => by
    simp [UplinkEgress.naming_eq, UplinkEgress.sending, Queue.naming, nothing.queues, nothing.sends]
  have bay : s.bay.naming h = 0 := by
    simp [BayEgress.naming_eq, BayEgress.sending, Queue.naming, nothing.bayQueues, nothing.baySends]
  rw [naming_eq, up, up, bay]

section
variable {o d e : List Nat} {s : State}

/-- References moved between an uplink and the hand. -/
theorem RefsCount.moveUplink (inv : RefsCount o d s) (u : Uplink) {f : UplinkEgress → UplinkEgress}
    (moved : ∀ h, (f (s.uplink u)).naming h + e.count h = (s.uplink u).naming h + d.count h) :
    RefsCount o e (s.onUplink u f) :=
  inv.move (fun h => handleOf_onUplink s u f h) fun h => by
    have whole := naming_onUplink s u f h
    have part := moved h
    rw [claims, claims]
    omega

/-- References moved between the Bay Egress and the hand. -/
theorem RefsCount.moveBay (inv : RefsCount o d s) {f : BayEgress → BayEgress}
    (moved : ∀ h, (f s.bay).naming h + e.count h = s.bay.naming h + d.count h) :
    RefsCount o e (s.onBay f) :=
  inv.move (fun _ => rfl) fun h => by
    have whole := naming_onBay s f h
    have part := moved h
    rw [claims, claims]
    omega

end

theorem count_cons_if (a h : Nat) (d : List Nat) : (a :: d).count h = d.count h + if a = h then 1 else 0 := by
  simp [List.count_cons]

section
variable {strict : Prop} {k l : Hands} {s t : State}

theorem Work.keeps_refs (w : Work strict k s l t) :
    RefsCount k.stored k.refs s → RefsCount l.stored l.refs t := by
  induction w with
  | trans _ _ first second => exact fun inv => second (first inv)
  | same h =>
    exact fun inv => inv.move (handleOf_congr h.handles) fun n => by rw [claims, claims, h.naming]
  | enter f _ => exact fun inv => inv.move (fun _ => rfl) fun _ => rfl
  | store f c t room => exact fun inv => refsCount_storeFrame inv room c t
  | write h g mem _ => exact fun inv => refsCount_writeHandle inv mem
  | place h n low high => exact fun inv => refsCount_setRefs inv low high
  | free h => exact refsCount_freeHandle
  | release p h => exact fun inv => refsCount_release inv p
  | drop h dead => exact fun inv => refsCount_drop inv dead
  | quarantine p h => exact fun inv => refsCount_quarantineHandle inv p h
  | @join o d x s u q e up _ _ =>
    refine fun inv => inv.moveUplink u fun h => ?_
    dsimp only
    have queue := (s.uplink u).naming_onQueue q (fun y => y.join e) h
    rw [Queue.naming_join] at queue
    rw [count_cons_if]
    omega
  | @joinBay o d x s q e _ =>
    refine fun inv => inv.moveBay fun h => ?_
    dsimp only
    have queue := s.bay.naming_onQueue q (fun y => y.join e) h
    rw [Queue.naming_join] at queue
    rw [count_cons_if]
    omega
  | @pop o d x s u q e rest head =>
    refine fun inv => inv.moveUplink u fun h => ?_
    dsimp only
    have queue := (s.uplink u).naming_onQueue q Queue.pop h
    have popped := Queue.naming_pop head h
    rw [count_cons_if]
    omega
  | @popBay o d x s q e rest head =>
    refine fun inv => inv.moveBay fun h => ?_
    dsimp only
    have queue := s.bay.naming_onQueue q Queue.pop h
    have popped := Queue.naming_pop head h
    rw [count_cons_if]
    omega
  | @start k s u q e rest t head _ free names =>
    refine fun inv => inv.moveUplink u fun h => ?_
    have queue := (s.uplink u).naming_onQueue q Queue.pop h
    have popped := Queue.naming_pop head h
    have started := ((s.uplink u).onQueue q Queue.pop).naming_start t h (by cases q <;> exact free)
    rw [names] at started
    dsimp only at started ⊢
    omega
  | @startBay k s q e rest w head free =>
    refine fun inv => inv.moveBay fun h => ?_
    dsimp only
    have queue := s.bay.naming_onQueue q Queue.pop h
    have popped := Queue.naming_pop head h
    have started := (s.bay.onQueue q Queue.pop).naming_start e.handle w h (by cases q <;> exact free)
    omega
  | @stop o d x s u t sends =>
    refine fun inv => inv.moveUplink u fun h => ?_
    dsimp only
    have stopped := UplinkEgress.naming_stop sends h
    rw [count_cons_if]
    omega
  | @stopBay o d x s k w sends =>
    refine fun inv => inv.moveBay fun h => ?_
    dsimp only
    have stopped := BayEgress.naming_stop sends h
    rw [count_cons_if]
    omega
  | @empty o d x s u =>
    refine fun inv => inv.moveUplink u fun h => ?_
    dsimp only
    have emptied := (s.uplink u).naming_emptied h
    rw [List.count_append]
    omega
  | rise u => exact fun inv => inv.moveUplink u fun h => rfl
  | fall u => exact fun inv => inv.moveUplink u fun h => rfl
  | fallen u _ _ => exact id
  | reset h =>
    refine fun _ => (refInv_iff _).mp ⟨fun n _ => h.naming n, fun n r live => ?_⟩
    simp [handleOf, h.handles, Tbl.look] at live

end

/-! ### Replies -/

/-- From `s` to `t` a handle that is live at the end was so before, with the same frame and tag fields. -/
def FrameKept (s t : State) (h : Nat) : Prop :=
  ∀ r, handleOf t h = some r → r.quarantined = false →
    ∃ g, handleOf s h = some g ∧ g.quarantined = false ∧ g.tag = r.tag ∧ storedFrame t r = storedFrame s g

theorem FrameKept.replyLike {s t : State} {h : Nat} (kept : FrameKept s t h) (like : ReplyLike s h) :
    ReplyLike t h := by
  intro r f live q tag
  obtain ⟨g, was, q', tag', frame⟩ := kept r live q
  rw [frame]
  exact like g f was q' (tag'.trans tag)

theorem frameKept_of_store {s t : State} (blocks : t.store.blocks = s.store.blocks)
    (handles : t.store.handles = s.store.handles) (h : Nat) : FrameKept s t h :=
  fun r live q => ⟨r, (handleOf_congr handles h).symm.trans live, q, rfl, storedFrame_congr blocks rfl⟩

/-- Blocks that read back as before, octet for octet. -/
theorem storedFrame_of_data {s t : State} {r : Handle}
    (same : ∀ b ∈ r.blocks, (Tbl.look t.store.blocks b).map Block.data =
      (Tbl.look s.store.blocks b).map Block.data) : storedFrame t r = storedFrame s r := by
  refine List.flatMap_congr fun b mem => ?_
  have data := same b mem
  cases ht : Tbl.look t.store.blocks b <;> cases hs : Tbl.look s.store.blocks b <;> simp_all

/-- The storing of a frame keeps every other live frame (R28). -/
theorem frameKept_storeFrame {s : State} (own : BlocksOwned s) (f : List Octet) (c : TClass)
    (t : Option TagFields) {h : Nat} (other : h ≠ lowestHandle s) : FrameKept s (storeFrame f c t s) h := by
  intro r live q
  rw [handleOf_storeFrame, if_neg other] at live
  refine ⟨r, live, q, rfl, storedFrame_of_data fun b mem => ?_⟩
  obtain ⟨k, found, _⟩ := own.1 h r b live q mem
  rw [look_storeFrame_old]
  intro new
  simp [lowestBlocks_free new] at found

theorem frameKept_writeHandle (s : State) {h : Nat} {g : Handle → Handle} {n : Nat}
    (same : n = h → ∀ r, (g r).blocks = r.blocks ∧ (g r).quarantined = r.quarantined ∧ (g r).tag = r.tag) :
    FrameKept s (writeHandle h g s) n := by
  intro r live q
  rw [handleOf_writeHandle] at live
  split at live
  · next e =>
    obtain ⟨r', was, rfl⟩ := Option.map_eq_some_iff.mp live
    obtain ⟨blocks, quarantined, tag⟩ := same e r'
    exact ⟨r', e ▸ was, quarantined ▸ q, tag.symm, storedFrame_congr (writeHandle_blocks h g s) blocks⟩
  · exact ⟨r, live, q, rfl, storedFrame_congr (writeHandle_blocks h g s) rfl⟩

theorem frameKept_freeHandle {s : State} (inv : StoreInv s) (own : BlocksOwned s) (h n : Nat) :
    FrameKept s (freeHandle h s) n := by
  intro r live q
  rw [handleOf_freeHandle] at live
  split at live
  · exact absurd live (by simp)
  · next ne =>
    refine ⟨r, live, q, rfl, storedFrame_of_data fun b mem => ?_⟩
    obtain ⟨k, found, owner⟩ := own.1 n r b live q mem
    rw [look_freeHandle inv, found, Option.filter_some, owner]
    simp [ne]

theorem frameKept_quarantineHandle (p : Option Port) (h : Nat) (s : State) (n : Nat) :
    FrameKept s (quarantineHandle p h s) n := by
  intro r live q
  rw [handleOf_quarantineHandle] at live
  split at live
  · obtain ⟨g, _, rfl⟩ := Option.map_eq_some_iff.mp live
    exact absurd q (by simp)
  · refine ⟨r, live, q, rfl, storedFrame_of_data fun b _ => ?_⟩
    rw [look_quarantineHandle, Option.map_map]
    congr 1
    funext k
    simp only [Function.comp_apply]
    split <;> rfl

theorem frameKept_release {s : State} (inv : StoreInv s) (own : BlocksOwned s) (p : Option Port) (h n : Nat) :
    FrameKept s (release p h s) n := by
  obtain ⟨_, e⟩ | ⟨r, _, ⟨_, e⟩ | ⟨_, _, e⟩ | ⟨_, _, _, e⟩ | ⟨_, _, _, e⟩⟩ := release_cases p h s <;> rw [e]
  · exact frameKept_of_store rfl rfl n
  · exact frameKept_of_store rfl rfl n
  · exact frameKept_quarantineHandle p h s n
  · exact frameKept_freeHandle inv own h n
  · exact frameKept_writeHandle s fun _ r => ⟨rfl, rfl, rfl⟩

/-- What `ReplyInv` says of each handle: outside RUN one that an uplink names may be on its way there. -/
def UplinksReply (s : State) : Prop := ∀ u h, (s.uplink u).naming h ≠ 0 → CopyAllowed s h

theorem uplinksReply_iff (s : State) : UplinksReply s ↔ ReplyInv s := by
  rw [replyInv_iff]
  refine ⟨fun inv part u h named => (inv u h named).resolve_left part, fun inv u h named => ?_⟩
  by_cases part : s.loader.part = .run
  · exact .inl part
  · exact .inr (inv part u h named)

theorem FrameKept.copyAllowed {s t : State} {h : Nat} (kept : FrameKept s t h)
    (part : s.loader.part = .run → t.loader.part = .run) (allowed : CopyAllowed s h) : CopyAllowed t h :=
  allowed.imp part kept.replyLike

section
variable {s : State}

theorem UplinksReply.step (inv : UplinksReply s) {t : State}
    (part : s.loader.part = .run → t.loader.part = .run)
    (named : ∀ u h, (t.uplink u).naming h ≠ 0 → (s.uplink u).naming h ≠ 0)
    (kept : ∀ u h, (s.uplink u).naming h ≠ 0 → FrameKept s t h) : UplinksReply t := fun u h names =>
  (kept u h (named u h names)).copyAllowed part (inv u h (named u h names))

theorem UplinksReply.aside (inv : UplinksReply s) {t : State} (a : Aside s t)
    (kept : ∀ u h, (s.uplink u).naming h ≠ 0 → FrameKept s t h) : UplinksReply t :=
  inv.step (fun run => a.loader ▸ run) (fun u _ names => a.uplink u ▸ names) kept

/-- A change of an uplink's queues and transmission that names no other handle. -/
theorem UplinksReply.onUplink (inv : UplinksReply s) (u : Uplink) {f : UplinkEgress → UplinkEgress}
    (fewer : ∀ h, (f (s.uplink u)).naming h ≤ (s.uplink u).naming h) : UplinksReply (s.onUplink u f) := by
  refine inv.step (fun run => by rwa [State.onUplink_loader]) (fun v h names => ?_)
    fun _ h _ => frameKept_of_store (by simp) (by simp) h
  rw [State.onUplink_uplink_eq] at names
  split at names
  · next e =>
    have few := fewer h
    rw [e] at names ⊢
    omega
  · exact names

theorem UplinksReply.onBay (inv : UplinksReply s) (f : BayEgress → BayEgress) : UplinksReply (s.onBay f) :=
  inv.step id (fun u h names => by rwa [State.onBay_uplink] at names) fun _ h _ => frameKept_of_store rfl rfl h

/-- A stored frame is named by no uplink. -/
theorem RefsCount.not_stored {o d : List Nat} (inv : RefsCount o d s) {u : Uplink} {h : Nat}
    (names : (s.uplink u).naming h ≠ 0) : h ∉ o := by
  intro mem
  have none := inv.unused h mem
  rw [claims, naming_eq] at none
  cases u <;> omega

theorem RefsCount.live_of_named {o d : List Nat} (inv : RefsCount o d s) {u : Uplink} {h : Nat}
    (names : (s.uplink u).naming h ≠ 0) : handleOf s h ≠ none := by
  intro gone
  have none := (inv.free h gone).1
  rw [claims, naming_eq] at none
  cases u <;> omega

end

section
variable {strict : Prop} {k l : Hands} {s t : State}

theorem Work.keeps_replies (w : Work strict k s l t) (hs : strict) : StoreInv s → BlocksOwned s →
    RefsCount k.stored k.refs s → UplinksReply s → UplinksReply t := by
  induction w with
  | trans first _ one two =>
    exact fun inv own refs replies => two (first.keeps_store inv) (first.keeps_blocks inv own)
      (first.keeps_refs refs) (one inv own refs replies)
  | same h =>
    exact fun _ _ _ replies => replies.step (fun run => h.part.trans run)
      (fun u n names => UplinkEgress.naming_congr (h.queues u) (h.sends u) n ▸ names)
      fun _ n _ => frameKept_of_store h.blocks h.handles n
  | enter f part =>
    exact fun _ _ _ replies => replies.step (part hs) (fun u h names => by rwa [State.onLoader_uplink] at names)
      fun _ h _ => frameKept_of_store rfl rfl h
  | store f c t room =>
    exact fun _ own refs replies => replies.aside (storeFrame_aside f c t _) fun u h names =>
      frameKept_storeFrame own f c t fun e =>
        refs.live_of_named names (e ▸ lowestHandle_free room.2)
  | write h g mem _ =>
    exact fun _ _ refs replies => replies.aside (writeHandle_aside h g _) fun u n names =>
      frameKept_writeHandle _ fun e => absurd (e ▸ mem) (refs.not_stored names)
  | place h n _ _ =>
    exact fun _ _ _ replies => replies.aside (writeHandle_aside h _ _) fun u m _ =>
      frameKept_writeHandle _ fun _ r => ⟨rfl, rfl, rfl⟩
  | free h =>
    exact fun inv own _ replies => replies.aside (freeHandle_aside h _) fun u n _ =>
      frameKept_freeHandle inv own h n
  | release p h =>
    exact fun inv own _ replies => replies.aside (release_aside p h _) fun u n _ =>
      frameKept_release inv own p h n
  | drop h _ => exact fun _ _ _ replies => replies
  | quarantine p h =>
    exact fun _ _ _ replies => replies.aside (quarantineHandle_aside p h _) fun u n _ =>
      frameKept_quarantineHandle p h _ n
  | @join o d x s u q e _ _ allowed =>
    intro _ _ _ replies v h names
    have kept : FrameKept s (s.onUplink u fun g => g.onQueue q fun y => y.join e) h :=
      frameKept_of_store (by simp) (by simp) h
    refine kept.copyAllowed (fun run => by rwa [State.onUplink_loader]) ?_
    by_cases new : e.handle = h
    · exact new ▸ allowed hs
    · rw [State.onUplink_uplink_eq] at names
      split at names
      · next same =>
        have queue := (s.uplink v).naming_onQueue q (fun y => y.join e) h
        rw [Queue.naming_join, if_neg new] at queue
        exact replies v h (by omega)
      · exact replies v h names
  | joinBay q e _ => exact fun _ _ _ replies => replies.onBay _
  | @pop o d x s u q e rest head =>
    refine fun _ _ _ replies => replies.onUplink u fun h => ?_
    have queue := (s.uplink u).naming_onQueue q Queue.pop h
    have popped := Queue.naming_pop head h
    omega
  | popBay q _ => exact fun _ _ _ replies => replies.onBay _
  | @start k s u q e rest t head _ free names =>
    refine fun _ _ _ replies => replies.onUplink u fun h => ?_
    have queue := (s.uplink u).naming_onQueue q Queue.pop h
    have popped := Queue.naming_pop head h
    have started := ((s.uplink u).onQueue q Queue.pop).naming_start t h (by cases q <;> exact free)
    rw [names] at started
    dsimp only at started ⊢
    omega
  | startBay q w _ _ => exact fun _ _ _ replies => replies.onBay _
  | @stop o d x s u t sends =>
    refine fun _ _ _ replies => replies.onUplink u fun h => ?_
    have stopped := UplinkEgress.naming_stop sends h
    omega
  | stopBay _ => exact fun _ _ _ replies => replies.onBay _
  | @empty o d x s u =>
    refine fun _ _ _ replies => replies.onUplink u fun h => ?_
    have emptied := (s.uplink u).naming_emptied h
    omega
  | rise u => exact fun _ _ _ replies => replies.onUplink u fun h => Nat.le_refl _
  | fall u => exact fun _ _ _ replies => replies.onUplink u fun h => Nat.le_refl _
  | fallen u _ _ => exact fun _ _ _ replies => replies
  | reset h =>
    intro _ _ _ _ u n names
    have none := h.naming n
    rw [naming_eq] at none
    cases u <;> omega

end

end Sys2Proof.Machine

/-! SUPPORT. What the operations on the Source Table do to the Notice Queue: each raises events and no more, which
keeps the queue's bound (R182). -/

namespace Sys2Proof.Machine

/-- From `s` to `t` the Notice Queue has met some events, in order, and is changed by nothing else. -/
def Raises (s t : State) : Prop := ∃ l : List EventRecord, t.notices = l.foldl Notices.add s.notices

theorem Raises.of_eq {s t : State} (same : t.notices = s.notices) : Raises s t := ⟨[], same⟩

theorem Raises.refl (s : State) : Raises s s := Raises.of_eq rfl

theorem Raises.trans {s t v : State} : Raises s t → Raises t v → Raises s v
  | ⟨l, hl⟩, ⟨m, hm⟩ => ⟨l ++ m, by rw [hm, hl, List.foldl_append]⟩

theorem raise_raises (k : EventKind) (w : Nat) (c : Option TClass) (d : Nat) (a : Address) (s : State) :
    Raises s (raise k w c d a s) := ⟨[_], rfl⟩

theorem onFilter_raises (f : Filter → Filter) (s : State) : Raises s (s.onFilter f) := Raises.of_eq rfl

theorem putEntry_raises (i : Nat) (e : Entry) (s : State) : Raises s (putEntry i e s) := onFilter_raises _ s

theorem report_raises (k : FaultKind) (l : Nat) (p : Option Port) (c : Option TClass) (s : State) :
    Raises s (report k l p c s) := Raises.of_eq rfl

/-- The Notice Queue takes no record beyond 32 (R182). -/
theorem Notices.add_length {n : Notices} (e : EventRecord) (bound : n.records.length ≤ 32) :
    (n.add e).records.length ≤ 32 := by
  unfold Notices.add
  split
  · rw [List.length_append]
    exact Nat.succ_le_of_lt (by assumption)
  · exact bound

theorem Raises.records {s t : State} : Raises s t → s.notices.records.length ≤ 32 →
    t.notices.records.length ≤ 32 := by
  rintro ⟨l, same⟩ bound
  rw [same]
  generalize s.notices = n at bound
  clear same
  induction l generalizing n with
  | nil => exact bound
  | cons e l ih => exact ih _ (Notices.add_length e bound)

/-! ### Judgements of the networks -/

theorem judgeNetwork_raises (n : Uplink) (s : State) : Raises s (judgeNetwork n s) := by
  unfold judgeNetwork
  split
  · exact (onFilter_raises _ s).trans (raise_raises _ _ _ _ _ _)
  · split
    · exact (onFilter_raises _ s).trans (raise_raises _ _ _ _ _ _)
    · exact Raises.refl s

theorem raiseLost_raises (n : Uplink) (s : State) : Raises s (raiseLost n s) :=
  (onFilter_raises _ s).trans (judgeNetwork_raises _ _)

theorem lowerLost_raises (n : Uplink) (s : State) : Raises s (lowerLost n s) :=
  (onFilter_raises _ s).trans (judgeNetwork_raises _ _)

theorem setLost_raises (n : Uplink) (v : Nat) (s : State) : Raises s (setLost n v s) := by
  unfold setLost
  split
  · exact Raises.refl s
  · exact (onFilter_raises _ s).trans (judgeNetwork_raises _ _)

/-! ### Entries -/

theorem lowerCounts_raises (e : Entry) (s : State) : Raises s (lowerCounts e s) := by
  unfold lowerCounts
  dsimp only
  split <;> split
  · exact (lowerLost_raises _ s).trans (lowerLost_raises _ _)
  · exact lowerLost_raises _ s
  · exact lowerLost_raises _ s
  · exact Raises.refl s

theorem freeEntry_raises (i : Nat) (s : State) : Raises s (freeEntry i s) := by
  unfold freeEntry
  split
  · exact (lowerCounts_raises _ s).trans (onFilter_raises _ _)
  · exact Raises.refl s

theorem entryCheckFails_raises (i : Nat) (p : Option Port) (c : Option TClass) (s : State) :
    Raises s (entryCheckFails i p c s) :=
  ((((report_raises _ _ _ _ s).trans (onFilter_raises _ _)).trans (onFilter_raises _ _)).trans
    (setLost_raises _ _ _)).trans (setLost_raises _ _ _)

theorem lookupKey_raises (p : Option Port) (a : Address) (c : TClass) (s : State) :
    Raises s (lookupKey p a c s).2 := by
  unfold lookupKey
  split
  · exact Raises.refl s
  · split
    · exact Raises.refl s
    · split
      · exact Raises.refl s
      · exact entryCheckFails_raises _ _ _ s

theorem replaceEntry_raises (p : Option Port) (i : Nat) (s : State) : Raises s (replaceEntry p i s) := by
  unfold replaceEntry
  split
  · exact Raises.refl s
  · split
    · exact (freeEntry_raises _ s).trans (onFilter_raises _ _)
    · exact entryCheckFails_raises _ _ _ s

theorem takeWay_raises (p : Option Port) (b : Nat) (s : State) : Raises s (takeWay p b s).2 := by
  unfold takeWay
  split
  · exact Raises.refl s
  · exact replaceEntry_raises _ _ s

theorem entryForArrival_raises (p : Port) (a : Address) (c : TClass) (s : State) :
    Raises s (entryForArrival p a c s).2 := by
  have looked := lookupKey_raises (some p) a c s
  unfold entryForArrival
  split
  · next e =>
    rw [e] at looked
    exact looked
  · next s' e =>
    rw [e] at looked
    have taken := takeWay_raises (some p) (bucketOf a c) s'
    split
    next e' =>
    rw [e'] at taken
    exact looked.trans (taken.trans (onFilter_raises _ _))

theorem pinMatch_raises (i l : Nat) (s : State) : Raises s (pinMatch i l s).2 := by
  unfold pinMatch
  split
  · exact Raises.refl s
  · split
    · exact Raises.of_eq rfl
    · split
      · exact Raises.of_eq rfl
      · exact Raises.refl s

theorem pinMiss_raises (p : Option Port) (a : Address) (c : TClass) (l : Nat) (s : State) :
    Raises s (pinMiss p a c l s).2 := by
  have taken := takeWay_raises p (bucketOf a c) s
  unfold pinMiss
  split
  · split
    next e =>
    rw [e] at taken
    exact taken.trans (onFilter_raises _ _)
  · exact Raises.refl s

theorem pinKey_raises (p : Option Port) (a : Address) (c : TClass) (l : Nat) (s : State) :
    Raises s (pinKey p a c l s).2 := by
  have looked := lookupKey_raises p a c s
  unfold pinKey
  split
  · next e =>
    rw [e] at looked
    exact looked.trans (pinMatch_raises _ _ _)
  · next e =>
    rw [e] at looked
    exact looked.trans (pinMiss_raises _ _ _ _ _)

theorem unpinKey_raises (p : Port) (a : Address) (c : TClass) (s : State) :
    Raises s (unpinKey p a c s).2 := by
  have looked := lookupKey_raises (some p) a c s
  unfold unpinKey
  split
  · next e =>
    rw [e] at looked
    exact looked
  · next e =>
    rw [e] at looked
    split
    · exact looked
    · split
      · exact looked.trans (Raises.of_eq rfl)
      · exact looked

theorem removeKey_raises (p : Port) (a : Address) (c : TClass) (s : State) :
    Raises s (removeKey p a c s).2 := by
  have looked := lookupKey_raises (some p) a c s
  unfold removeKey
  split
  · next e =>
    rw [e] at looked
    exact looked
  · next e =>
    rw [e] at looked
    exact looked.trans ((freeEntry_raises _ _).trans (onFilter_raises _ _))

theorem flushEntry_raises (s : State) (i : Nat) : Raises s (flushEntry s i) := by
  unfold flushEntry
  split
  · exact Raises.refl s
  · split
    · exact Raises.of_eq rfl
    · split <;> exact Raises.of_eq rfl

/-- A fold whose steps raise events and no more does so. -/
theorem foldl_raises {α : Type} {f : State → α → State} (hf : ∀ s a, Raises s (f s a)) (l : List α)
    (s : State) : Raises s (l.foldl f s) := by
  induction l generalizing s with
  | nil => exact Raises.refl s
  | cons a l ih => exact (hf s a).trans (ih _)

theorem flushTable_raises (s : State) : Raises s (flushTable s) :=
  (foldl_raises flushEntry_raises _ s).trans ((setLost_raises _ _ _).trans (setLost_raises _ _ _))

theorem visitWay_raises (s : State) (i : Nat) : Raises s (visitWay s i) := by
  unfold visitWay
  split
  · exact Raises.refl s
  · split
    · exact entryCheckFails_raises _ _ _ s
    · dsimp only
      split
      · split
        · exact (((putEntry_raises _ _ s).trans (onFilter_raises _ _)).trans (freeEntry_raises _ _)).trans
            (onFilter_raises _ _)
        · exact Raises.of_eq rfl
      · split
        · exact (((putEntry_raises _ _ s).trans (onFilter_raises _ _)).trans (raise_raises _ _ _ _ _ _)).trans
            (putEntry_raises _ _ _)
        · exact Raises.of_eq rfl

theorem visitBucket_raises (s : State) : Raises s (visitBucket s) :=
  (foldl_raises visitWay_raises _ s).trans (onFilter_raises _ _)

/-! ### Arrivals -/

theorem arrivingPath_raises (i : Nat) (p : Uplink) (s : State) : Raises s (arrivingPath i p s) := by
  unfold arrivingPath
  split
  · exact Raises.refl s
  · dsimp only
    split
    · exact Raises.of_eq rfl
    · exact Raises.of_eq rfl
    · exact (((putEntry_raises _ _ s).trans (raise_raises _ _ _ _ _ _)).trans (onFilter_raises _ _)).trans
        (lowerLost_raises _ _)

theorem judgePath_raises (i : Nat) (q : Uplink) (s : State) : Raises s (judgePath i q s) := by
  unfold judgePath
  split
  · exact Raises.refl s
  · split
    · exact (((putEntry_raises _ _ s).trans (raise_raises _ _ _ _ _ _)).trans (onFilter_raises _ _)).trans
        (raiseLost_raises _ _)
    · exact Raises.refl s

theorem raiseSkew_raises (e : Entry) (ev : Option Bool) (s : State) : Raises s (raiseSkew e ev s) := by
  unfold raiseSkew
  split
  · exact Raises.refl s
  · exact raise_raises _ _ _ _ _ s

theorem screenAt_raises (i : Nat) (t : Tag) (s : State) : Raises s (screenAt i t s).2 := by
  unfold screenAt
  split
  · exact Raises.refl s
  · exact ((((putEntry_raises _ _ s).trans (onFilter_raises _ _)).trans (raiseSkew_raises _ _ _)).trans
      (arrivingPath_raises _ _ _)).trans (judgePath_raises _ _ _)

theorem screen_raises (t : Tag) (a : Address) (s : State) : Raises s (screen t a s).2.2 := by
  have found := entryForArrival_raises (uplinkPort t.path) a t.cls s
  unfold screen
  split
  next i s' e =>
  rw [e] at found
  have screened := screenAt_raises i t s'
  split
  next e' =>
  rw [e'] at screened
  exact found.trans screened

theorem readPresenceBody_raises (i : Nat) (w : Walk) (f : List Octet) (s : State) :
    Raises s (readPresenceBody i w f s) := by
  unfold readPresenceBody
  split
  · split
    · exact Raises.of_eq rfl
    · exact Raises.refl s
  · exact onFilter_raises _ s

end Sys2Proof.Machine

/-! SUPPORT. The egress operations as chains of `Work`: offers, choices, received pauses, completions, links. -/

namespace Sys2Proof.Machine

/-! ### Changes of nothing that is held -/

theorem SameHoldings.refl (s : State) : SameHoldings s s :=
  ⟨rfl, rfl, fun _ => rfl, fun _ _ => rfl, fun _ => rfl, fun _ => rfl, rfl, rfl, id⟩

theorem SameHoldings.trans {s t v : State} (a : SameHoldings s t) (b : SameHoldings t v) : SameHoldings s v where
  blocks := b.blocks.trans a.blocks
  handles := b.handles.trans a.handles
  links u := (b.links u).trans (a.links u)
  queues u q := (b.queues u q).trans (a.queues u q)
  sends u := (b.sends u).trans (a.sends u)
  bayQueues q := (b.bayQueues q).trans (a.bayQueues q)
  baySends := b.baySends.trans a.baySends
  part := b.part.trans a.part
  records bound := b.records (a.records bound)

theorem SameHoldings.of_filter {s t : State} (only : OnlyFilter s t) (raises : Raises s t) : SameHoldings s t where
  blocks := congrArg FrameStore.blocks only.store
  handles := congrArg FrameStore.handles only.store
  links u := by cases u <;> simp only [State.uplink, only.u1, only.u2]
  queues u q := by cases u <;> simp only [State.uplink, only.u1, only.u2]
  sends u := by cases u <;> simp only [State.uplink, only.u1, only.u2]
  bayQueues q := by rw [only.bay]
  baySends := by rw [only.bay]
  part := by rw [only.loader]
  records := raises.records

theorem SameHoldings.of_pairing {s t : State} (only : OnlyPairing s t) : SameHoldings s t where
  blocks := congrArg FrameStore.blocks only.store
  handles := congrArg FrameStore.handles only.store
  links u := by cases u <;> simp only [State.uplink, only.u1, only.u2]
  queues u q := by cases u <;> simp only [State.uplink, only.u1, only.u2]
  sends u := by cases u <;> simp only [State.uplink, only.u1, only.u2]
  bayQueues q := by rw [only.bay]
  baySends := by rw [only.bay]
  part := by rw [only.loader]
  records bound := by rwa [only.notices]

theorem SameHoldings.of_aside {s t : State} (a : Aside s t) (store : t.store = s.store) : SameHoldings s t where
  blocks := congrArg FrameStore.blocks store
  handles := congrArg FrameStore.handles store
  links u := by rw [a.uplink]
  queues u q := by rw [a.uplink]
  sends u := by rw [a.uplink]
  bayQueues q := by rw [a.bayQueues]
  baySends := a.baySends
  part := by rw [a.loader]
  records bound := by rwa [a.notices]

/-- What an uplink's holdings are: its link state, its queues' entries and what it sends. -/
def UplinkEgress.SameHeld (e g : UplinkEgress) : Prop :=
  g.linkUp = e.linkUp ∧ (∀ q, (g.queue q).entries = (e.queue q).entries) ∧ g.sending = e.sending

/-- Two changes of one uplink that leave it with the same holdings. -/
theorem SameHoldings.onUplink_onUplink {s : State} (u : Uplink) {f g : UplinkEgress → UplinkEgress}
    (same : (f (s.uplink u)).SameHeld (g (s.uplink u))) : SameHoldings (s.onUplink u f) (s.onUplink u g) := by
  obtain ⟨link, queues, sends⟩ := same
  refine ⟨by simp, by simp, fun v => ?_, fun v q => ?_, fun v => ?_, fun q => by simp, by simp, by simp, by simp⟩ <;>
    rw [State.onUplink_uplink_eq, State.onUplink_uplink_eq] <;> split
  · next e => exact e ▸ link
  · rfl
  · next e => exact e ▸ queues q
  · rfl
  · next e => exact e ▸ sends
  · rfl

theorem State.onUplink_id (s : State) (u : Uplink) : s.onUplink u (fun e => e) = s := by cases u <;> rfl

theorem State.onUplink_onUplink (s : State) (u : Uplink) (f g : UplinkEgress → UplinkEgress) :
    (s.onUplink u f).onUplink u g = s.onUplink u fun e => g (f e) := by cases u <;> rfl

theorem SameHoldings.onUplink {s : State} (u : Uplink) {f : UplinkEgress → UplinkEgress}
    (same : (s.uplink u).SameHeld (f (s.uplink u))) : SameHoldings s (s.onUplink u f) := by
  have pair := SameHoldings.onUplink_onUplink (s := s) u (f := fun e => e) (g := f) same
  rwa [State.onUplink_id] at pair

theorem SameHoldings.onBay_onBay {s : State} {f g : BayEgress → BayEgress}
    (queues : ∀ q, ((g s.bay).queue q).entries = ((f s.bay).queue q).entries)
    (sends : (g s.bay).sending = (f s.bay).sending) : SameHoldings (s.onBay f) (s.onBay g) :=
  ⟨rfl, rfl, fun u => by simp, fun u q => by simp, fun u => by simp, queues, sends, rfl, id⟩

theorem SameHoldings.onBay {s : State} {f : BayEgress → BayEgress}
    (queues : ∀ q, ((f s.bay).queue q).entries = (s.bay.queue q).entries)
    (sends : (f s.bay).sending = s.bay.sending) : SameHoldings s (s.onBay f) :=
  SameHoldings.onBay_onBay (f := fun b => b) queues sends

theorem SameHoldings.onPort (s : State) (p : Port) (f : PortCounters → PortCounters) :
    SameHoldings s (s.onPort p f) := by
  refine ⟨by simp, by simp, fun u => by simp, fun u q => by simp, fun u => by simp, fun q => by simp, by simp,
    by simp, by simp⟩

theorem SameHoldings.onFilter (s : State) (f : Filter → Filter) : SameHoldings s (s.onFilter f) :=
  .of_filter (onFilter_filter f s) (onFilter_raises f s)

theorem SameHoldings.onPairing (s : State) (f : Pairing → Pairing) : SameHoldings s (s.onPairing f) :=
  .of_pairing (onPairing_pairing f s)

theorem SameHoldings.raise (k : EventKind) (w : Nat) (c : Option TClass) (d : Nat) (a : Address) (s : State) :
    SameHoldings s (raise k w c d a s) := .of_filter (raise_filter k w c d a s) (raise_raises k w c d a s)

theorem SameHoldings.report (k : FaultKind) (l : Nat) (p : Option Port) (c : Option TClass) (s : State) :
    SameHoldings s (report k l p c s) := .of_pairing (report_pairing k l p c s)

theorem SameHoldings.onNotices (s : State) {f : Notices → Notices}
    (bound : s.notices.records.length ≤ 32 → (f s.notices).records.length ≤ 32) :
    SameHoldings s (s.onNotices f) :=
  ⟨rfl, rfl, fun u => by simp, fun u q => by simp, fun u => by simp, fun _ => rfl, rfl, rfl, bound⟩

/-- A change of a state outside what is held, its links and its part state. -/
theorem SameHoldings.of_eq {s t : State} (store : t.store = s.store) (u1 : t.u1 = s.u1) (u2 : t.u2 = s.u2)
    (bay : t.bay = s.bay) (part : t.loader.part = s.loader.part) (notices : t.notices = s.notices) :
    SameHoldings s t where
  blocks := congrArg FrameStore.blocks store
  handles := congrArg FrameStore.handles store
  links u := by cases u <;> simp only [State.uplink, u1, u2]
  queues u q := by cases u <;> simp only [State.uplink, u1, u2]
  sends u := by cases u <;> simp only [State.uplink, u1, u2]
  bayQueues q := by rw [bay]
  baySends := by rw [bay]
  part := part
  records bound := by rwa [notices]

theorem SameHoldings.countQuarantineDrop (s : State) : SameHoldings s (countQuarantineDrop s) :=
  ⟨rfl, rfl, fun u => by simp [Machine.countQuarantineDrop], fun u q => by simp [Machine.countQuarantineDrop],
    fun u => by simp [Machine.countQuarantineDrop], fun _ => rfl, rfl, rfl, id⟩

theorem SameHoldings.countResidence (u : Uplink) (q : SlotClass) (s : State) :
    SameHoldings s (s.onUplink u fun g => g.onQueue q Queue.countResidence) :=
  .onUplink u ⟨by cases q <;> rfl, fun n => by cases q <;> cases n <;> rfl, by simp⟩

theorem SameHoldings.countBayResidence (q : BayQueue) (s : State) : SameHoldings s (countBayResidence q s) :=
  .onBay (fun n => by cases q <;> cases n <;> rfl) (by simp)

theorem SameHoldings.makePausePending (q : BitVec 16) (s : State) : SameHoldings s (makePausePending q s) :=
  .of_aside (makePausePending_aside q s) (makePausePending_store q s)

theorem SameHoldings.startPause (s : State) : SameHoldings s (startPause s) :=
  .of_aside ⟨startPause_storage s, fun q => startPause_queue q s, startPause_sending s⟩ (startPause_store s)

theorem SameHoldings.pauseTest (s : State) : SameHoldings s (pauseTest s) :=
  .of_aside (pauseTest_aside s) (pauseTest_store s)

/-! ### Offers -/

section
variable {strict : Prop} {o d : List Nat} {x : Option Uplink} {s : State}

theorem Work.refl (k : Hands) (s : State) : Work strict k s k s := .same (SameHoldings.refl s)

theorem offerUplink_work (p : Option Port) {u : Uplink} (q : SlotClass) {e : QueueEntry}
    (up : (s.uplink u).linkUp = true) (allowed : strict → CopyAllowed s e.handle) :
    Work strict ⟨o, e.handle :: d, x⟩ s ⟨o, d, x⟩ (offerUplink p u q e s) := by
  unfold offerUplink
  split
  · next room => exact .join u q e up room allowed
  · exact .trans (.release p e.handle)
      (.same (.onUplink u ⟨by cases q <;> rfl, fun n => by cases q <;> cases n <;> rfl, by simp⟩))

theorem offerBay_work (p : Option Port) (q : BayQueue) (h : Nat) :
    Work strict ⟨o, h :: d, x⟩ s ⟨o, d, x⟩ (offerBay p q h s).2 := by
  unfold offerBay
  split
  · next room => exact .joinBay q { handle := h, seqOffset := false, fcsCorrupt := false } room
  · refine .trans (.release p h) (.same ?_)
    exact SameHoldings.onBay (f := fun b => b.onQueue q Queue.refuse) (fun n => by cases q <;> cases n <;> rfl)
      (by simp)

/-! ### Choices -/

/-- An entry that fails a test of R146 drops its reference. -/
theorem screenHead_work {p : Port} {l : Nat} {g : State → State} {h : Nat} {t : State}
    (counts : ∀ y, SameHoldings y (g y)) (failed : screenHead p l g h s = some t) :
    Work strict ⟨o, h :: d, x⟩ s ⟨o, d, x⟩ t := by
  unfold screenHead at failed
  split at failed
  · next gone =>
    obtain rfl := Option.some.inj failed
    exact .drop h (by simp [gone])
  · next r live =>
    split at failed
    · next q =>
      obtain rfl := Option.some.inj failed
      exact .trans (.drop h (by simp [live, q])) (.same (.countQuarantineDrop s))
    · split at failed
      · obtain rfl := Option.some.inj failed
        refine .trans (.quarantine (some p) h) (.drop h fun r found => ?_)
        rw [handleOf_quarantineHandle, if_pos rfl] at found
        obtain ⟨_, _, rfl⟩ := Option.map_eq_some_iff.mp found
        rfl
      · split at failed
        · obtain rfl := Option.some.inj failed
          exact .trans (.release (some p) h) (.same (counts _))
        · split at failed
          · obtain rfl := Option.some.inj failed
            exact .trans (.same (.report _ _ _ _ s)) (.release (some p) h)
          · exact absurd failed (by simp)

theorem cycleBoundary_same (u : Uplink) (s : State) : SameHoldings s (cycleBoundary u s) := by
  unfold cycleBoundary
  split
  · exact (SameHoldings.onUplink u ⟨rfl, fun n => by cases n <;> rfl, rfl⟩).trans (.raise _ _ _ _ _ _)
  · exact .refl s

theorem advanceCursor_same (u : Uplink) (s : State) : SameHoldings s (advanceCursor u s) := by
  have moved : SameHoldings s (s.onUplink u fun e => { e with cursor := e.cursor + 1 }) :=
    .onUplink u ⟨rfl, fun n => by cases n <;> rfl, rfl⟩
  unfold advanceCursor
  split
  · exact moved.trans (cycleBoundary_same _ _)
  · exact moved

/-- The head of a queue, taken and started (R148). -/
theorem startCopy_work {k : Hands} {u : Uplink} {q : SlotClass} (fell : Bool) {e : QueueEntry}
    {rest : List QueueEntry} (head : ((s.uplink u).queue q).entries = e :: rest)
    (up : (s.uplink u).linkUp = true) (free : (s.uplink u).tx = none) :
    Work strict k s k (startCopy u q fell e (s.onUplink u fun g => g.onQueue q Queue.pop)) := by
  refine .trans (.start u q (t := ?_) head up free ?_) (.same (.trans ?_ (advanceCursor_same u _)))
  · exact
      { handle := e.handle, queue := q, seqOffset := e.seqOffset, fcsCorrupt := e.fcsCorrupt,
        wire := putOnWire (uplinkFast s.settings u) (copyOctets u e (s.onUplink u fun g => g.onQueue q Queue.pop)) }
  · rfl
  · rw [State.onUplink_onUplink]
    exact .onUplink_onUplink u ⟨rfl, fun n => by cases n <;> rfl, rfl⟩

theorem uplinkChoices_work (u : Uplink) (n : Nat) :
    Work strict ⟨o, d, x⟩ s ⟨o, d, x⟩ (uplinkChoices u n s) := by
  induction n generalizing s with
  | zero => exact .refl _ s
  | succ n again =>
    unfold uplinkChoices
    split
    · next ready =>
      split
      · exact .refl _ s
      · next q fell _ =>
        split
        · exact .refl _ s
        · next e rest head =>
          dsimp only
          split
          · exact startCopy_work fell head ready.1 ready.2
          · next failed =>
            exact .trans (.pop u q head)
              (.trans (screenHead_work (fun y => .countResidence u q y) failed) again)
    · exact .refl _ s

theorem startBay_work {k : Hands} {q : BayQueue} {e : QueueEntry} {rest : List QueueEntry}
    (head : (s.bay.queue q).entries = e :: rest) (free : s.bay.tx = none) :
    Work strict k s k (startBay e.handle (s.onBay fun b => b.onQueue q Queue.pop)) :=
  .startBay q _ head free

theorem bayChoices_work (n : Nat) : Work strict ⟨o, d, x⟩ s ⟨o, d, x⟩ (bayChoices n s) := by
  induction n generalizing s with
  | zero => exact .refl _ s
  | succ n again =>
    unfold bayChoices
    split
    · next ready =>
      split
      · exact .refl _ s
      · next q _ =>
        split
        · exact .refl _ s
        · next e rest head =>
          dsimp only
          split
          · exact startBay_work head ready.1
          · next failed =>
            exact .trans (.popBay q head)
              (.trans (screenHead_work (fun y => .countBayResidence q y) failed) again)
    · exact .refl _ s

/-! ### Received pauses -/

theorem heldScreens_work (q : BayQueue) (n : Nat) :
    Work strict ⟨o, d, x⟩ s ⟨o, d, x⟩ (heldScreens q n s) := by
  induction n generalizing s with
  | zero => exact .refl _ s
  | succ n again =>
    unfold heldScreens
    split
    · exact .refl _ s
    · next e rest head =>
      split
      · exact .refl _ s
      · split
        · exact .trans (.popBay q head)
            (.trans (.release (some .b) e.handle) (.trans (.same (.countBayResidence q _)) again))
        · exact .refl _ s

theorem screenHeld_work : Work strict ⟨o, d, x⟩ s ⟨o, d, x⟩ (screenHeld s) :=
  .trans (heldScreens_work .event _) (.trans (heldScreens_work .timing _) (heldScreens_work .stream _))

theorem endHold_same (s : State) : SameHoldings s (endHold s) :=
  .onBay (fun q => by cases q <;> rfl) rfl

theorem takeQuanta_work (q : BitVec 16) : Work strict ⟨o, d, x⟩ s ⟨o, d, x⟩ (takeQuanta q s) := by
  unfold takeQuanta
  split
  · split
    · exact .trans screenHeld_work (.same (endHold_same _))
    · exact .same (endHold_same s)
  · exact .trans (.same ((SameHoldings.onBay (fun q => by cases q <;> rfl) rfl).trans (.onPort _ _ _)))
      screenHeld_work

/-! ### Completions, aborts, flushes -/

theorem completeCopy_work {u : Uplink} {t : UplinkTx} (sends : (s.uplink u).tx = some t) :
    Work strict ⟨o, d, x⟩ s ⟨o, d, x⟩ (completeCopy u t s) := by
  refine .trans (.stop u sends) (.trans (.same ?_) (.trans (.release (some (uplinkPort u)) t.handle)
    (.same (.onPort _ _ _))))
  exact .onUplink_onUplink u ⟨rfl, fun n => by cases n <;> rfl, rfl⟩

theorem abortCopy_work (u : Uplink) : Work strict ⟨o, d, x⟩ s ⟨o, d, x⟩ (abortCopy u s) := by
  unfold abortCopy
  split
  · exact .refl _ s
  · next t sends =>
    refine .trans (.stop u sends) (.trans (.same ?_) (.trans (.release (some (uplinkPort u)) t.handle)
      (.same (.onPort _ _ _))))
    have used : SameHoldings (s.onUplink u fun g => { g with tx := none })
        (s.useFree.onUplink u fun g => { g with tx := none }) := by
      cases u <;> exact .of_eq rfl rfl rfl rfl rfl rfl
    exact used.trans (.onUplink_onUplink u ⟨rfl, fun n => by cases n <;> rfl, rfl⟩)

theorem flushQueueEntry_work (u : Uplink) (e : QueueEntry) :
    Work strict ⟨o, e.handle :: d, x⟩ s ⟨o, d, x⟩ (flushQueueEntry u s e) := by
  unfold flushQueueEntry
  split
  · next q =>
    refine .trans (.drop e.handle fun r live => ?_) (.same (.countQuarantineDrop s))
    rwa [isQuarantined, live] at q
  · exact .trans (.release _ e.handle) (.same (.onUplink u ⟨rfl, fun n => by cases n <;> rfl, rfl⟩))

theorem flushEntries_work (u : Uplink) (l : List QueueEntry) :
    Work strict ⟨o, l.map QueueEntry.handle ++ d, x⟩ s ⟨o, d, x⟩ (l.foldl (flushQueueEntry u) s) := by
  induction l generalizing s with
  | nil => exact .refl _ s
  | cons e l rest => exact .trans (flushQueueEntry_work u e) rest

theorem flushUplink_work (u : Uplink) : Work strict ⟨o, d, x⟩ s ⟨o, d, x⟩ (flushUplink u s) :=
  .trans (.empty u) (flushEntries_work u _)

end

/-! ### Links -/

/-- A flush counts, and leaves the uplink idle as it was and its queues empty (R151). -/
theorem flushUplink_uplink (u : Uplink) (s : State) :
    ((flushUplink u s).uplink u).tx = (s.uplink u).tx ∧
    ∀ q, (((flushUplink u s).uplink u).queue q).entries = [] := by
  have entry : ∀ (t : State) (e : QueueEntry), ((flushQueueEntry u t e).uplink u).tx = (t.uplink u).tx ∧
      ∀ q, ((flushQueueEntry u t e).uplink u).queue q = (t.uplink u).queue q := by
    intro t e
    unfold flushQueueEntry
    split
    · rw [(countQuarantineDrop_storage t).uplink]
      exact ⟨rfl, fun _ => rfl⟩
    · rw [State.onUplink_uplink, (release_storage _ _ t).uplink]
      exact ⟨rfl, fun q => by cases q <;> rfl⟩
  have all : ∀ (l : List QueueEntry) (t : State),
      ((l.foldl (flushQueueEntry u) t).uplink u).tx = (t.uplink u).tx ∧
      ∀ q, ((l.foldl (flushQueueEntry u) t).uplink u).queue q = (t.uplink u).queue q := by
    intro l
    induction l with
    | nil => exact fun t => ⟨rfl, fun _ => rfl⟩
    | cons e l rest =>
      intro t
      obtain ⟨tx, queues⟩ := rest (flushQueueEntry u t e)
      exact ⟨tx.trans (entry t e).1, fun q => (queues q).trans ((entry t e).2 q)⟩
  obtain ⟨tx, queues⟩ := all (s.uplink u).allEntries (s.onUplink u UplinkEgress.emptied)
  rw [State.onUplink_uplink] at tx queues
  exact ⟨tx, fun q => (congrArg Queue.entries (queues q)).trans (by cases q <;> rfl)⟩

/-- After an abort the uplink sends nothing (R150). -/
theorem abortCopy_tx (u : Uplink) (s : State) : ((abortCopy u s).uplink u).tx = none := by
  unfold abortCopy
  split
  · assumption
  · rw [State.onPort_uplink, releaseSent, (release_storage _ _ _).uplink, State.onUplink_uplink]

section
variable {strict : Prop} {o d : List Nat} {s : State}

theorem linkGoesDown_work (u : Uplink) :
    Work strict ⟨o, d, none⟩ s ⟨o, d, none⟩ (linkGoesDown u s) := by
  unfold linkGoesDown
  split
  · refine .trans (.fall u) (.trans (.same ((SameHoldings.raise .linkDown (pathNumber u) none 0 0 _).trans
      (.onPort _ (uplinkPort u) _))) (.trans (abortCopy_work u) (.trans (flushUplink_work u) (.fallen u ?_ ?_))))
    · rw [(flushUplink_uplink u _).1, abortCopy_tx]
    · exact (flushUplink_uplink u _).2
  · exact .refl _ s

theorem linkGoesUp_work {k : Hands} (u : Uplink) : Work strict k s k (linkGoesUp u s) := by
  unfold linkGoesUp
  split
  · exact .trans (.rise u) (.same (.raise _ _ _ _ _ _))
  · exact .refl _ s

theorem followPhy_work (u : Uplink) : Work strict ⟨o, d, none⟩ s ⟨o, d, none⟩ (followPhy u s) := by
  unfold followPhy
  split
  · exact linkGoesUp_work u
  · exact linkGoesDown_work u

end

/-- From `s` to `t` the bay queues and the bay frame that is being sent are the same. -/
def BayKept (s t : State) : Prop :=
  (∀ q, t.bay.queue q = s.bay.queue q) ∧ t.bay.sending = s.bay.sending

theorem BayKept.trans {s t v : State} (a : BayKept s t) (b : BayKept t v) : BayKept s v :=
  ⟨fun q => (b.1 q).trans (a.1 q), b.2.trans a.2⟩

theorem BayKept.of_eq {s t : State} (same : t.bay = s.bay) : BayKept s t :=
  ⟨fun q => by rw [same], by rw [same]⟩

theorem Aside.bayKept {s t : State} (a : Aside s t) : BayKept s t := ⟨a.bayQueues, a.baySends⟩

theorem abortCopy_bayKept (u : Uplink) (s : State) : BayKept s (abortCopy u s) := by
  unfold abortCopy
  split
  · exact .of_eq rfl
  · next t _ =>
    have used : ∀ f, BayKept s (s.useFree.onUplink u f) := fun f => by cases u <;> exact .of_eq rfl
    exact ((used _).trans (release_aside _ t.handle _).bayKept).trans (.of_eq (State.onPort_bay _ _ _))

theorem flushUplink_bayKept (u : Uplink) (s : State) : BayKept s (flushUplink u s) := by
  have entry : ∀ (t : State) (e : QueueEntry), BayKept t (flushQueueEntry u t e) := by
    intro t e
    unfold flushQueueEntry
    split
    · exact .of_eq rfl
    · exact (release_aside _ _ t).bayKept.trans (.of_eq (State.onUplink_bay _ u _))
  have all : ∀ (l : List QueueEntry) (t : State), BayKept t (l.foldl (flushQueueEntry u) t) := by
    intro l
    induction l with
    | nil => exact fun t => .of_eq rfl
    | cons e l rest => exact fun t => (entry t e).trans (rest _)
  exact (BayKept.of_eq (State.onUplink_bay s u _)).trans (all _ _)

theorem linkGoesDown_bayKept (u : Uplink) (s : State) : BayKept s (linkGoesDown u s) := by
  unfold linkGoesDown
  split
  · exact (BayKept.of_eq (by cases u <;> rfl)).trans ((abortCopy_bayKept u _).trans (flushUplink_bayKept u _))
  · exact .of_eq rfl

theorem followPhy_bayKept (u : Uplink) (s : State) : BayKept s (followPhy u s) := by
  unfold followPhy linkGoesUp
  split
  · split
    · exact .of_eq (by cases u <;> rfl)
    · exact .of_eq rfl
  · exact linkGoesDown_bayKept u s

section
variable {strict : Prop} {o d : List Nat} {s : State}

/-- A port reset is an abort, a flush and a link that follows its PHY; B stays as it stood (R193, log 38). -/
theorem portReset_work (u : Uplink) : Work strict ⟨o, d, none⟩ s ⟨o, d, none⟩ (portReset u s) := by
  refine .trans (linkGoesDown_work u) (.trans (followPhy_work u) (.same ?_))
  obtain ⟨queues, sends⟩ := (linkGoesDown_bayKept u s).trans (followPhy_bayKept u _)
  exact ⟨rfl, rfl, fun v => by cases v <;> rfl, fun v q => by cases v <;> rfl, fun v => by cases v <;> rfl,
    fun q => congrArg Queue.entries (queues q).symm, sends.symm, rfl, id⟩

end

section
variable {strict : Prop} {o d : List Nat} {x : Option Uplink} {s : State}

theorem completeBay_work {h : Nat} {w : OnWire} (sends : s.bay.tx = some (.frame h w)) :
    Work strict ⟨o, d, x⟩ s ⟨o, d, x⟩ (completeBay h w s) := by
  refine .trans (.stopBay sends) (.trans (.same ?_) (.trans (.release (some .b) h)
    (.same ((SameHoldings.onPort _ .b _).trans (.startPause _)))))
  exact .onBay_onBay (fun q => by cases q <;> rfl) rfl

theorem completePause_same {q : BitVec 16} {w : OnWire} (sends : s.bay.tx = some (.pause q w)) :
    SameHoldings s (completePause w s) := by
  refine SameHoldings.trans (.onBay (fun q => by cases q <;> rfl) ?_) (.startPause _)
  simp [BayEgress.sending, sends, BayTx.handle?]

end

end Sys2Proof.Machine

/-! SUPPORT. What the part places by itself as chains of `Work`: copies, bay frames, presence frames, replies and
notices (R101, R119, R123, R126, R181, R183). -/

namespace Sys2Proof.Machine

/-! ### Copies that may join an uplink's queue -/

theorem FrameKept.trans {s t v : State} {h : Nat} (a : FrameKept s t h) (b : FrameKept t v h) : FrameKept s v h := by
  intro r live q
  obtain ⟨g, was, q', tag, frame⟩ := b r live q
  obtain ⟨k, was', q'', tag', frame'⟩ := a g was q'
  exact ⟨k, was', q'', tag'.trans tag, frame.trans frame'⟩

theorem frameKept_release_self (p : Option Port) (h : Nat) (s : State) : FrameKept s (release p h s) h := by
  obtain ⟨_, e⟩ | ⟨r, _, ⟨_, e⟩ | ⟨_, _, e⟩ | ⟨_, _, _, e⟩ | ⟨_, _, _, e⟩⟩ := release_cases p h s <;> rw [e]
  · exact frameKept_of_store rfl rfl h
  · exact frameKept_of_store rfl rfl h
  · exact frameKept_quarantineHandle p h s h
  · intro r live
    simp [handleOf_freeHandle] at live
  · exact frameKept_writeHandle s fun _ r => ⟨rfl, rfl, rfl⟩

theorem frameKept_offerUplink (p : Option Port) (u : Uplink) (q : SlotClass) (e : QueueEntry) (s : State) :
    FrameKept s (offerUplink p u q e s) e.handle := by
  unfold offerUplink
  split
  · exact frameKept_of_store (by simp) (by simp) _
  · exact (frameKept_release_self p e.handle s).trans (frameKept_of_store (by simp) (by simp) _)

theorem frameKept_placeCopy (p : Option Port) (h : Nat) (c : TClass) (k : Option InjectKind) (u : Uplink)
    (s : State) : FrameKept s (placeCopy p h c k u s) h := by
  unfold placeCopy
  split
  · split
    · exact frameKept_offerUplink p u _ (copyEntry h false false) s
    · exact (frameKept_release_self p h s).trans (frameKept_of_store rfl rfl h)
    · exact (frameKept_offerUplink p u _ (copyEntry h false true) s).trans (frameKept_of_store rfl rfl h)
    · exact (frameKept_offerUplink p u _ (copyEntry h true false) s).trans (frameKept_of_store rfl rfl h)
  · exact (frameKept_release_self p h s).trans (frameKept_of_store rfl rfl h)

theorem frameKept_setRefs (h n : Nat) (s : State) : FrameKept s (setRefs h n s) h :=
  frameKept_writeHandle s fun _ _ => ⟨rfl, rfl, rfl⟩

/-- An untagged frame may join (R125). -/
theorem copyAllowed_of_untagged {s : State} {h : Nat} (untagged : ∀ r, handleOf s h = some r → r.tag = none) :
    CopyAllowed s h := .inr fun r t live _ tag => by simp [untagged r live] at tag

/-- A handle holds a reply that is not yet stamped (R11, R126). -/
def ReplyStored (s : State) (h : Nat) : Prop :=
  ∀ r, handleOf s h = some r → r.tag = none ∧ 0x80 ≤ (octetAt (storedFrame s r) 14).toNat

theorem ReplyStored.of_store {s t : State} {h : Nat} (own : ReplyStored s h) (same : t.store = s.store) :
    ReplyStored t h := by
  intro r live
  rw [handleOf_of_store same] at live
  rw [storedFrame_congr (congrArg FrameStore.blocks same) rfl]
  exact own r live

/-- A stamped reply may join (R120). -/
theorem ReplyStored.stamped {s : State} {h : Nat} (own : ReplyStored s h) (i : Nat) :
    CopyAllowed (stamp (.entry i) h .timing s) h := by
  refine .inr fun r t live _ tag => ?_
  unfold stamp at live ⊢
  dsimp only at live ⊢
  split at live
  · simp [own r live] at tag
  · rw [(putOrigin_pairing _ _ _).handleOf, handleOf_writeHandle, if_pos rfl] at live
    obtain ⟨g, was, rfl⟩ := Option.map_eq_some_iff.mp live
    obtain rfl := Option.some.inj tag
    exact ⟨rfl, (own g was).2.trans_eq
      (congrArg (fun f => (octetAt f 14).toNat) (storedFrame_congr (writeHandle_blocks h _ s).symm rfl))⟩

/-! ### Copies placed -/

theorem SameHoldings.onStore (s : State) {f : FrameStore → FrameStore} (blocks : (f s.store).blocks = s.store.blocks)
    (handles : (f s.store).handles = s.store.handles) : SameHoldings s (s.onStore f) :=
  ⟨blocks, handles, fun _ => rfl, fun _ _ => rfl, fun _ => rfl, fun _ => rfl, rfl, rfl, id⟩

section
variable {strict : Prop} {o d : List Nat} {x : Option Uplink} {s : State} {h : Nat}

theorem placeCopy_work (p : Option Port) (c : TClass) (k : Option InjectKind) (u : Uplink)
    (allowed : strict → CopyAllowed s h) : Work strict ⟨o, h :: d, x⟩ s ⟨o, d, x⟩ (placeCopy p h c k u s) := by
  unfold placeCopy
  split
  · next up =>
    have offered := fun a b =>
      offerUplink_work (o := o) (d := d) (x := x) p (slotClassOf c) (e := copyEntry h a b) up allowed
    split
    · exact offered false false
    · exact .trans (.release p h) (.same (.onPairing _ _))
    · exact .trans (offered false true) (.same (.onPairing _ _))
    · exact .trans (offered true false) (.same (.onPairing _ _))
  · exact .trans (.release p h) (.same (.onPairing _ _))

theorem spendInjection_same (hit : Bool) (s : State) : SameHoldings s (spendInjection hit s) := by
  unfold spendInjection
  split
  · exact .onPairing _ _
  · exact .refl s

theorem placeCopies_work (p : Option Port) (c : TClass) (injectable : Bool)
    (allowed : strict → CopyAllowed s h) :
    Work strict ⟨h :: o, d, x⟩ s ⟨o, d, x⟩ (placeCopies p h c injectable s) := by
  have spent := spendInjection_same (injectable && injectionMatches s c) s
  have first : strict → CopyAllowed (setRefs h 2 (spendInjection (injectable && injectionMatches s c) s)) h :=
    fun on => ((frameKept_of_store spent.blocks spent.handles h).trans
      (frameKept_setRefs h 2 _)).copyAllowed
        (fun run => by rw [(setRefs_storage h 2 _).loader, spent.part, run]) (allowed on)
  refine .trans (.same spent) (.trans (.place h 2 (by omega) (by omega))
    (.trans (placeCopy_work p c _ .u1 first) (placeCopy_work p c _ .u2 fun on => ?_)))
  exact (frameKept_placeCopy p h c _ .u1 _).copyAllowed
    (fun run => by rw [(placeCopy_reply _ _ _ _ _ _).loader, run]) (first on)

theorem stamp_work {k : Hands} (n : Numbering) (c : TClass) (mem : h ∈ k.stored) :
    Work strict k s k (stamp n h c s) := by
  have stamped : ∀ f : TagFields, Work strict k s k (writeHandle h (fun r => { r with tag := some f }) s) :=
    fun f => .write h _ mem fun _ => ⟨rfl, rfl⟩
  unfold stamp
  split
  · split
    · exact .refl k s
    · exact .trans (stamped _) (.same (.onPairing _ _))
  · exact .trans (stamped _) (.same (.onPairing _ _))

theorem noLinkDrop_work : Work strict ⟨h :: o, d, x⟩ s ⟨o, d, x⟩ (noLinkDrop h s) :=
  .trans (.free h) (.same (.onPairing _ _))

/-! ### Bay frames (R119, R125) -/

theorem forwardUnpaired_work {u : Uplink} (up : (s.uplink u).linkUp = true)
    (untagged : ∀ r, handleOf s h = some r → r.tag = none) :
    Work strict ⟨h :: o, d, x⟩ s ⟨o, d, x⟩ (forwardUnpaired u h s) := by
  refine .trans (.place h 1 (by omega) (by omega))
    (.trans (offerUplink_work (e := copyEntry h false false) (some .b) .general ?_ fun _ => ?_)
      (.same (.onPairing _ _)))
  · rwa [setRefs_uplink]
  · exact (frameKept_setRefs h 1 s).copyAllowed
      (fun run => by rw [(setRefs_storage h 1 _).loader, run]) (copyAllowed_of_untagged untagged)

theorem unpairedFrame_work (untagged : ∀ r, handleOf s h = some r → r.tag = none) :
    Work strict ⟨h :: o, d, x⟩ s ⟨o, d, x⟩ (unpairedFrame h s) := by
  unfold unpairedFrame
  split
  · next up => exact forwardUnpaired_work up untagged
  · split
    · next up => exact forwardUnpaired_work up untagged
    · exact noLinkDrop_work

theorem pairSteps_work (n : Numbering) (c : TClass) (paired : Bool)
    (untagged : ∀ r, handleOf s h = some r → r.tag = none) :
    Work strict ⟨h :: o, d, x⟩ s ⟨o, d, x⟩ (pairSteps n h c paired s) := by
  unfold pairSteps
  split
  · exact unpairedFrame_work untagged
  · split
    · exact .trans (.free h) (.same (.onPairing _ _))
    · next run =>
      split
      · exact noLinkDrop_work
      · refine .trans (stamp_work n c List.mem_cons_self)
          (.trans (.same (.onPairing _ _)) (placeCopies_work _ _ _ fun _ => .inl ?_))
        exact (congrArg Loader.part (stamp_reply n h c s).loader).trans (not_ne_iff.mp run)

theorem pairBayFrame_work (a : Address) (c : TClass) (paired : Bool)
    (untagged : ∀ r, handleOf s h = some r → r.tag = none) :
    Work strict ⟨h :: o, d, x⟩ s ⟨o, d, x⟩ (pairBayFrame h a c paired s) := by
  have only := senderOf_pairing c a s
  refine .trans (.same (.of_pairing only)) (pairSteps_work _ c paired fun r live => ?_)
  rw [only.handleOf] at live
  exact untagged r live

/-! ### The part's own frames (R101, R126, R181, R183) -/

theorem pairOwnFrame_work (p : Option Port) (c : TClass) (injectable : Bool)
    (allowed : strict → s.loader.part = .run ∨ c = .timing ∧ ReplyStored s h) :
    Work strict ⟨h :: o, d, x⟩ s ⟨o, d, x⟩ (pairOwnFrame p h c injectable s) := by
  have zero := prepareZero_pairing p c s
  unfold pairOwnFrame
  split
  · exact noLinkDrop_work
  · refine .trans (.same (.of_pairing zero)) (.trans (stamp_work _ c List.mem_cons_self)
      (placeCopies_work p c injectable fun on => ?_))
    obtain run | ⟨rfl, own⟩ := allowed on
    · exact .inl (by rw [(stamp_reply _ _ _ _).loader, zero.loader, run])
    · exact (own.of_store zero.store).stamped 0

theorem admitBuilt_cases (f : List Octet) (c : TClass) (s : State) :
    HasRoom f s ∧ admitBuilt f c s = (some (lowestHandle s), storeFrame f c none s) ∨
    admitBuilt f c s = (none, s.onStore fun st => { st with internalDrops := st.internalDrops + 1 }) := by
  by_cases room : HasRoom f s
  · exact .inl ⟨room, admitBuilt_of_room c room⟩
  · exact .inr (admitBuilt_of_no_room c room)

/-- The storing of a frame built in the part, and what is done with it there (R31). -/
theorem Work.built {f : List Octet} {c : TClass} {go : Nat → State → State}
    (placed : HasRoom f s → Work strict ⟨lowestHandle s :: o, d, x⟩ (storeFrame f c none s) ⟨o, d, x⟩
      (go (lowestHandle s) (storeFrame f c none s))) :
    Work strict ⟨o, d, x⟩ s ⟨o, d, x⟩
      (match admitBuilt f c s with
        | (none, s') => s'
        | (some h, s') => go h s') := by
  obtain ⟨room, e⟩ | e := admitBuilt_cases f c s <;> rw [e]
  · exact .trans (.store f c none room) (placed room)
  · exact .same (.onStore s rfl rfl)

theorem storePresence_work (run : strict → s.loader.part = .run) :
    Work strict ⟨o, d, x⟩ s ⟨o, d, x⟩ (storePresence s) := by
  refine Work.built fun _ => .trans (.same (.onFilter _ _)) (pairOwnFrame_work none .presence true fun on => .inl ?_)
  exact (congrArg Loader.part (storeFrame_storage _ _ _ s).loader).trans (run on)

theorem buildPresence_work (run : strict → s.loader.part = .run) :
    Work strict ⟨o, d, x⟩ s ⟨o, d, x⟩ (buildPresence s) := by
  refine .trans (.same (t := rearmOwn s) (.of_eq rfl rfl rfl rfl rfl rfl)) ?_
  unfold buildPresence
  dsimp only
  split
  · exact .same (.onFilter _ _)
  · exact storePresence_work run

theorem offerNotice_work : Work strict ⟨h :: o, d, x⟩ s ⟨o, d, x⟩ (offerNotice h s) := by
  have offered : Work strict ⟨h :: o, d, x⟩ s ⟨o, d, x⟩ (offerBay (some .b) .service h (setRefs h 1 s)).2 :=
    .trans (.place h 1 (by omega) (by omega)) (offerBay_work _ _ _)
  unfold offerNotice
  split
  · next t e =>
    rw [e] at offered
    exact .trans offered (.same (.onNotices _ fun bound => (List.drop_sublist 8 _).length_le.trans bound))
  · next t e =>
    rw [e] at offered
    exact .trans offered (.same (.onNotices _ id))

theorem startNoticeTimer_same (s : State) : SameHoldings s (startNoticeTimer s) := .onNotices s id

theorem sendAttempt_work : Work strict ⟨o, d, x⟩ s ⟨o, d, x⟩ (sendAttempt s) := by
  unfold sendAttempt
  obtain ⟨room, e⟩ | e := admitBuilt_cases (noticeOctets s) .general s <;> rw [e]
  · exact .trans (.store _ _ none room) (.trans offerNotice_work (.same (startNoticeTimer_same _)))
  · exact .trans (.same (.onStore s rfl rfl)) (.same (startNoticeTimer_same _))

theorem noticeTest_work : Work strict ⟨o, d, x⟩ s ⟨o, d, x⟩ (noticeTest s) := by
  unfold noticeTest
  split
  · exact sendAttempt_work
  · exact .refl _ s

/-- The tests at a handling's end (log 14). -/
theorem finish_work : Work strict ⟨o, d, x⟩ s ⟨o, d, x⟩ (finish s) :=
  .trans (uplinkChoices_work .u1 _) (.trans (uplinkChoices_work .u2 _) (.trans noticeTest_work (bayChoices_work _)))

/-! ### Replies -/

/-- Octet 14 of a reply is its Code (R11). -/
theorem octetAt_replyFrame (n : Nat) (dest station : Address) (marker : BitVec 16) (code : Octet) (st : Status)
    (token object index : BitVec 16) (values : List Value) :
    octetAt (replyFrame n dest station marker code st token object index values) 14 = code + 0x80 := by
  simp [octetAt, replyFrame, sealFrame, withFcs, padTo, addrOctets, beOctets]

theorem replyCode_high {code : Octet} (low : code.toNat < 0x80) : 0x80 ≤ (code + 0x80).toNat := by
  bv_omega

theorem replyStored_storeFrame {f : List Octet} (room : HasRoom f s) (c : TClass)
    (high : 0x80 ≤ (octetAt f 14).toNat) : ReplyStored (storeFrame f c none s) (lowestHandle s) := by
  intro r live
  rw [handleOf_storeFrame, if_pos rfl] at live
  obtain rfl := Option.some.inj live
  exact ⟨rfl, by rwa [storedFrame_storeFrame c none room]⟩

theorem sendReply_work {code : Octet} (low : code.toNat < 0x80) (r : Request) (a : Answer) :
    Work strict ⟨o, d, x⟩ s ⟨o, d, x⟩ (sendReply code r a s) := by
  refine .trans (.same (t := countReply s) (.onNotices s id)) (Work.built fun room => ?_)
  unfold deliver
  split
  · exact .trans (.place _ 1 (by omega) (by omega)) (offerBay_work _ _ _)
  · next line =>
    refine pairOwnFrame_work _ .timing false fun _ => .inr ⟨rfl, ?_⟩
    refine replyStored_storeFrame room _ ?_
    rw [replyOctets, octetAt_replyFrame]
    exact replyCode_high low

end

end Sys2Proof.Machine

/-! SUPPORT. Requests served as chains of `Work` (R170 to R180): all but RESET change nothing that is held, a port
reset is an abort and a flush, and an engine reset leaves nothing. -/

namespace Sys2Proof.Machine

/-! ### Settings written -/

theorem releasePause_same (s : State) : SameHoldings s (releasePause s) :=
  SameHoldings.trans (t := s.onPause fun p => { p with asserted := false, refresh := none })
    (.of_eq rfl rfl rfl rfl rfl rfl) (.makePausePending 0 _)

theorem judgeNetworks_same (s : State) : SameHoldings s (judgeNetworks s) :=
  .of_filter ((judgeNetwork_filter .u2 s).trans (judgeNetwork_filter .u1 _))
    ((judgeNetwork_raises .u2 s).trans (judgeNetwork_raises .u1 _))

theorem pauseSettingWritten_same (s : State) : SameHoldings s (pauseSettingWritten s) := by
  unfold pauseSettingWritten
  split
  · exact .pauseTest s
  · split
    · exact releasePause_same s
    · exact .refl s

theorem honorPauseWritten_same (s : State) : SameHoldings s (honorPauseWritten s) := by
  unfold honorPauseWritten
  split
  · exact .refl s
  · exact endHold_same s

theorem epochSeedWritten_same (s : State) : SameHoldings s (epochSeedWritten s) := .onPairing s _

theorem settingAction_same (n : SettingName) (s : State) : SameHoldings s (settingAction n s) := by
  unfold settingAction
  split
  · exact judgeNetworks_same s
  · exact pauseSettingWritten_same s
  · exact pauseSettingWritten_same s
  · exact pauseSettingWritten_same s
  · exact honorPauseWritten_same s
  · exact epochSeedWritten_same s
  · exact .refl s

theorem allActions_same (s : State) : SameHoldings s (allActions s) :=
  ((judgeNetworks_same s).trans (pauseSettingWritten_same _)).trans
    ((honorPauseWritten_same _).trans (epochSeedWritten_same _))

theorem SameHoldings.onSettings (s : State) (f : Settings → Settings) : SameHoldings s (s.onSettings f) :=
  .of_eq rfl rfl rfl rfl rfl rfl

/-! ### Each kind of request but RESET -/

section
variable {r : Request} {s : State}

theorem shaped_same {objectOk shapeOk : Bool} {go : State × Option Answer} (served : SameHoldings s go.1) :
    SameHoldings s (shaped r objectOk shapeOk s go).1 := by
  unfold shaped
  split
  · exact .refl s
  · split
    · exact .refl s
    · exact served

theorem serveRead_same : SameHoldings s (serveRead r s).1 := by
  unfold serveRead
  split
  · exact .refl s
  · split
    · exact .refl s
    · split <;> exact .refl s

theorem writeSetting_same (n : SettingName) : SameHoldings s (writeSetting n r s).1 := by
  unfold writeSetting
  split
  · exact .refl s
  · exact .trans (.onSettings s _) (settingAction_same n _)

theorem writeClassifier_same (k : Nat) : SameHoldings s (writeClassifier k r s).1 := by
  unfold writeClassifier
  split
  · dsimp only
    exact .onSettings s _
  · exact .refl s

theorem serveWrite_same : SameHoldings s (serveWrite r s).1 := by
  unfold serveWrite
  split
  · exact shaped_same (writeSetting_same _)
  · split
    · exact .refl s
    · exact shaped_same (writeClassifier_same _)

theorem serveEntryRead_same : SameHoldings s (serveEntryRead r s).1 := by
  refine shaped_same ?_
  split
  · unfold readEntryAt
    split
    · exact .refl s
    · split
      · exact .refl s
      · split
        · exact .refl s
        · exact .of_filter (entryCheckFails_filter _ _ _ s) (entryCheckFails_raises _ _ _ s)
  · unfold readEntryOf
    split
    · exact .refl s
    · next a c _ =>
      have looked : SameHoldings s (lookupKey (some r.port) a c s).2 :=
        .of_filter (lookupKey_filter _ _ _ s) (lookupKey_raises _ _ _ s)
      split
      · next e => rwa [e] at looked
      · next e =>
        rw [e] at looked
        split <;> exact looked

theorem serveEntryPin_same : SameHoldings s (serveEntryPin r s).1 := by
  refine shaped_same ?_
  split
  · next a c limit _ _ _ =>
    have pinned : SameHoldings s (pinKey (some r.port) a c limit s).2 :=
      .of_filter (pinKey_filter _ _ _ _ s) (pinKey_raises _ _ _ _ s)
    split <;> next e => rwa [e] at pinned
  · exact .refl s

theorem serveEntryUnpin_same : SameHoldings s (serveEntryUnpin r s).1 := by
  refine shaped_same ?_
  split
  · exact .refl s
  · next a c _ =>
    have unpinned : SameHoldings s (unpinKey r.port a c s).2 :=
      .of_filter (unpinKey_filter _ _ _ s) (unpinKey_raises _ _ _ s)
    split <;> next e => rwa [e] at unpinned

theorem serveEntryRemove_same : SameHoldings s (serveEntryRemove r s).1 := by
  refine shaped_same ?_
  split
  · exact .refl s
  · next a c _ =>
    have removed : SameHoldings s (removeKey r.port a c s).2 :=
      .of_filter (removeKey_filter _ _ _ s) (removeKey_raises _ _ _ s)
    split <;> next e => rwa [e] at removed

theorem serveOriginRead_same : SameHoldings s (serveOriginRead r s).1 := by
  refine shaped_same ?_
  split
  · unfold readOriginAt
    split
    · exact .refl s
    · exact .of_pairing (verifyOrigin_pairing _ _ _ s)
  · unfold readOriginOf
    split
    · exact .refl s
    · next a _ =>
      have looked : SameHoldings s (lookupOrigin (some r.port) none a s).2 :=
        .of_pairing (lookupOrigin_pairing _ _ _ s)
      split <;> next e => rwa [e] at looked

theorem serveOriginPin_same : SameHoldings s (serveOriginPin r s).1 := by
  refine shaped_same ?_
  split
  · exact .refl s
  · next a _ =>
    have pinned : SameHoldings s (pinOrigin (some r.port) a s).2 := .of_pairing (pinOrigin_pairing _ _ s)
    split <;> next e => rwa [e] at pinned

theorem serveOriginRemove_same : SameHoldings s (serveOriginRemove r s).1 := by
  refine shaped_same ?_
  split
  · exact .refl s
  · next a _ =>
    have removed : SameHoldings s (removeOrigin r.port a s).2 := .of_pairing (removeOrigin_pairing _ _ s)
    split
    · next e => rwa [e] at removed
    · next e =>
      rw [e] at removed
      split <;> exact removed

theorem stageSlots_same (u : Uplink) (c : SlotCounts) (s : State) : SameHoldings s (stageSlots u c s) :=
  .onUplink u ⟨rfl, fun q => by cases q <;> rfl, rfl⟩

theorem serveSlotStage_same : SameHoldings s (serveSlotStage r s).1 := by
  refine shaped_same ?_
  split
  · exact .refl s
  · split
    · exact .refl s
    · split
      · exact .refl s
      · exact stageSlots_same _ _ s

theorem serveSlotApply_same : SameHoldings s (serveSlotApply r s).1 := by
  refine shaped_same ?_
  split
  · exact .refl s
  · next u _ =>
    dsimp only
    exact .onUplink u ⟨rfl, fun q => by cases q <;> rfl, rfl⟩

theorem serveInject_same : SameHoldings s (serveInject r s).1 := by
  refine shaped_same ?_
  split
  · exact .refl s
  · dsimp only
    exact .onPairing s _

theorem acknowledge_same (s : State) : SameHoldings s (acknowledge s).2 := by
  unfold acknowledge
  split
  · exact .refl s
  · exact .of_eq rfl rfl rfl rfl rfl rfl
  · exact .of_eq rfl rfl rfl rfl rfl rfl

theorem serveFaultAck_same : SameHoldings s (serveFaultAck r s).1 := by
  refine shaped_same ?_
  have acked := acknowledge_same s
  split <;> next e => rwa [e] at acked

theorem clearQueues_same (s : State) : SameHoldings s (clearQueues s) where
  blocks := rfl
  handles := rfl
  links u := by cases u <;> rfl
  queues u q := by cases u <;> cases q <;> rfl
  sends u := by cases u <;> rfl
  bayQueues q := by cases q <;> rfl
  baySends := rfl
  part := rfl
  records := id

theorem clearGroup_same {g : Nat} {f : State → State} (found : clearGroup g = some f) (s : State) :
    SameHoldings s (f s) := by
  unfold clearGroup at found
  split at found
  · obtain rfl := Option.some.inj found
    exact .of_eq rfl rfl rfl rfl rfl rfl
  · obtain rfl := Option.some.inj found
    exact clearQueues_same s
  · obtain rfl := Option.some.inj found
    exact .onFilter s _
  · obtain rfl := Option.some.inj found
    exact .onPairing s _
  · obtain rfl := Option.some.inj found
    exact .onNotices s id
  · exact absurd found (by simp)

theorem serveClearCounters_same : SameHoldings s (serveClearCounters r s).1 := by
  refine shaped_same ?_
  split
  · exact .refl s
  · next f found => exact clearGroup_same found s

theorem serveFlushTable_same : SameHoldings s (serveFlushTable r s).1 :=
  shaped_same (.of_filter (flushTable_filter s) (flushTable_raises s))

theorem serveReload_same : SameHoldings s (serveReload r s).1 := by
  refine shaped_same ?_
  split
  · exact .refl s
  · exact .of_eq rfl rfl rfl rfl rfl rfl

/-- No request but RESET changes what is held (R170 to R180). -/
theorem serveKind_same {k : ReqKind} (kind : k ≠ .reset) : SameHoldings s (serveKind k r s).1 := by
  cases k with
  | read => exact serveRead_same
  | write => exact serveWrite_same
  | entryRead => exact serveEntryRead_same
  | entryPin => exact serveEntryPin_same
  | entryUnpin => exact serveEntryUnpin_same
  | entryRemove => exact serveEntryRemove_same
  | originRead => exact serveOriginRead_same
  | originPin => exact serveOriginPin_same
  | originRemove => exact serveOriginRemove_same
  | slotStage => exact serveSlotStage_same
  | slotApply => exact serveSlotApply_same
  | inject => exact serveInject_same
  | faultAck => exact serveFaultAck_same
  | clearCounters => exact serveClearCounters_same
  | flushTable => exact serveFlushTable_same
  | reload => exact serveReload_same
  | reset => exact absurd rfl kind

end

/-! ### RESET -/

theorem abortCopy_loader (u : Uplink) (s : State) : (abortCopy u s).loader = s.loader := by
  unfold abortCopy
  split
  · rfl
  · rw [State.onPort_loader, releaseSent, (release_storage _ _ _).loader, State.onUplink_loader]
    rfl

theorem flushQueueEntry_loader (u : Uplink) (s : State) (e : QueueEntry) :
    (flushQueueEntry u s e).loader = s.loader := by
  unfold flushQueueEntry
  split
  · rfl
  · rw [State.onUplink_loader, (release_storage _ _ _).loader]

theorem flushUplink_loader (u : Uplink) (s : State) : (flushUplink u s).loader = s.loader := by
  have all : ∀ (l : List QueueEntry) (t : State), (l.foldl (flushQueueEntry u) t).loader = t.loader := by
    intro l
    induction l with
    | nil => exact fun _ => rfl
    | cons e l rest => exact fun t => (rest _).trans (flushQueueEntry_loader u t e)
  exact (all _ _).trans (State.onUplink_loader s u _)

theorem linkGoesDown_loader (u : Uplink) (s : State) : (linkGoesDown u s).loader = s.loader := by
  unfold linkGoesDown
  split
  · rw [flushUplink_loader, abortCopy_loader, State.onPort_loader, (raise_filter _ _ _ _ _ _).loader,
      State.onUplink_loader]
  · rfl

theorem followPhy_loader (u : Uplink) (s : State) : (followPhy u s).loader = s.loader := by
  unfold followPhy linkGoesUp
  split
  · split
    · rw [(raise_filter _ _ _ _ _ _).loader, State.onUplink_loader]
    · rfl
  · exact linkGoesDown_loader u s

theorem portReset_loader (u : Uplink) (s : State) : (portReset u s).loader = s.loader :=
  (followPhy_loader u _).trans (linkGoesDown_loader u s)

theorem chipReset_holdsNothing (s : State) : HoldsNothing (chipReset s) where
  blocks := rfl
  handles := rfl
  queues u q := by cases u <;> cases q <;> rfl
  sends u := by cases u <;> rfl
  bayQueues q := by cases q <;> rfl
  baySends := rfl
  records := rfl

theorem engineReset_holdsNothing (s : State) : HoldsNothing (engineReset s) where
  blocks := rfl
  handles := rfl
  queues u q := by cases u <;> cases q <;> rfl
  sends u := by cases u <;> rfl
  bayQueues q := by cases q <;> rfl
  baySends := rfl
  records := rfl

/-! ### A request served -/

/-- A handling that keeps the part state, with whatever is in hand. -/
structure Steady (strict : Prop) (s t : State) : Prop where
  work : ∀ o d, Work strict ⟨o, d, none⟩ s ⟨o, d, none⟩ t
  part : t.loader.part = s.loader.part

section
variable {strict : Prop} {s t v : State}

theorem Steady.of_same (same : SameHoldings s t) : Steady strict s t := ⟨fun _ _ => .same same, same.part⟩

theorem Steady.trans (a : Steady strict s t) (b : Steady strict t v) : Steady strict s v :=
  ⟨fun o d => .trans (a.work o d) (b.work o d), b.part.trans a.part⟩

theorem portReset_steady (u : Uplink) (s : State) : Steady strict s (portReset u s) :=
  ⟨fun _ _ => portReset_work u, congrArg Loader.part (portReset_loader u s)⟩

theorem sendReply_steady {code : Octet} (low : code.toNat < 0x80) (r : Request) (a : Answer) (s : State) :
    Steady strict s (sendReply code r a s) :=
  ⟨fun _ _ => sendReply_work low r a, congrArg Loader.part (sendReply_reply code r a s).loader⟩

/-- RESET is a port reset, an engine reset that is not answered, or refused (R180, R191, R193). -/
theorem serveReset_cases (r : Request) (s : State) :
    Steady strict s (serveReset r s).1 ∨ serveReset r s = (engineReset s, none) := by
  have same := Steady.of_same (strict := strict) (SameHoldings.refl s)
  unfold serveReset shaped
  split
  · exact .inl same
  · split
    · exact .inl same
    · split
      · exact .inl (portReset_steady .u1 s)
      · exact .inl (portReset_steady .u2 s)
      · exact .inr rfl
      · exact .inl same

theorem serveKind_cases (k : ReqKind) (r : Request) (s : State) :
    Steady strict s (serveKind k r s).1 ∨ serveKind k r s = (engineReset s, none) := by
  by_cases kind : k = .reset
  · subst kind
    exact serveReset_cases r s
  · exact .inl (.of_same (serveKind_same kind))

theorem judgeRequest_cases (k : ReqKind) (r : Request) (s : State) :
    Steady strict s (judgeRequest k r s).1 ∨ judgeRequest k r s = (engineReset s, none) := by
  have same := Steady.of_same (strict := strict) (SameHoldings.refl s)
  unfold judgeRequest
  split
  · exact .inl same
  · split
    · dsimp only
      exact .inl (.of_same (.onPort s _ _))
    · exact .inl same
    · split
      · exact .inl same
      · exact serveKind_cases k r s

theorem serve_cases (k : ReqKind) (r : Request) (s : State) :
    Steady strict s (serve k r s) ∨ serve k r s = engineReset s := by
  have judged := judgeRequest_cases (strict := strict) k r s
  unfold serve
  split
  · next e =>
    rw [e] at judged
    exact judged.imp id (congrArg Prod.fst)
  · next e =>
    rw [e] at judged
    obtain steady | reset := judged
    · exact .inl (steady.trans (sendReply_steady k.code_lt r _ _))
    · exact absurd (congrArg Prod.snd reset) (by simp)

theorem serveBody_cases (p : Port) (a : Address) (body : List Octet) (s : State) :
    Steady strict s (serveBody p a body s) ∨ serveBody p a body s = engineReset s := by
  unfold serveBody
  split
  · exact .inl (.of_same (.onPort s _ _))
  · next low =>
    split
    · exact .inl (sendReply_steady (Nat.not_le.mp low) _ _ s)
    · exact serve_cases _ _ s

theorem serve_work (k : ReqKind) (r : Request) (s : State) :
    Work strict Hands.empty s Hands.empty (serve k r s) := by
  obtain steady | reset := serve_cases (strict := strict) k r s
  · exact steady.work [] []
  · exact reset ▸ .reset (engineReset_holdsNothing s)

/-- A management frame is stored, served and freed, or the service was an engine reset (R24, R25, log 15). -/
theorem serveFrame_work (p : Port) {h : Nat} (w : Walk) (f : List Octet) (serves : s.loader.part ≠ .loading) :
    Work strict ⟨[h], [], none⟩ s Hands.empty (serveFrame p h w f s) := by
  unfold serveFrame endRequest
  obtain steady | reset := serveBody_cases (strict := strict) p (sourceOf f) (w.body f) s
  · rw [if_neg (by rwa [steady.part])]
    exact .trans (steady.work [h] []) (.free h)
  · have loading : (engineReset s).loader.part = .loading := rfl
    rw [reset, if_pos loading]
    exact .reset (engineReset_holdsNothing s)

end

end Sys2Proof.Machine

/-! SUPPORT. Every step as a chain of `Work`: the Loader, the Fault Unit, the Intakes, the clock and each command. -/

namespace Sys2Proof.Machine

/-! ### The Loader (R188 to R192) -/

theorem SameHoldings.foldl {α : Type} {f : State → α → State} (each : ∀ s a, SameHoldings s (f s a)) (l : List α)
    (s : State) : SameHoldings s (l.foldl f s) := by
  induction l generalizing s with
  | nil => exact .refl s
  | cons a l rest => exact (each s a).trans (rest _)

/-- A change of the Loader that keeps the part state. -/
theorem SameHoldings.onLoader (s : State) {f : Loader → Loader} (part : (f s.loader).part = s.loader.part) :
    SameHoldings s (s.onLoader f) := .of_eq rfl rfl rfl rfl part rfl

theorem skipRecord_same (s : State) : SameHoldings s (skipRecord s) := .onLoader s rfl

theorem settingRecord_same (s : State) (r : ImageRecord) : SameHoldings s (settingRecord s r) := by
  unfold settingRecord applySetting
  split
  · split
    · exact skipRecord_same s
    · split
      · exact skipRecord_same s
      · exact .onSettings s _
  · exact .refl s

theorem applySettings_same (l : List ImageRecord) (s : State) : SameHoldings s (applySettings l s) :=
  ((SameHoldings.onSettings s _).trans (.foldl settingRecord_same l _)).trans (allActions_same _)

theorem stationRecord_same (p : Option Address × State) (r : ImageRecord) :
    SameHoldings p.2 (stationRecord p r).2 := by
  unfold stationRecord
  split
  · split
    · exact .refl _
    · exact skipRecord_same _
  · exact .refl _

theorem imageStation_same (l : List ImageRecord) (s : State) : SameHoldings s (imageStation l s).2 := by
  have all : ∀ p : Option Address × State, SameHoldings p.2 (l.foldl stationRecord p).2 := by
    induction l with
    | nil => exact fun p => .refl _
    | cons r l rest => exact fun p => (stationRecord_same p r).trans (rest _)
  have read := all (none, s)
  unfold imageStation
  split <;> next e => rwa [e] at read

theorem originPinRecord_same (s : State) (r : ImageRecord) : SameHoldings s (originPinRecord s r) := by
  unfold originPinRecord
  split
  · next a =>
    have pinned : SameHoldings s (pinOrigin none a s).2 := .of_pairing (pinOrigin_pairing none a s)
    split
    · next e => rwa [e] at pinned
    · next e =>
      rw [e] at pinned
      exact pinned.trans (skipRecord_same _)
  · exact .refl s

theorem sourcePinRecord_same (s : State) (r : ImageRecord) : SameHoldings s (sourcePinRecord s r) := by
  unfold sourcePinRecord
  split
  · next a c limit =>
    split
    · exact skipRecord_same s
    · next k _ =>
      have pinned : SameHoldings s (pinKey none a k limit s).2 :=
        .of_filter (pinKey_filter none a k limit s) (pinKey_raises none a k limit s)
      split
      · next e => rwa [e] at pinned
      · next e =>
        rw [e] at pinned
        exact pinned.trans (skipRecord_same _)
  · exact .refl s

theorem classifierRecord_same (s : State) (r : ImageRecord) : SameHoldings s (classifierRecord s r) := by
  unfold classifierRecord
  split
  · split
    · exact .onSettings s _
    · exact skipRecord_same s
  · exact .refl s

theorem loadSlots_same (u : Uplink) (c : SlotCounts) (s : State) : SameHoldings s (loadSlots u c s) :=
  .onUplink u ⟨rfl, fun q => by cases q <;> rfl, rfl⟩

theorem slotsRecord_same {put : Uplink → SlotCounts → State → State} (puts : ∀ u c s, SameHoldings s (put u c s))
    (s : State) (r : ImageRecord) : SameHoldings s (slotsRecord put s r) := by
  unfold slotsRecord
  split
  · split
    · exact skipRecord_same s
    · exact puts _ _ s
  · exact .refl s

theorem createZero_same (s : State) : SameHoldings s (createZero s) :=
  .trans (.of_pairing (createOrigin_pairing 0 .pinned _ s))
    (.foldl (fun s i => .of_pairing (dropOrigin_pairing i s)) _ _)

theorem setUpOverflow_same (s : State) : SameHoldings s (setUpOverflow s) := .onPairing s _

theorem readdressZero_same (a : Address) (s : State) : SameHoldings s (readdressZero a s) := by
  unfold readdressZero
  split
  · exact .refl s
  · exact .of_pairing (putOrigin_pairing 0 _ s)

theorem changeStation_same (a : Address) (s : State) : SameHoldings s (changeStation a s) := by
  unfold changeStation
  split
  · exact .refl s
  · exact ((SameHoldings.onLoader s rfl).trans (readdressZero_same a _)).trans
      (.foldl (fun s i => (SameHoldings.of_pairing (dropOrigin_pairing i s)).trans (.onPairing _ _)) _ _)

theorem applyImage_same (l : List ImageRecord) (s : State) : SameHoldings s (applyImage l s) :=
  (((applySettings_same l s).trans (imageStation_same l _)).trans (SameHoldings.onLoader _ rfl)).trans
    (((SameHoldings.foldl originPinRecord_same l _).trans (createZero_same _)).trans
      (((setUpOverflow_same _).trans (.foldl sourcePinRecord_same l _)).trans
        ((SameHoldings.foldl classifierRecord_same l _).trans (.foldl (slotsRecord_same loadSlots_same) l _))))

theorem applyDefaults_same (s : State) : SameHoldings s (applyDefaults s) :=
  (((SameHoldings.onSettings s _).trans (allActions_same _)).trans (SameHoldings.onLoader _ rfl)).trans
    ((createZero_same _).trans (setUpOverflow_same _))

theorem stageReload_same (l : List ImageRecord) (s : State) : SameHoldings s (stageReload l s) := by
  have pending : ∀ u t, SameHoldings t (t.onUplink u fun e => { e with applyPending := true }) :=
    fun u t => .onUplink u ⟨rfl, fun q => by cases q <;> rfl, rfl⟩
  exact (((stageSlots_same .u1 _ s).trans (stageSlots_same .u2 _ _)).trans
    (.foldl (slotsRecord_same stageSlots_same) l _)).trans ((pending .u1 _).trans (pending .u2 _))

theorem reloadImage_same (l : List ImageRecord) (s : State) : SameHoldings s (reloadImage l s) :=
  (((applySettings_same l s).trans (imageStation_same l _)).trans (changeStation_same _ _)).trans
    (((SameHoldings.foldl originPinRecord_same l _).trans (.foldl sourcePinRecord_same l _)).trans
      ((SameHoldings.foldl classifierRecord_same l _).trans (stageReload_same l _)))

/-! ### The Fault Unit (R160 to R163) -/

theorem SameHoldings.onFaults (s : State) (f : FaultUnit → FaultUnit) : SameHoldings s (s.onFaults f) :=
  .of_eq rfl rfl rfl rfl rfl rfl

theorem captureReport_same (r : FaultReport) (s : State) : SameHoldings s (captureReport r s) := by
  have counted := SameHoldings.onFaults s fun f => { f with counts := f.counts.inc r.kind }
  unfold captureReport
  dsimp only
  split
  · exact counted.trans ((SameHoldings.onFaults _ _).trans (.raise _ _ _ _ _ _))
  · exact counted.trans ((SameHoldings.onFaults _ _).trans (.raise _ _ _ _ _ _))
  · exact counted.trans (.onFaults _ _)

theorem setImageStatus_same (i : ImageStatus) (s : State) : SameHoldings s (setImageStatus i s) := .onLoader s rfl

theorem applyLoad_same (i : ImageOutcome) (s : State) : SameHoldings s (applyLoad i s) := by
  unfold applyLoad
  split
  · exact (applyImage_same _ s).trans (setImageStatus_same _ _)
  · exact (applyDefaults_same s).trans (setImageStatus_same _ _)
  · exact ((applyDefaults_same s).trans (captureReport_same _ _)).trans (setImageStatus_same _ _)

theorem applyReload_same (i : ImageOutcome) (s : State) : SameHoldings s (applyReload i s) := by
  have ended := SameHoldings.onLoader s
    (f := fun l => { l with reloadRunning := false, recordsSkipped := 0 }) rfl
  have defaults : ∀ t, SameHoldings t (allActions (defaultSettings t)) := fun t =>
    (SameHoldings.onSettings t _).trans (allActions_same _)
  unfold applyReload
  dsimp only
  split
  · exact ended.trans ((reloadImage_same _ _).trans (setImageStatus_same _ _))
  · exact ended.trans ((defaults _).trans (setImageStatus_same _ _))
  · exact ended.trans ((defaults _).trans ((captureReport_same _ _).trans (setImageStatus_same _ _)))

section
variable {strict : Prop} {s : State}

theorem takeReport_work (r : FaultReport) :
    Work strict Hands.empty s Hands.empty (takeReport r s) := by
  unfold takeReport
  split
  · exact .reset (engineReset_holdsNothing _)
  · exact .same (captureReport_same r s)

theorem announceReset_same (s : State) : SameHoldings s (announceReset s) := by
  unfold announceReset
  split
  · exact (SameHoldings.onFaults s _).trans (.raise _ _ _ _ _ _)
  · exact .refl s

/-- The entry to QUIET out of LOADING (R190). -/
theorem enterQuiet_work {o d : List Nat} (loading : s.loader.part = .loading) :
    Work strict ⟨o, d, none⟩ s ⟨o, d, none⟩ (enterQuiet s) := by
  refine .trans (.enter (fun l => { l with part := .quiet, ready := true }) fun _ run => ?_)
    (.trans (.same (((SameHoldings.raise _ _ _ _ _ _).trans (announceReset_same _)).trans
      ((SameHoldings.onLoader _ rfl).trans (.onFilter _ _))))
      (.trans (followPhy_work .u1) (followPhy_work .u2)))
  exact absurd (loading.symm.trans run) (by decide)

theorem startPresenceTimer_same (s : State) : SameHoldings s (startPresenceTimer s) :=
  .of_eq rfl rfl rfl rfl rfl rfl

theorem enterRun_work {k : Hands} : Work strict k s k (enterRun s) :=
  .trans (.enter (fun l => { l with part := .run, quietTimer := none }) fun _ _ => rfl)
    (.trans (buildPresence_work fun _ => rfl) (.same (startPresenceTimer_same _)))

/-! ### The Intakes (R17, R18, R24 to R26) -/

theorem admitReceived_cases (f : List Octet) (c : TClass) (t : Option TagFields) (s : State) :
    HasRoom f s ∧ admitReceived f c t s = some (lowestHandle s, storeFrame f c t s) ∨
    admitReceived f c t s = none := by
  unfold admitReceived offerStorage
  split
  · next admits => exact .inl ⟨hasRoom_of_admits admits, rfl⟩
  · exact .inr rfl

theorem routeVerdict_work (u : Uplink) {h i : Nat} (v : Verdict) (t : Tag) (w : Walk) (f : List Octet)
    (serves : s.loader.part ≠ .loading) :
    Work strict ⟨[h], [], none⟩ s Hands.empty (routeVerdict u h i v t w f s) := by
  unfold routeVerdict
  split
  · exact .free h
  · split
    · exact .trans (.same (.of_filter (readPresenceBody_filter i w f s) (readPresenceBody_raises i w f s))) (.free h)
    · split
      · split
        · exact serveFrame_work _ w f serves
        · exact .trans (.same (.onPort s _ _)) (.free h)
      · exact .trans (.place h 1 (by omega) (by omega)) (offerBay_work _ _ _)

theorem routeTagged_work (u : Uplink) (t : Tag) (w : Walk) (f : List Octet) (serves : s.loader.part ≠ .loading) :
    Work strict Hands.empty s Hands.empty (routeTagged u t w f s) := by
  unfold routeTagged
  obtain ⟨room, e⟩ | e := admitReceived_cases f t.cls (some (receivedFields t)) s <;> rw [e]
  · have screened : SameHoldings (storeFrame f t.cls (some (receivedFields t)) s) _ :=
      .of_filter (screen_filter t (sourceOf f) _) (screen_raises t (sourceOf f) _)
    refine .trans (.store f t.cls _ room) (.trans (.same screened) (routeVerdict_work u _ t w f ?_))
    rwa [screened.part, (storeFrame_storage _ _ _ s).loader]
  · exact .same (.onPort s _ _)

theorem routeUntagged_work (u : Uplink) (w : Walk) (f : List Octet) :
    Work strict Hands.empty s Hands.empty (routeUntagged u w f s) := by
  unfold routeUntagged
  split
  · exact .same (.onPort s _ _)
  · split
    · exact .same (.onPort s _ _)
    · obtain ⟨room, e⟩ | e := admitReceived_cases f (classify s.settings (w.type f) w.priority) none s <;> rw [e]
      · exact .trans (.store f _ none room) (.trans (.place _ 1 (by omega) (by omega)) (offerBay_work _ _ _))
      · exact .same (.onPort s _ _)

theorem uplinkRouting_work (u : Uplink) (t : Option Tag) (w : Walk) (f : List Octet) :
    Work strict Hands.empty s Hands.empty (uplinkRouting u t w f s) := by
  unfold uplinkRouting
  split
  · exact .same (.onPort s _ _)
  · split
    · exact .refl _ s
    · next serves =>
      split
      · exact routeTagged_work u _ w f serves
      · exact routeUntagged_work u w f

theorem ownPresence_same (u p : Uplink) (s : State) : SameHoldings s (ownPresence u p s) := by
  have noted : ∀ f, SameHoldings s (s.onPresence f) := fun f => .of_eq rfl rfl rfl rfl rfl rfl
  unfold ownPresence
  dsimp only
  split <;> split
  · exact noted _
  · exact (noted _).trans (.raise _ _ _ _ _ _)
  · exact noted _
  · exact (noted _).trans (.raise _ _ _ _ _ _)

theorem takeOwnPresence_same (u : Uplink) (t : Tag) (s : State) : SameHoldings s (takeOwnPresence u t s) := by
  unfold takeOwnPresence
  dsimp only
  split
  · exact .onPort s _ _
  · exact (SameHoldings.onPort s _ _).trans (ownPresence_same _ _ _)

theorem uplinkBody_work (u : Uplink) (w : Walk) (f : List Octet) :
    Work strict Hands.empty s Hands.empty (uplinkBody u w f s) := by
  unfold uplinkBody
  split
  · split
    · exact .same (.onPort s _ _)
    · unfold uplinkTagTests
      split
      · exact .same (takeOwnPresence_same u _ s)
      · split
        · exact .same (.onPort s _ _)
        · exact uplinkRouting_work u _ w f
  · exact uplinkRouting_work u none w f

theorem uplinkIntake_work (u : Uplink) (f : List Octet) :
    Work strict Hands.empty s Hands.empty (uplinkIntake u f s) := by
  refine .trans (t := countReceived (uplinkPort u) s) (.same (.onPort s (uplinkPort u) _)) ?_
  unfold uplinkIntake uplinkTests
  dsimp only
  split
  · exact .same (.onPort _ _ _)
  · split
    · exact .same (.onPort _ _ _)
    · split
      · exact .same (.onPort _ _ _)
      · exact uplinkBody_work u _ f

theorem honorPause_work (w : Walk) (f : List Octet) :
    Work strict Hands.empty s Hands.empty (honorPause w f s) := by
  unfold honorPause
  dsimp only
  split
  · exact .trans (.same (.onPort s _ _)) (takeQuanta_work _)
  · exact .same (.onPort s _ _)

theorem routeBay_work (w : Walk) (f : List Octet) (serves : s.loader.part ≠ .loading) :
    Work strict Hands.empty s Hands.empty (routeBay w f s) := by
  unfold routeBay bayRequest bayFrame
  split
  · split
    · obtain ⟨room, e⟩ | e := admitReceived_cases f .general none s <;> rw [e]
      · refine .trans (.store f .general none room) (serveFrame_work .b w f ?_)
        rwa [(storeFrame_storage _ _ _ s).loader]
      · exact .same (.onPort s _ _)
    · exact .same (.onPort s _ _)
  · obtain ⟨room, e⟩ | e := admitReceived_cases f (classify s.settings (w.type f) w.priority) none s <;> rw [e]
    · refine .trans (.store f _ none room) (pairBayFrame_work _ _ _ fun r live => ?_)
      rw [handleOf_storeFrame, if_pos rfl] at live
      exact (Option.some.inj live) ▸ rfl
    · exact .same (.onPort s _ _)

theorem bayIntake_work (f : List Octet) : Work strict Hands.empty s Hands.empty (bayIntake f s) := by
  refine .trans (t := countReceived .b s) (.same (.onPort s .b _)) ?_
  unfold bayIntake bayTests
  split
  · exact .same (.onPort _ _ _)
  · split
    · exact .same (.onPort _ _ _)
    · split
      · exact .same (.onPort _ _ _)
      · split
        · exact .refl _ _
        · next serves =>
          split
          · exact honorPause_work _ f
          · exact routeBay_work _ f serves

/-! ### The clock -/

theorem UplinkEgress.sending_runDown (e : UplinkEgress) :
    { e with tx := e.tx.map UplinkTx.runDown }.sending = e.sending := by
  simp only [UplinkEgress.sending, Option.map_map, Function.comp_def, UplinkTx.runDown]

theorem BayTx.handle?_runDown (t : BayTx) : t.runDown.handle? = t.handle? := by
  cases t <;> simp only [BayTx.runDown, BayTx.handle?]

theorem BayEgress.sending_runDown (b : BayEgress) (timer : Timer) :
    { b with tx := b.tx.map BayTx.runDown, pauseTimer := timer }.sending = b.sending := by
  rw [BayEgress.sending, BayEgress.sending, Option.bind_map]
  exact congrArg (b.tx.bind ·) (funext BayTx.handle?_runDown)

theorem tick_same (s : State) : SameHoldings s (tick s) where
  blocks := rfl
  handles := rfl
  links u := by cases u <;> rfl
  queues u q := by cases u <;> cases q <;> rfl
  sends u := by
    cases u
    · exact s.u1.sending_runDown
    · exact s.u2.sending_runDown
  bayQueues q := by cases q <;> rfl
  baySends := s.bay.sending_runDown _
  part := rfl
  records := id

theorem idle_work : Work strict Hands.empty s Hands.empty (idle s) := by
  unfold idle
  split
  · exact .refl _ s
  · split
    · next r rest _ =>
      exact .trans (.same (t := { s with reports := rest }) (.of_eq rfl rfl rfl rfl rfl rfl))
        (.trans (takeReport_work r) finish_work)
    · exact .same (tick_same s)

end

/-! ### Commands -/

section
variable {strict : Prop} {s t : State}

theorem outOfReset_work (w : Work strict Hands.empty s Hands.empty t) :
    Work strict Hands.empty s Hands.empty (outOfReset s (finish t)) := by
  unfold outOfReset
  split
  · exact .trans w finish_work
  · exact .refl _ s

theorem whenServing_work {v : State} (idle : Work strict Hands.empty s Hands.empty t)
    (w : Work strict Hands.empty t Hands.empty v) :
    Work strict Hands.empty s Hands.empty (whenServing t (finish v)) := by
  unfold whenServing
  split
  · exact .trans idle (.trans w finish_work)
  · exact idle

theorem whileRunning_work (timer : Timer) (w : timer.isSome = true → Work strict Hands.empty s Hands.empty t) :
    Work strict Hands.empty s Hands.empty (whileRunning timer s (finish t)) := by
  unfold whileRunning
  split
  · next runs => exact outOfReset_work (w runs)
  · exact .refl _ s

theorem setPhy_same (u : Uplink) (up : Bool) (s : State) : SameHoldings s (setPhy u up s) :=
  .onUplink u ⟨rfl, fun q => by cases q <;> rfl, rfl⟩

theorem visitOriginCursor_same (s : State) : SameHoldings s (visitOriginCursor s) :=
  (SameHoldings.of_pairing (visitOrigin_pairing _ s)).trans (.onFilter _ _)

theorem scanTables_same (s : State) : SameHoldings s (scanTables s) :=
  ((SameHoldings.onFilter s _).trans (.of_filter (visitBucket_filter _) (visitBucket_raises _))).trans
    (visitOriginCursor_same _)

theorem refreshPause_same (s : State) : SameHoldings s (refreshPause s) :=
  SameHoldings.trans (t := s.onPause fun p => { p with refresh := some (refreshTime s) })
    (.of_eq rfl rfl rfl rfl rfl rfl) (.makePausePending 65535 _)

/-- The release from chip reset enters LOADING out of LOADING (R185). -/
theorem releaseReset_work (straps : Straps) (part : strict → PartInv s) (low : ¬ s.resetN = true) :
    Work strict Hands.empty s Hands.empty (releaseReset straps s) := by
  refine .trans (.enter (fun l =>
    { l with
      straps := straps, part := .loading, ready := false, stationAddress := defaultStationAddress straps })
    fun on run => ?_) (.same (.of_eq rfl rfl rfl rfl rfl rfl))
  have loading := (part on).2.1 (by simpa using low)
  exact absurd (loading.symm.trans run) (by decide)

theorem request_work (k : ReqKind) (r : Request) :
    Work strict Hands.empty s Hands.empty (whenServing s (finish (serve k r s))) :=
  whenServing_work (.refl _ s) (serve_work k r s)

/-- Every command is a chain of operations (R16, R28). -/
theorem exec_work (part : strict → PartInv s) (c : Instr) (next : exec c s = .next t) :
    Work strict Hands.empty s Hands.empty t := by
  cases c <;> obtain rfl := Host.Outcome.next.inj next
  case chipReset => exact .reset (chipReset_holdsNothing s)
  case chipResetRelease straps =>
    split
    · exact .refl _ s
    · next low => exact releaseReset_work straps part low
  case uplinkArrival u f => exact outOfReset_work (uplinkIntake_work u f)
  case bayArrival f => exact outOfReset_work (bayIntake_work f)
  case linkStateDown u => exact whenServing_work (.same (setPhy_same u false s)) (followPhy_work u)
  case linkStateUp u => exact whenServing_work (.same (setPhy_same u true s)) (followPhy_work u)
  case pauseRefreshTimerExpiry => exact whileRunning_work _ fun _ => .same (refreshPause_same s)
  case receivedPauseTimerExpiry => exact whileRunning_work _ fun _ => .same (endHold_same s)
  case tableScannerTimerExpiry => exact whileRunning_work _ fun _ => .same (scanTables_same s)
  case presenceTimerExpiry =>
    exact whileRunning_work _ fun runs =>
      .trans (buildPresence_work fun on => (part on).2.2.2 runs) (.same (startPresenceTimer_same _))
  case noticeTimerExpiry => exact whileRunning_work _ fun _ => .same (.onNotices s id)
  case quietTimerExpiry => exact whileRunning_work _ fun _ => enterRun_work
  case loadEnd eeprom =>
    split
    · next loading =>
      have loaded := applyLoad_same (readImage s.loader.straps eeprom) s
      exact outOfReset_work (.trans (.same loaded) (enterQuiet_work (loaded.part.trans loading)))
    · exact .refl _ s
  case reloadEnd eeprom =>
    split
    · exact whenServing_work (.refl _ s) (.same (applyReload_same _ s))
    · exact .refl _ s
  case uplinkTransmissionComplete u =>
    split
    · next sends => exact outOfReset_work (completeCopy_work sends)
    · exact .refl _ s
  case bayTransmissionComplete =>
    split
    · next sends => exact outOfReset_work (completeBay_work sends)
    · exact .refl _ s
  case pauseFrameComplete =>
    split
    · next sends => exact outOfReset_work (.same (completePause_same sends))
    · exact .refl _ s
  case faultReport r =>
    exact outOfReset_work (.trans
      (.same (t := { s with reports := s.reports.erase r }) (.of_eq rfl rfl rfl rfl rfl rfl)) (takeReport_work r))
  case read r => exact request_work .read r
  case write r => exact request_work .write r
  case entryRead r => exact request_work .entryRead r
  case entryPin r => exact request_work .entryPin r
  case entryUnpin r => exact request_work .entryUnpin r
  case entryRemove r => exact request_work .entryRemove r
  case originRead r => exact request_work .originRead r
  case originPin r => exact request_work .originPin r
  case originRemove r => exact request_work .originRemove r
  case slotStage r => exact request_work .slotStage r
  case slotApply r => exact request_work .slotApply r
  case inject r => exact request_work .inject r
  case faultAck r => exact request_work .faultAck r
  case clearCounters r => exact request_work .clearCounters r
  case flushTable r => exact request_work .flushTable r
  case reload r => exact request_work .reload r
  case resetPort r => exact request_work .reset r
  case resetEngine r => exact request_work .reset r

/-- Every step is a chain of operations. -/
theorem step_work (part : strict → PartInv s) (next : step s = .next t) :
    Work strict Hands.empty s Hands.empty t := by
  unfold step at next
  split at next
  · next c rest _ =>
    exact .trans (.same (t := { s with pending := rest }) (.of_eq rfl rfl rfl rfl rfl rfl)) (exec_work part c next)
  · obtain rfl := Host.Outcome.next.inj next
    exact idle_work

end

/-! ### Pools, queues, links, blocks, references and replies -/

/-- Settles O56: every step is a chain of operations, and each of them keeps the pools' form, the queues' bounds and
the rule of DOWN uplinks. -/
theorem poolsAndQueuesKeepTheirBounds : Obligations.PoolsAndQueuesKeepTheirBounds := by
  unfold Obligations.PoolsAndQueuesKeepTheirBounds
  intro s t ⟨store, queues, links⟩ next
  have chain : Work False Hands.empty s Hands.empty t := step_work False.elim next
  exact ⟨chain.keeps_store store, chain.keeps_queues queues,
    (linkInv_iff t).mpr (chain.keeps_links ((linkInv_iff s).mp links))⟩

/-- Settles O57: the chain of a step keeps whose the blocks are, counts each reference with those it has in hand,
and lets outside RUN only untagged frames and replies join an uplink's queue. -/
theorem referencesNameWhatIsQueued : Obligations.ReferencesNameWhatIsQueued := by
  unfold Obligations.ReferencesNameWhatIsQueued
  refine ⟨fun s t store blocks refs next => ?_, fun s t ⟨part, _⟩ ⟨store, _⟩ blocks refs replies next => ?_⟩
  · have chain : Work False Hands.empty s Hands.empty t := step_work False.elim next
    exact ⟨(blockInv_iff (chain.keeps_store store)).mpr (chain.keeps_blocks store ((blockInv_iff store).mp blocks)),
      (refInv_iff t).mpr (chain.keeps_refs ((refInv_iff s).mp refs))⟩
  · have chain : Work True Hands.empty s Hands.empty t := step_work (fun _ => part) next
    exact (uplinksReply_iff t).mp (chain.keeps_replies trivial store ((blockInv_iff store).mp blocks)
      ((refInv_iff s).mp refs) ((uplinksReply_iff s).mpr replies))

end Sys2Proof.Machine

/-! SUPPORT. The screening of a held Bay Egress (R157, R158): what one queue's screening leaves, what all three
leave, and what a quanta value does. -/

namespace Sys2Proof.Machine

/-! ### The hold beside storage -/

/-- From `s` to `x` the hold of the Bay Egress and B's counters but Pauses Sent are the same. -/
def HoldKept (s x : State) : Prop :=
  x.bay.held = s.bay.held ∧ x.bay.pauseTimer = s.bay.pauseTimer ∧
  x.portB = { s.portB with pausesSent := x.portB.pausesSent }

theorem HoldKept.refl (s : State) : HoldKept s s := ⟨rfl, rfl, rfl⟩

theorem HoldKept.of_eq {s x : State} (bay : x.bay = s.bay) (port : x.portB = s.portB) : HoldKept s x :=
  ⟨by rw [bay], by rw [bay], by rw [port]⟩

theorem HoldKept.trans {s x y : State} (a : HoldKept s x) (b : HoldKept x y) : HoldKept s y := by
  obtain ⟨held, timer, port⟩ := a
  obtain ⟨held', timer', port'⟩ := b
  refine ⟨held'.trans held, timer'.trans timer, ?_⟩
  rw [port', port]

theorem makePausePending_holdKept (q : BitVec 16) (s : State) : HoldKept s (makePausePending q s) := by
  unfold makePausePending startPause
  split
  · exact ⟨rfl, rfl, rfl⟩
  · exact .of_eq rfl rfl

theorem pauseTest_holdKept (s : State) : HoldKept s (pauseTest s) := by
  have pending : ∀ f q, HoldKept s (makePausePending q (s.onPause f)) := fun f q =>
    HoldKept.trans (x := s.onPause f) (.of_eq rfl rfl) (makePausePending_holdKept q _)
  unfold pauseTest assertPause releasePause
  split
  · split
    · exact pending _ _
    · split
      · exact pending _ _
      · exact .refl s
  · exact .refl s

theorem writeHandle_holdKept (h : Nat) (f : Handle → Handle) (s : State) : HoldKept s (writeHandle h f s) := by
  unfold writeHandle
  split <;> exact .of_eq rfl rfl

theorem freeHandle_holdKept (h : Nat) (s : State) : HoldKept s (freeHandle h s) :=
  HoldKept.trans (.of_eq rfl rfl) (pauseTest_holdKept _)

theorem release_holdKept (p : Option Port) (h : Nat) (s : State) : HoldKept s (release p h s) := by
  obtain ⟨_, e⟩ | ⟨r, _, ⟨_, e⟩ | ⟨_, _, e⟩ | ⟨_, _, _, e⟩ | ⟨_, _, _, e⟩⟩ := release_cases p h s <;> rw [e]
  · exact .refl s
  · exact .refl s
  · exact .of_eq rfl rfl
  · exact freeHandle_holdKept h s
  · exact writeHandle_holdKept h _ s

/-! ### References dropped -/

/-- From `s` to `x` the references of `l` have been released: the handles it does not name are kept, none is made
or becomes younger, and one that held and had no other reference is free (R32). -/
structure Dropped (l : List Nat) (s x : State) : Prop where
  kept  : ∀ h, h ∉ l → handleOf x h = handleOf s h
  older : ∀ h r, handleOf x h = some r → ∃ g, handleOf s h = some g ∧ g.arrival = r.arrival
  freed : ∀ h ∈ l, ∀ r, handleOf s h = some r → r.quarantined = false → r.check = 0 → r.refs ≤ 1 →
    handleOf x h = none

theorem Dropped.of_store {s x : State} (same : x.store = s.store) : Dropped [] s x :=
  ⟨fun h _ => handleOf_of_store same h, fun h r live => ⟨r, (handleOf_of_store same h).symm.trans live, rfl⟩,
    fun _ mem => absurd mem (by simp)⟩

theorem Dropped.trans {l m : List Nat} {s x y : State} (a : Dropped l s x) (b : Dropped m x y) :
    Dropped (l ++ m) s y where
  kept h not := by
    rw [List.mem_append, not_or] at not
    exact (b.kept h not.2).trans (a.kept h not.1)
  older h r live := by
    obtain ⟨g, was, age⟩ := b.older h r live
    obtain ⟨k, was', age'⟩ := a.older h g was
    exact ⟨k, was', age'.trans age⟩
  freed h mem r live q c last := by
    by_cases first : h ∈ l
    · refine Option.eq_none_iff_forall_ne_some.mpr fun k still => ?_
      obtain ⟨g, was, _⟩ := b.older h k still
      rw [a.freed h first r live q c last] at was
      exact absurd was (by simp)
    · exact b.freed h ((List.mem_append.mp mem).resolve_left first) r ((a.kept h first).trans live) q c last

theorem release_dropped (p : Option Port) (h : Nat) (s : State) : Dropped [h] s (release p h s) where
  kept n not := handleOf_release_ne p s (by simpa using not)
  older n r live := by
    by_cases same : n = h
    · subst same
      obtain ⟨_, e⟩ | ⟨g, was, ⟨_, e⟩ | ⟨_, _, e⟩ | ⟨_, _, _, e⟩ | ⟨_, _, _, e⟩⟩ := release_cases p n s <;>
        rw [e] at live
      · exact ⟨r, live, rfl⟩
      · exact ⟨r, live, rfl⟩
      · rw [handleOf_quarantineHandle, if_pos rfl, was] at live
        exact ⟨g, was, by rw [← Option.some.inj live]⟩
      · simp [handleOf_freeHandle] at live
      · rw [handleOf_writeHandle, if_pos rfl, was] at live
        exact ⟨g, was, by rw [← Option.some.inj live]⟩
    · rw [handleOf_release_ne p s same] at live
      exact ⟨r, live, rfl⟩
  freed n mem r live q c last := by
    obtain rfl := List.mem_singleton.mp mem
    rw [release_last live q c last, handleOf_freeHandle, if_pos rfl]

/-! ### One queue screened -/

/-- What the screening of one bay queue leaves: the entries `d` are gone from its front, each aged, counted under
Residence Drops, and their references released (R158). -/
structure Drained (q : BayQueue) (d : List QueueEntry) (s x : State) : Prop where
  storage : OnlyStorage s x
  hold    : HoldKept s x
  queue   : s.bay.queue q =
    { x.bay.queue q with
      entries := d ++ (x.bay.queue q).entries
      residenceDrops := (s.bay.queue q).residenceDrops }
  counted : (x.bay.queue q).residenceDrops = (s.bay.queue q).residenceDrops + BitVec.ofNat 32 d.length
  others  : ∀ n, n ≠ q → x.bay.queue n = s.bay.queue n
  dropped : Dropped (d.map QueueEntry.handle) s x
  aged    : ∀ e ∈ d, ∃ r, handleOf s e.handle = some r ∧ BayAged s q r

/-- The head that is left is young enough (R158). -/
def HeadYoung (q : BayQueue) (x : State) : Prop :=
  ∀ e r, (x.bay.queue q).entries.head? = some e → handleOf x e.handle = some r → ¬ BayAged x q r

theorem Drained.refl (q : BayQueue) (s : State) : Drained q [] s s :=
  ⟨.refl s, .refl s, rfl, by simp, fun _ _ => rfl, .of_store rfl, fun _ mem => absurd mem (by simp)⟩

theorem bayAged_iff {s x : State} (only : OnlyStorage s x) (q : BayQueue) {r g : Handle}
    (same : g.arrival = r.arrival) : BayAged x q r ↔ BayAged s q g := by
  rw [BayAged, BayAged, only.settings, only.stationTime, same]

/-- The state as R158 leaves it after one head has been dropped. -/
def dropHead (q : BayQueue) (e : QueueEntry) (s : State) : State :=
  countBayResidence q (release (some .b) e.handle (s.onBay fun b => b.onQueue q Queue.pop))

theorem countBayResidence_storage (q : BayQueue) (s : State) : OnlyStorage s (countBayResidence q s) :=
  onBay_storage _ s

theorem dropHead_drained {q : BayQueue} {e : QueueEntry} {rest : List QueueEntry} {s : State} {r : Handle}
    (head : (s.bay.queue q).entries = e :: rest) (live : handleOf s e.handle = some r) (old : BayAged s q r) :
    Drained q [e] s (dropHead q e s) where
  storage := ((onBay_storage _ s).trans (release_storage _ _ _)).trans (countBayResidence_storage q _)
  hold := by
    have popped : HoldKept s (s.onBay fun b => b.onQueue q Queue.pop) := by cases q <;> exact ⟨rfl, rfl, rfl⟩
    have counted : ∀ x : State, HoldKept x (countBayResidence q x) := fun x => by
      cases q <;> exact ⟨rfl, rfl, rfl⟩
    exact (popped.trans (release_holdKept _ _ _)).trans (counted _)
  queue := by
    have whole : (s.bay.queue q) = { s.bay.queue q with entries := e :: rest } := by rw [← head]
    rw [whole]
    simp [dropHead, countBayResidence, Queue.countResidence, Queue.pop, head]
  counted := by simp [dropHead, countBayResidence, Queue.countResidence, Queue.pop]
  others n hn := by simp [dropHead, countBayResidence, BayEgress.queue_onQueue_ne _ _ hn]
  dropped :=
    ((Dropped.of_store (State.onBay_store s _)).trans (release_dropped (some .b) e.handle _)).trans
      (.of_store (State.onBay_store _ _))
  aged n mem := by
    obtain rfl := List.mem_singleton.mp mem
    exact ⟨r, live, old⟩

theorem Drained.trans {q : BayQueue} {c d : List QueueEntry} {s x y : State} (a : Drained q c s x)
    (b : Drained q d x y) : Drained q (c ++ d) s y where
  storage := a.storage.trans b.storage
  hold := a.hold.trans b.hold
  queue := by
    rw [a.queue, b.queue]
    simp
  counted := by
    rw [b.counted, a.counted, List.length_append, BitVec.ofNat_add, BitVec.add_assoc]
  others n hn := (b.others n hn).trans (a.others n hn)
  dropped := by
    rw [List.map_append]
    exact a.dropped.trans b.dropped
  aged e mem := by
    obtain first | second := List.mem_append.mp mem
    · exact a.aged e first
    · obtain ⟨r, live, old⟩ := b.aged e second
      obtain ⟨g, was, same⟩ := a.dropped.older _ r live
      exact ⟨g, was, (bayAged_iff a.storage q same).mp old⟩

theorem heldScreens_drained (q : BayQueue) (n : Nat) (s : State) (fuel : (s.bay.queue q).entries.length < n) :
    ∃ d, Drained q d s (heldScreens q n s) ∧ HeadYoung q (heldScreens q n s) := by
  induction n generalizing s with
  | zero => exact absurd fuel (by simp)
  | succ n again =>
    unfold heldScreens
    split
    · next none =>
      exact ⟨[], .refl q s, fun e r head => absurd head (by simp [none])⟩
    · next e rest head =>
      have first : ∀ k r, (s.bay.queue q).entries.head? = some k → handleOf s k.handle = some r →
          handleOf s e.handle = some r := fun k r same live => by
        rw [head] at same
        exact (Option.some.inj same) ▸ live
      split
      · next gone =>
        exact ⟨[], .refl q s, fun k r same live => absurd (first k r same live) (by simp [gone])⟩
      · next r live =>
        split
        · next old =>
          have one := dropHead_drained head live old
          have shorter : ((dropHead q e s).bay.queue q).entries.length < n := by
            have whole := congrArg (fun x => x.entries.length) one.queue
            simp only [List.length_append, List.length_singleton] at whole
            omega
          obtain ⟨d, more, young⟩ := again (dropHead q e s) shorter
          exact ⟨[e] ++ d, one.trans more, young⟩
        · next young =>
          refine ⟨[], .refl q s, fun k g same found => ?_⟩
          rw [live] at first
          exact Option.some.inj (first k g same found) ▸ young

theorem heldScreen_drained (q : BayQueue) (s : State) :
    ∃ d, Drained q d s (heldScreen q s) ∧ HeadYoung q (heldScreen q s) :=
  heldScreens_drained q _ s (Nat.lt_succ_self _)

/-! ### All three queues screened -/

/-- What R158 leaves of the bay queues and the handles, in the terms of the statement. -/
def HeldScreened (s x : State) : Prop :=
  ∃ d1 d2 d3, ScreenedHeld s x .event d1 ∧ ScreenedHeld s x .timing d2 ∧ ScreenedHeld s x .stream d3 ∧
    x.bay.service = s.bay.service ∧ x.bay.general = s.bay.general ∧
    (∀ h, (∀ e, e ∈ d1 ++ d2 ++ d3 → e.handle ≠ h) → handleOf x h = handleOf s h) ∧
    ∀ e r, e ∈ d1 ++ d2 ++ d3 → handleOf s e.handle = some r → r.quarantined = false →
      r.check = 0 → r.refs ≤ 1 → handleOf x e.handle = none

/-- The screening of one queue, between what comes before it and after it on other queues. -/
theorem Drained.screenedHeld {q : BayQueue} {d : List QueueEntry} {b c : List Nat} {s v w x : State}
    (before : OnlyStorage s v) (dropped : Dropped b s v) (early : v.bay.queue q = s.bay.queue q)
    (drained : Drained q d v w) (young : HeadYoung q w)
    (more : Dropped c w x) (late : x.bay.queue q = w.bay.queue q) :
    ScreenedHeld s x q d := by
  have queue := drained.queue
  have counted := drained.counted
  rw [← late, early] at queue counted
  refine ⟨congrArg Queue.entries queue, counted, (congrArg Queue.drops queue).symm,
    (congrArg Queue.overflow queue).symm, fun e mem => ?_, fun e r head live old => ?_⟩
  · obtain ⟨r, live, old⟩ := drained.aged e mem
    obtain ⟨g, was, same⟩ := dropped.older _ r live
    exact ⟨g, was, (bayAged_iff before q same).mp old⟩
  · rw [late] at head
    obtain ⟨g, was, same⟩ := more.older _ r live
    refine young e g head was ?_
    rwa [bayAged_iff (before.trans drained.storage) q same.symm]

theorem screenHeld_screened (s : State) :
    HeldScreened s (screenHeld s) ∧ HoldKept s (screenHeld s) := by
  obtain ⟨d1, one, young1⟩ := heldScreen_drained .event s
  obtain ⟨d2, two, young2⟩ := heldScreen_drained .timing (heldScreen .event s)
  obtain ⟨d3, three, young3⟩ := heldScreen_drained .stream (heldScreen .timing (heldScreen .event s))
  have all := (one.dropped.trans two.dropped).trans three.dropped
  rw [← List.map_append, ← List.map_append] at all
  refine ⟨⟨d1, d2, d3, ?_, ?_, ?_, ?_, ?_, fun h not => ?_, fun e r mem => ?_⟩,
    (one.hold.trans two.hold).trans three.hold⟩
  · exact one.screenedHeld (.refl s) (.of_store rfl) rfl young1
      (two.dropped.trans three.dropped)
      ((three.others .event (by decide)).trans (two.others .event (by decide)))
  · exact two.screenedHeld one.storage one.dropped (one.others .timing (by decide)) young2
      three.dropped (three.others .timing (by decide))
  · exact three.screenedHeld (one.storage.trans two.storage) (one.dropped.trans two.dropped)
      ((two.others .stream (by decide)).trans (one.others .stream (by decide))) young3 (.of_store rfl) rfl
  · exact (three.others .service (by decide)).trans
      ((two.others .service (by decide)).trans (one.others .service (by decide)))
  · exact (three.others .general (by decide)).trans
      ((two.others .general (by decide)).trans (one.others .general (by decide)))
  · refine all.kept h fun mem => ?_
    obtain ⟨e, there, same⟩ := List.mem_map.mp mem
    exact not e there same
  · exact all.freed e.handle (List.mem_map_of_mem mem) r

/-- The screening looks at the bay queues, the handles, the settings and the time alone. -/
theorem HeldScreened.congr {s t x y : State} (screened : HeldScreened s x)
    (from_queues : ∀ q, s.bay.queue q = t.bay.queue q) (from_handles : ∀ h, handleOf s h = handleOf t h)
    (settings : s.settings = t.settings) (time : s.stationTime = t.stationTime)
    (to_queues : ∀ q, x.bay.queue q = y.bay.queue q) (to_handles : ∀ h, handleOf x h = handleOf y h) :
    HeldScreened t y := by
  have service := from_queues .service
  have general := from_queues .general
  have service' := to_queues .service
  have general' := to_queues .general
  simp only [BayEgress.queue] at service general service' general'
  simpa only [HeldScreened, ScreenedHeld, BayAged, from_queues, from_handles, settings, time, to_queues, to_handles,
    service, general, service', general'] using screened

end Sys2Proof.Machine

/-! SUPPORT. Arrivals that stop at the Intake (R16 to R21, R26, R27, R105, R157): each test that stops one, and the
statement. -/

namespace Sys2Proof.Machine

/-! ### The tests of R17 that stop a frame -/

section
variable {u : Uplink} {f : List Octet} {s : State}

theorem uplinkTests_fcs (bad : fcsGood f = false) : uplinkTests u f s = countFcsError (uplinkPort u) s := by
  simp [uplinkTests, bad]

theorem uplinkTests_length (good : fcsGood f = true)
    (length : f.length < 64 ∨ uplinkMaxLength (walkUplink s.settings.tagMarker f) < f.length) :
    uplinkTests u f s = countLengthError (uplinkPort u) s := by
  simp [uplinkTests, good, length]

theorem uplinkTests_pause (good : fcsGood f = true) (short : 64 ≤ f.length)
    (long : f.length ≤ uplinkMaxLength (walkUplink s.settings.tagMarker f))
    (pause : isPause (walkUplink s.settings.tagMarker f) f = true) :
    uplinkTests u f s =
      s.onPort (uplinkPort u) fun k => { k with pauseDiscards := k.pauseDiscards + 1 } := by
  simp [uplinkTests, good, Nat.not_lt.mpr short, Nat.not_lt.mpr long, pause]

theorem uplinkTests_body (good : fcsGood f = true) (short : 64 ≤ f.length)
    (long : f.length ≤ uplinkMaxLength (walkUplink s.settings.tagMarker f))
    (pause : isPause (walkUplink s.settings.tagMarker f) f = false) :
    uplinkTests u f s = uplinkBody u (walkUplink s.settings.tagMarker f) f s := by
  simp [uplinkTests, good, Nat.not_lt.mpr short, Nat.not_lt.mpr long, pause]

theorem le_uplinkMaxLength {w : Walk} (long : f.length ≤ 1522) : f.length ≤ uplinkMaxLength w := by
  unfold uplinkMaxLength
  split <;> omega

theorem uplinkMaxLength_tagged {w : Walk} (tagged : w.tagged = true) : uplinkMaxLength w = 1528 := by
  simp [uplinkMaxLength, tagged]

variable {w : Walk} {t : Tag}

theorem uplinkBody_tagError (tagged : w.tagged = true)
    (wrong : (readTag f).valid (w.type f) s.settings.presenceMarker = none) :
    uplinkBody u w f s = s.onPort (uplinkPort u) fun k => { k with tagErrors := k.tagErrors + 1 } := by
  simp [uplinkBody, tagged, wrong]

theorem uplinkBody_tagged (tagged : w.tagged = true)
    (valid : (readTag f).valid (w.type f) s.settings.presenceMarker = some t) :
    uplinkBody u w f s = uplinkTagTests u t w f s := by
  simp [uplinkBody, tagged, valid]

theorem uplinkBody_untagged (untagged : w.tagged = false) :
    uplinkBody u w f s = uplinkRouting u none w f s := by
  simp [uplinkBody, untagged]

theorem isOwnPresence_iff : isOwnPresence s t w f = true ↔
    t.cls = .presence ∧ presenceIdentity w f = s.loader.stationAddress := by
  simp [isOwnPresence]

theorem uplinkTagTests_own (cls : t.cls = .presence) (own : presenceIdentity w f = s.loader.stationAddress) :
    uplinkTagTests u t w f s = takeOwnPresence u t s := by
  rw [uplinkTagTests, if_pos (isOwnPresence_iff.mpr ⟨cls, own⟩)]

theorem uplinkTagTests_path (other : t.cls = .presence → presenceIdentity w f ≠ s.loader.stationAddress)
    (path : t.path ≠ u) :
    uplinkTagTests u t w f s = s.onPort (uplinkPort u) fun k =>
      { k with tagErrors := k.tagErrors + 1, pathMismatch := k.pathMismatch + 1 } := by
  rw [uplinkTagTests, if_neg fun own => (isOwnPresence_iff.mp own).elim other, if_pos path]

theorem uplinkTagTests_routed (other : t.cls = .presence → presenceIdentity w f ≠ s.loader.stationAddress)
    (path : t.path = u) : uplinkTagTests u t w f s = uplinkRouting u (some t) w f s := by
  rw [uplinkTagTests, if_neg fun own => (isOwnPresence_iff.mp own).elim other, if_neg (not_not_intro path)]

theorem isOwnOrigin_eq_true {a : Address} (held : ∃ i e, (i, e) ∈ s.pairing.entries ∧ e.addr = a) :
    isOwnOrigin s a = true := by
  obtain ⟨i, e, mem, same⟩ := held
  exact List.any_eq_true.mpr ⟨(i, e), mem, by simp [same]⟩

theorem uplinkRouting_ownOrigin (held : ∃ i e, (i, e) ∈ s.pairing.entries ∧ e.addr = sourceOf f)
    (tag : Option Tag) :
    uplinkRouting u tag w f s = s.onPort (uplinkPort u) fun k => { k with ownOrigin := k.ownOrigin + 1 } := by
  simp [uplinkRouting, isOwnOrigin_eq_true held]

theorem uplinkRouting_loading (foreign : ∀ i e, (i, e) ∈ s.pairing.entries → e.addr ≠ sourceOf f)
    (loading : s.loader.part = .loading) (tag : Option Tag) : uplinkRouting u tag w f s = s := by
  simp [uplinkRouting, isOwnOrigin_eq_false foreign, loading]

/-- A frame that passes tests 1 to 6 of R17, tagged or not, is routed. -/
theorem uplinkTests_routed (passes : (∃ t, TagPasses u f t s) ∨ UntaggedPasses f s) :
    ∃ t, uplinkTests u f s = uplinkRouting u t (walkUplink s.settings.tagMarker f) f s := by
  obtain ⟨t, good, short, long, tagged, pause, valid, path, own⟩ | ⟨good, short, long, untagged, pause⟩ := passes
  · refine ⟨some t, ?_⟩
    rw [uplinkTests_body good short (by rwa [uplinkMaxLength_tagged tagged]) pause, uplinkBody_tagged tagged valid,
      uplinkTagTests_routed own path]
  · refine ⟨none, ?_⟩
    rw [uplinkTests_body good short (le_uplinkMaxLength long) pause, uplinkBody_untagged untagged]

end

/-! ### The part's own presence frames (R19, R105) -/

section
variable {u p : Uplink} {s : State}

theorem PresenceUnit.own_onOwn (n : PresenceUnit) (u : Uplink) (f : OwnPresence → OwnPresence) :
    (n.onOwn u f).own u = f (n.own u) := by cases u <;> rfl

theorem PresenceUnit.own_onOwn_other (n : PresenceUnit) (u : Uplink) (f : OwnPresence → OwnPresence) :
    (n.onOwn u f).own (other u) = n.own (other u) := by cases u <;> rfl

theorem ownPresence_only (u p : Uplink) (s : State) : ownPresence u p s =
    { s with presence := (ownPresence u p s).presence, notices := (ownPresence u p s).notices } := by
  unfold ownPresence
  dsimp only
  split <;> split <;> rfl

theorem ownPresence_other (u p : Uplink) (s : State) :
    (ownPresence u p s).presence.own (other u) = s.presence.own (other u) := by
  unfold ownPresence
  dsimp only
  split <;> split <;> exact PresenceUnit.own_onOwn_other _ _ _

/-- The part's own presence frame, back on its own uplink (R105). -/
theorem ownPresence_loop (same : p = u) :
    (ownPresence u p s).presence.own u =
      { s.presence.own u with loopRaised := true, loopLastSeen := some s.stationTime } ∧
    ((s.presence.own u).loopRaised = true → (ownPresence u p s).notices = s.notices) ∧
    ((s.presence.own u).loopRaised = false → (ownPresence u p s).notices = s.notices.add
      { kind := .loop, whr := BitVec.ofNat 8 (pathNumber u), cls := 0xFF, detail := 0, addr := 0,
        time := s.stationTime }) := by
  unfold ownPresence
  rw [if_pos same]
  dsimp only
  split
  · next set => exact ⟨PresenceUnit.own_onOwn _ _ _, fun _ => rfl, fun clear => by simp [set] at clear⟩
  · next clear => exact ⟨PresenceUnit.own_onOwn _ _ _, fun set => absurd set clear, fun _ => rfl⟩

/-- The part's own presence frame on the other uplink (R105). -/
theorem ownPresence_joined (differ : p ≠ u) :
    (ownPresence u p s).presence.own u =
      { s.presence.own u with joinedRaised := true, joinedLastSeen := some s.stationTime } ∧
    ((s.presence.own u).joinedRaised = true → (ownPresence u p s).notices = s.notices) ∧
    ((s.presence.own u).joinedRaised = false → (ownPresence u p s).notices = s.notices.add
      { kind := .networksJoined, whr := BitVec.ofNat 8 (pathNumber u), cls := 0xFF, detail := 0, addr := 0,
        time := s.stationTime }) := by
  unfold ownPresence
  rw [if_neg differ]
  dsimp only
  split
  · next set => exact ⟨PresenceUnit.own_onOwn _ _ _, fun _ => rfl, fun clear => by simp [set] at clear⟩
  · next clear => exact ⟨PresenceUnit.own_onOwn _ _ _, fun set => absurd set clear, fun _ => rfl⟩

/-- A state in which only an uplink's port counters have changed since `s`, and then presence and notices. -/
theorem onPort_presence_notices (u : Uplink) (s : State) (g : PortCounters → PortCounters) (n : PresenceUnit)
    (l : Notices) : { s.onPort (uplinkPort u) g with presence := n, notices := l } =
      { s with
        portU1 := (s.onPort (uplinkPort u) g).portU1, portU2 := (s.onPort (uplinkPort u) g).portU2
        presence := n, notices := l } := by cases u <;> rfl

end

/-! ### Pause frames on B (R21, R157, R158) -/

theorem takeQuanta_begins {q : BitVec 16} (more : q ≠ 0) (s : State) :
    takeQuanta q s = screenHeld (beginHold q s) := if_neg more

theorem takeQuanta_ends {s : State} (held : s.bay.held = true) : takeQuanta 0 s = endHold (screenHeld s) := by
  simp [takeQuanta, held]

theorem beginHold_queue (q : BitVec 16) (s : State) (n : BayQueue) :
    (beginHold q s).bay.queue n = s.bay.queue n := by cases n <;> rfl

theorem endHold_queue (s : State) (n : BayQueue) : (endHold s).bay.queue n = s.bay.queue n := by
  cases n <;> rfl

/-- Quanta that are not 0 begin a hold and screen (R157, R158). -/
theorem takeQuanta_hold {q : BitVec 16} (more : q ≠ 0) (s : State) :
    (takeQuanta q s).bay.held = true ∧
    (takeQuanta q s).portB.pauseHolds = s.portB.pauseHolds + 1 ∧
    (takeQuanta q s).bay.pauseTimer =
      some (q.toNat * 64 * (if s.loader.straps.bay1000 then 8 else 80)) ∧
    HeldScreened s (takeQuanta q s) := by
  obtain ⟨screened, held, timer, port⟩ := screenHeld_screened (beginHold q s)
  rw [takeQuanta_begins more]
  refine ⟨held, by rw [port]; rfl, timer, screened.congr (beginHold_queue q s) (fun _ => rfl) rfl rfl
    (fun _ => rfl) fun _ => rfl⟩

/-- Quanta 0 that find a hold screen and then end it (R157, R158, log 36). -/
theorem takeQuanta_zero_screened {s : State} (held : s.bay.held = true) : HeldScreened s (takeQuanta 0 s) := by
  obtain ⟨screened, _⟩ := screenHeld_screened s
  rw [takeQuanta_ends held]
  exact screened.congr (fun _ => rfl) (fun _ => rfl) rfl rfl (fun n => (endHold_queue _ n).symm) fun _ => rfl

theorem takeQuanta_portB (q : BitVec 16) (s : State) :
    (takeQuanta q s).portB.framesReceived = s.portB.framesReceived ∧
    (takeQuanta q s).portB.pauseReceived = s.portB.pauseReceived ∧
    (q = 0 → (takeQuanta q s).portB.pauseHolds = s.portB.pauseHolds) := by
  by_cases zero : q = 0
  · subst zero
    cases held : s.bay.held
    · rw [takeQuanta_zero_of_not_held held]
      exact ⟨rfl, rfl, fun _ => rfl⟩
    · obtain ⟨_, _, _, port⟩ := screenHeld_screened s
      rw [takeQuanta_ends held, endHold, State.onBay_portB, port]
      exact ⟨rfl, rfl, fun _ => rfl⟩
  · obtain ⟨_, _, _, port⟩ := screenHeld_screened (beginHold q s)
    rw [takeQuanta_begins zero, port]
    exact ⟨rfl, rfl, fun h => absurd h zero⟩

/-! ### The tests of R18 that stop a frame -/

section
variable {f : List Octet} {s : State}

theorem bayTests_fcs (bad : fcsGood f = false) : bayTests f s = countFcsError .b s := by simp [bayTests, bad]

theorem bayTests_length (good : fcsGood f = true) (length : f.length < 64 ∨ 1522 < f.length) :
    bayTests f s = countLengthError .b s := by simp [bayTests, good, length]

theorem bayTests_bayTagged (good : fcsGood f = true) (short : 64 ≤ f.length) (long : f.length ≤ 1522)
    (tagged : u16At f 12 = s.settings.tagMarker) :
    bayTests f s = s.onPort .b fun k => { k with bayTagged := k.bayTagged + 1 } := by
  simp [bayTests, good, Nat.not_lt.mpr short, Nat.not_lt.mpr long, tagged]

theorem bayTests_loading (good : fcsGood f = true) (short : 64 ≤ f.length) (long : f.length ≤ 1522)
    (untagged : u16At f 12 ≠ s.settings.tagMarker) (loading : s.loader.part = .loading) : bayTests f s = s := by
  simp [bayTests, good, Nat.not_lt.mpr short, Nat.not_lt.mpr long, untagged, loading]

theorem bayTests_pause (good : fcsGood f = true) (short : 64 ≤ f.length) (long : f.length ≤ 1522)
    (untagged : u16At f 12 ≠ s.settings.tagMarker) (serves : s.loader.part ≠ .loading)
    (pause : isPause (walkBay f) f = true) : bayTests f s = honorPause (walkBay f) f s := by
  simp [bayTests, good, Nat.not_lt.mpr short, Nat.not_lt.mpr long, untagged, serves, pause]

end

/-! ### The statement -/

section
variable {u : Uplink} {f : List Octet} {s : State} (high : s.resetN = true)
include high

theorem exec_uplinkArrival_tests :
    exec (.uplinkArrival u f) s = .next (finish (uplinkTests u f (countReceived (uplinkPort u) s))) :=
  exec_uplinkArrival u f high

theorem exec_bayArrival_tests :
    exec (.bayArrival f) s = .next (finish (bayTests f (countReceived .b s))) := exec_bayArrival f high

/-- An uplink arrival that counts itself and one thing more. -/
theorem uplinkArrival_countedAs {g : PortCounters → PortCounters}
    (stops : uplinkTests u f (countReceived (uplinkPort u) s) =
      (countReceived (uplinkPort u) s).onPort (uplinkPort u) g) :
    CountedAs (exec (.uplinkArrival u f) s) (uplinkPort u) g s :=
  countedAs_of_eq ((exec_uplinkArrival_tests high).trans (by rw [stops]))

theorem bayArrival_countedAs {g : PortCounters → PortCounters}
    (stops : bayTests f (countReceived .b s) = (countReceived .b s).onPort .b g) :
    CountedAs (exec (.bayArrival f) s) .b g s :=
  countedAs_of_eq ((exec_bayArrival_tests high).trans (by rw [stops]))

end

theorem onPort_id (p : Port) (s : State) : s.onPort p id = s := by cases p <;> rfl

section
variable {u : Uplink} {f : List Octet} {t : Tag} {s : State}

/-- The own presence frame of an uplink out of LOADING, in the terms of the statement (R19, R105). -/
theorem ownPresence_arrival (high : s.resetN = true) (good : fcsGood f = true) (short : 64 ≤ f.length)
    (long : f.length ≤ 1522) (pause : isPause (walkUplink s.settings.tagMarker f) f = false)
    (tagged : (walkUplink s.settings.tagMarker f).tagged = true)
    (valid : (readTag f).valid ((walkUplink s.settings.tagMarker f).type f) s.settings.presenceMarker = some t)
    (cls : t.cls = .presence)
    (own : presenceIdentity (walkUplink s.settings.tagMarker f) f = s.loader.stationAddress)
    (serves : s.loader.part ≠ .loading) :
    exec (.uplinkArrival u f) s = .next (finish (ownPresence u t.path (s.onPort (uplinkPort u) fun c =>
      { c with framesReceived := c.framesReceived + 1, ownPresence := c.ownPresence + 1 }))) := by
  rw [exec_uplinkArrival_tests high, uplinkTests_body good short, uplinkBody_tagged (t := t), uplinkTagTests_own cls,
    takeOwnPresence, if_neg, countReceived, State.onPort_onPort]
  · rwa [countReceived_loader]
  · rwa [countReceived_settings, countReceived_loader]
  · rwa [countReceived_settings]
  · rwa [countReceived_settings]
  · exact le_uplinkMaxLength long
  · rwa [countReceived_settings]

theorem ownPresence_arrival_effect (p : Uplink) {g : PortCounters → PortCounters} {x : State}
    (x_eq : x = ownPresence u p (s.onPort (uplinkPort u) g)) :
    x = { s with portU1 := x.portU1, portU2 := x.portU2, presence := x.presence, notices := x.notices } ∧
    x.port (uplinkPort u) = g (s.port (uplinkPort u)) ∧
    x.presence.own (other u) = s.presence.own (other u) := by
  have only := ownPresence_only u p (s.onPort (uplinkPort u) g)
  rw [← x_eq] at only
  refine ⟨?_, ?_, ?_⟩
  · rw [only, onPort_presence_notices]
  · rw [only]
    cases u <;> rfl
  · rw [x_eq, ownPresence_other, State.onPort_presence]

/-- The pause frame on B, in the terms of the statement (R21, R157, R158). -/
theorem honorPause_effect {w : Walk} {x : State} (x_eq : x = honorPause w f (countReceived .b s)) :
    x.portB.framesReceived = s.portB.framesReceived + 1 ∧
    x.portB.pauseReceived = s.portB.pauseReceived + 1 ∧
    (s.settings.honorPause = false → x.bay = s.bay ∧ x.store = s.store) ∧
    (s.settings.honorPause = true → pauseQuanta w f = 0 → s.bay.held = false →
      x.bay = { s.bay with held := false, pauseTimer := none } ∧ x.store = s.store) ∧
    (s.settings.honorPause = true → pauseQuanta w f = 0 →
      x.bay.held = false ∧ x.bay.pauseTimer = none ∧ x.portB.pauseHolds = s.portB.pauseHolds) ∧
    (s.settings.honorPause = true → pauseQuanta w f ≠ 0 →
      x.bay.held = true ∧ x.portB.pauseHolds = s.portB.pauseHolds + 1 ∧
      x.bay.pauseTimer = some ((pauseQuanta w f).toNat * 64 *
        (if s.loader.straps.bay1000 then 8 else 80))) ∧
    (s.settings.honorPause = true → pauseQuanta w f ≠ 0 ∨ s.bay.held = true → HeldScreened s x) := by
  have counted : honorPause w f (countReceived .b s) =
      if s.settings.honorPause = true then takeQuanta (pauseQuanta w f) (s.onPort .b fun c =>
        { c with framesReceived := c.framesReceived + 1, pauseReceived := c.pauseReceived + 1 })
      else s.onPort .b fun c =>
        { c with framesReceived := c.framesReceived + 1, pauseReceived := c.pauseReceived + 1 } := rfl
  generalize y_eq : (s.onPort .b fun c =>
    { c with framesReceived := c.framesReceived + 1, pauseReceived := c.pauseReceived + 1 }) = y at counted
  rw [counted] at x_eq
  have received : y.portB = { s.portB with
      framesReceived := s.portB.framesReceived + 1, pauseReceived := s.portB.pauseReceived + 1 } := by
    rw [← y_eq]
    rfl
  have bay : y.bay = s.bay := by rw [← y_eq]; rfl
  have store : y.store = s.store := by rw [← y_eq]; rfl
  have straps : y.loader.straps = s.loader.straps := by rw [← y_eq]; rfl
  have screened : ∀ x, HeldScreened y x → HeldScreened s x := fun x h =>
    h.congr (fun q => by rw [bay]) (fun n => handleOf_of_store store n) (by rw [← y_eq]; rfl) (by rw [← y_eq]; rfl)
      (fun _ => rfl) fun _ => rfl
  cases honors : s.settings.honorPause
  · rw [honors, if_neg (by decide)] at x_eq
    subst x_eq
    rw [received]
    refine ⟨rfl, rfl, fun _ => ⟨bay, store⟩, ?_, ?_, ?_, ?_⟩ <;> exact fun h => absurd h (by decide)
  · rw [honors, if_pos rfl] at x_eq
    subst x_eq
    obtain ⟨frames, pauses, holds⟩ := takeQuanta_portB (pauseQuanta w f) y
    rw [received] at frames pauses holds
    refine ⟨frames, pauses, fun h => absurd h (by decide), fun _ zero free => ?_, fun _ zero => ?_,
      fun _ more => ?_, fun _ screens => screened _ ?_⟩
    · rw [zero, takeQuanta_zero_of_not_held (by rwa [bay]), endHold, State.onBay_bay, State.onBay_store, bay, store]
      exact ⟨rfl, rfl⟩
    · have ended := takeQuanta_zero y
      rw [← zero] at ended
      exact ⟨ended.1, ended.2, holds zero⟩
    · obtain ⟨held, count, timer, _⟩ := takeQuanta_hold more y
      rw [received] at count
      rw [straps] at timer
      exact ⟨held, count, timer⟩
    · by_cases zero : pauseQuanta w f = 0
      · rw [zero]
        exact takeQuanta_zero_screened (by rw [bay]; exact screens.resolve_left (not_not_intro zero))
      · exact (takeQuanta_hold zero y).2.2.2

end

/-- Settles O44: each test that stops an arrival is the first that it fails, what stops it counts, and what a pause
frame and the part's own presence frame do besides is said by the lemmas on each. -/
theorem arrivalsThatStopAtTheIntake : Obligations.ArrivalsThatStopAtTheIntake := by
  refine ⟨⟨fun u f s high => ⟨fun bad => ?_, fun good length => ?_, fun good short long => ⟨fun pause => ?_,
      fun t pause tagged valid cls own serves => ?_⟩⟩,
    fun f s high => ⟨fun bad => ?_, fun good length => ?_,
      fun good short long untagged serves pause => ?_⟩⟩,
    fun u f s high good short => ⟨fun long tagged pause => ⟨fun wrong => ?_, fun t valid =>
      ⟨fun cls own loading => ?_, fun other path => ?_⟩⟩, fun passes => ⟨fun held => ?_, fun foreign loading => ?_⟩,
      fun passes foreign serves => ⟨fun refuse => ?_, fun pass dest => ?_⟩⟩,
    fun f s high good short long => ⟨fun tagged => ?_, fun untagged loading => ?_, fun passes dest type => ?_⟩⟩
  · -- uplink: a wrong FCS
    exact uplinkArrival_countedAs (g := fun c => { c with fcsErrors := c.fcsErrors + 1 }) high (uplinkTests_fcs bad)
  · -- uplink: a wrong length
    exact uplinkArrival_countedAs (g := fun c => { c with lengthErrors := c.lengthErrors + 1 }) high
      (uplinkTests_length good (by rwa [countReceived_settings]))
  · -- uplink: a pause frame
    exact uplinkArrival_countedAs (g := fun c => { c with pauseDiscards := c.pauseDiscards + 1 }) high
      (uplinkTests_pause good short (le_uplinkMaxLength long) (by rwa [countReceived_settings]))
  · -- uplink: the part's own presence frame
    obtain ⟨only, port, others⟩ := ownPresence_arrival_effect (u := u) (s := s) t.path rfl
    refine ⟨_, handledTo_of_eq (ownPresence_arrival high good short long pause tagged valid cls own serves), only,
      port, others, fun same => ?_, fun differ => ?_⟩
    · simpa only [State.onPort_presence, State.onPort_notices, State.onPort_stationTime] using
        ownPresence_loop (s := s.onPort (uplinkPort u) _) same
    · simpa only [State.onPort_presence, State.onPort_notices, State.onPort_stationTime] using
        ownPresence_joined (s := s.onPort (uplinkPort u) _) differ
  · -- B: a wrong FCS
    exact bayArrival_countedAs (g := fun c => { c with fcsErrors := c.fcsErrors + 1 }) high (bayTests_fcs bad)
  · -- B: a wrong length
    exact bayArrival_countedAs (g := fun c => { c with lengthErrors := c.lengthErrors + 1 }) high
      (bayTests_length good length)
  · -- B: a pause frame
    have arrival := exec_bayArrival_tests (f := f) high
    rw [bayTests_pause good short long (by rwa [countReceived_settings]) (by rwa [countReceived_loader]) pause]
      at arrival
    exact ⟨_, handledTo_of_eq arrival, honorPause_effect rfl⟩
  · -- uplink: a tag error
    refine uplinkArrival_countedAs high ?_
    rw [uplinkTests_body good short, uplinkBody_tagError]
    · rwa [countReceived_settings]
    · rwa [countReceived_settings]
    · rwa [countReceived_settings, uplinkMaxLength_tagged tagged]
    · rwa [countReceived_settings]
  · -- uplink: the part's own presence frame in LOADING
    refine uplinkArrival_countedAs high ?_
    rw [uplinkTests_body good short, uplinkBody_tagged (t := t), uplinkTagTests_own cls, takeOwnPresence, if_pos]
    · rwa [countReceived_loader]
    · rwa [countReceived_settings, countReceived_loader]
    · rwa [countReceived_settings]
    · rwa [countReceived_settings]
    · rwa [countReceived_settings, uplinkMaxLength_tagged tagged]
    · rwa [countReceived_settings]
  · -- uplink: a tag of the other path
    refine uplinkArrival_countedAs high ?_
    rw [uplinkTests_body good short, uplinkBody_tagged (t := t), uplinkTagTests_path _ path]
    · rwa [countReceived_settings, countReceived_loader]
    · rwa [countReceived_settings]
    · rwa [countReceived_settings]
    · rwa [countReceived_settings, uplinkMaxLength_tagged tagged]
    · rwa [countReceived_settings]
  · -- uplink: a source in the Origin Table
    refine uplinkArrival_countedAs high ?_
    obtain ⟨t, routed⟩ := uplinkTests_routed (u := u) (f := f) (s := countReceived (uplinkPort u) s)
      (by simpa only [TagPasses, UntaggedPasses, countReceived_settings, countReceived_loader] using passes)
    rw [routed, uplinkRouting_ownOrigin (by rwa [countReceived_pairing])]
  · -- uplink: LOADING
    refine uplinkArrival_countedAs high ?_
    obtain ⟨t, routed⟩ := uplinkTests_routed (u := u) (f := f) (s := countReceived (uplinkPort u) s)
      (by simpa only [TagPasses, UntaggedPasses, countReceived_settings, countReceived_loader] using passes)
    rw [routed, uplinkRouting_loading (by rwa [countReceived_pairing]) (by rwa [countReceived_loader]), onPort_id]
  · -- uplink: an untagged frame with Pass Untagged clear
    have serving : s.serving = true := by simp [State.serving, high, serves]
    refine countedAs_of_eq ((exec_untagged serving passes foreign).trans ?_)
    rw [routeUntagged, if_pos (by rwa [countReceived_settings])]
  · -- uplink: an untagged frame to the station
    have serving : s.serving = true := by simp [State.serving, high, serves]
    refine countedAs_of_eq ((exec_untagged serving passes foreign).trans ?_)
    rw [routeUntagged, if_neg (by simp [pass]), if_pos (by rwa [countReceived_loader]), countStationDiscard]
  · -- B: a bay-tagged frame
    exact bayArrival_countedAs high (bayTests_bayTagged good short long tagged)
  · -- B: LOADING
    refine bayArrival_countedAs high ?_
    rw [bayTests_loading good short long (by rwa [countReceived_settings]) (by rwa [countReceived_loader]), onPort_id]
  · -- B: a frame to the station that is no request
    refine countedAs_of_eq ((exec_bay passes).trans ?_)
    rw [routeBay, if_pos (by rwa [countReceived_loader]), if_neg (by rwa [countReceived_settings]),
      countStationDiscard]

end Sys2Proof.Machine

/-! SUPPORT. The Source Table under an arrival (R43 to R47, R64, R91 to R93): where a key is found, what each operation
leaves of the entries, and the path arrival on its entry. -/

namespace Sys2Proof.Machine

/-! ### Entries under each operation -/

section
variable (s : State)

@[simp] theorem judgeNetwork_entries (n : Uplink) : (judgeNetwork n s).filter.entries = s.filter.entries := by
  unfold judgeNetwork
  split
  · cases n <;> rfl
  · split
    · cases n <;> rfl
    · rfl

@[simp] theorem judgeNetwork_counters (n : Uplink) : (judgeNetwork n s).filter.counters = s.filter.counters := by
  unfold judgeNetwork
  split
  · cases n <;> rfl
  · split
    · cases n <;> rfl
    · rfl

@[simp] theorem raiseLost_entries (n : Uplink) : (raiseLost n s).filter.entries = s.filter.entries := by
  rw [raiseLost, judgeNetwork_entries]
  cases n <;> rfl

@[simp] theorem raiseLost_counters (n : Uplink) : (raiseLost n s).filter.counters = s.filter.counters := by
  rw [raiseLost, judgeNetwork_counters]
  cases n <;> rfl

@[simp] theorem lowerLost_entries (n : Uplink) : (lowerLost n s).filter.entries = s.filter.entries := by
  rw [lowerLost, judgeNetwork_entries]
  cases n <;> rfl

@[simp] theorem lowerLost_counters (n : Uplink) : (lowerLost n s).filter.counters = s.filter.counters := by
  rw [lowerLost, judgeNetwork_counters]
  cases n <;> rfl

@[simp] theorem raise_filter_eq (k : EventKind) (w : Nat) (c : Option TClass) (d : Nat) (a : Address) :
    (raise k w c d a s).filter = s.filter := rfl

@[simp] theorem raiseSkew_filter_eq (e : Entry) (ev : Option Bool) : (raiseSkew e ev s).filter = s.filter := by
  unfold raiseSkew
  split <;> rfl

end

theorem entryOf_putEntry (i j : Nat) (e : Entry) (s : State) :
    entryOf (putEntry i e s) j = if j = i then some { e with check := 0 } else entryOf s j := Tbl.look_put _ _ _ _

theorem entryOf_of_entries {s x : State} (same : x.filter.entries = s.filter.entries) (j : Nat) :
    entryOf x j = entryOf s j := congrArg (Tbl.look · j) same

/-! ### Where a key is found (R43) -/

theorem mem_waysOf {b i : Nat} : i ∈ waysOf b ↔ i / 4 = b := by
  simp only [waysOf, List.mem_cons, List.not_mem_nil, or_false]
  omega

theorem holdsKey_iff {s : State} {a : Address} {c : TClass} {i : Nat} :
    holdsKey s a c i = true ↔ ∃ e, entryOf s i = some e ∧ e.addr = a ∧ e.cls = c := by
  unfold holdsKey
  cases entryOf s i <;> simp

/-- In a table in form a key is found at the entry that holds it (R42, R43, R48). -/
theorem findKey_of_held {s : State} {i : Nat} {e : Entry} (form : TableInv s) (entry : entryOf s i = some e) :
    findKey s e.addr e.cls = some i := by
  obtain ⟨_, _, bucket, once, _⟩ := form
  cases found : findKey s e.addr e.cls with
  | none =>
    have missed := List.find?_eq_none.mp found i (mem_waysOf.mpr (bucket i e entry))
    exact absurd (holdsKey_iff.mpr ⟨e, entry, rfl, rfl⟩) missed
  | some j =>
    obtain ⟨d, there, addr, cls⟩ := holdsKey_iff.mp (List.find?_some found)
    rw [once i j e d entry there addr.symm cls.symm]

theorem findKey_of_unheld {s : State} {a : Address} {c : TClass}
    (unheld : ∀ j e, entryOf s j = some e → ¬ (e.addr = a ∧ e.cls = c)) : findKey s a c = none := by
  refine List.find?_eq_none.mpr fun j _ holds => ?_
  obtain ⟨e, entry, key⟩ := holdsKey_iff.mp holds
  exact unheld j e entry key

section
variable {p : Option Port} {a : Address} {c : TClass} {s : State}

theorem lookupKey_of_held {i : Nat} {e : Entry} (form : TableInv s) (entry : entryOf s i = some e)
    (addr : e.addr = a) (cls : e.cls = c) (holds : e.check = 0) : lookupKey p a c s = (some i, s) := by
  subst addr cls
  simp [lookupKey, findKey_of_held form entry, entry, holds]

theorem lookupKey_of_failing {i : Nat} {e : Entry} (form : TableInv s) (entry : entryOf s i = some e)
    (addr : e.addr = a) (cls : e.cls = c) (bad : e.check ≠ 0) :
    lookupKey p a c s = (none, entryCheckFails i p (some c) s) := by
  subst addr cls
  simp only [lookupKey, findKey_of_held form entry, entry, if_neg bad]

theorem lookupKey_of_unheld (unheld : ∀ j e, entryOf s j = some e → ¬ (e.addr = a ∧ e.cls = c)) :
    lookupKey p a c s = (none, s) := by
  simp [lookupKey, findKey_of_unheld unheld]

end

/-! ### A path arrival on its entry (R91 to R93) -/

/-- An entry whose arriving path has been brought up to date (R92). -/
def Entry.arrived (e : Entry) (p : Uplink) (now : Time) : Entry :=
  { e.setPath p { e.path p with
      state := .present, lastArrival := some now
      missRun := if (e.path p).state = .present then (e.path p).missRun else 0 } with check := 0 }

/-- An entry whose other path has been judged (R93). -/
def Entry.judged (e : Entry) (q : Uplink) (missLimit : Nat) (now : Time) : Entry :=
  if e.isLost q = false ∧ e.failed q missLimit now = true then
    { e.setPath q { e.path q with state := .lost } with check := 0 }
  else e

section
variable {i : Nat} {s : State}

theorem arrivingPath_entries {e : Entry} (p : Uplink) (entry : entryOf s i = some e) :
    (arrivingPath i p s).filter.entries = Tbl.put s.filter.entries i (e.arrived p s.stationTime) := by
  unfold arrivingPath Entry.arrived
  rw [entry]
  dsimp only
  split
  · next unseen => simp [putEntry, unseen]
  · next present => simp [putEntry, present]
  · next lost => simp [putEntry, lost, Filter.onCounters]

theorem entryOf_arrivingPath {e : Entry} (p : Uplink) (entry : entryOf s i = some e) (j : Nat) :
    entryOf (arrivingPath i p s) j = if j = i then some (e.arrived p s.stationTime) else entryOf s j := by
  rw [entryOf, arrivingPath_entries p entry, Tbl.look_put]
  rfl

theorem entryOf_judgePath {e : Entry} (q : Uplink) (entry : entryOf s i = some e) (j : Nat) :
    entryOf (judgePath i q s) j =
      if j = i then some (e.judged q s.settings.missLimit s.stationTime) else entryOf s j := by
  unfold judgePath Entry.judged
  rw [entry]
  dsimp only
  split
  · rw [entryOf_of_entries (raiseLost_entries _ q), ← entryOf_putEntry]
    rfl
  · split
    · next same => rw [same, entry]
    · rfl

/-- What a path arrival leaves of the Source Table (R91). -/
theorem entryOf_pathArrival {e : Entry} (p : Uplink) (entry : entryOf s i = some e) (j : Nat) :
    entryOf (pathArrival i p s) j =
      if j = i then some ((e.arrived p s.stationTime).judged (other p) s.settings.missLimit s.stationTime)
      else entryOf s j := by
  have only := arrivingPath_filter i p s
  have arrived := entryOf_arrivingPath p entry
  rw [pathArrival, entryOf_judgePath (other p) ((arrived i).trans (if_pos rfl)), only.settings, only.stationTime]
  split
  · rfl
  · next differ => rw [arrived, if_neg differ]

theorem arrivingPath_discards (p : Uplink) :
    (arrivingPath i p s).filter.counters.path1Discarded = s.filter.counters.path1Discarded ∧
    (arrivingPath i p s).filter.counters.path2Discarded = s.filter.counters.path2Discarded := by
  unfold arrivingPath
  split
  · exact ⟨rfl, rfl⟩
  · dsimp only
    split
    · exact ⟨rfl, rfl⟩
    · exact ⟨rfl, rfl⟩
    · rw [lowerLost_counters]
      exact ⟨rfl, rfl⟩

theorem judgePath_discards (q : Uplink) :
    (judgePath i q s).filter.counters.path1Discarded = s.filter.counters.path1Discarded ∧
    (judgePath i q s).filter.counters.path2Discarded = s.filter.counters.path2Discarded := by
  unfold judgePath
  split
  · exact ⟨rfl, rfl⟩
  · split
    · rw [raiseLost_counters]
      exact ⟨rfl, rfl⟩
    · exact ⟨rfl, rfl⟩

/-- A path arrival counts no discarded copy (R73). -/
theorem pathArrival_discards (p : Uplink) :
    (pathArrival i p s).filter.counters.path1Discarded = s.filter.counters.path1Discarded ∧
    (pathArrival i p s).filter.counters.path2Discarded = s.filter.counters.path2Discarded := by
  obtain ⟨one, two⟩ := judgePath_discards (i := i) (s := arrivingPath i p s) (other p)
  obtain ⟨one', two'⟩ := arrivingPath_discards (i := i) (s := s) p
  exact ⟨one.trans one', two.trans two'⟩

end

end Sys2Proof.Machine

/-! SUPPORT. A copy seen before (R66, R73, R83, R84): its verdict, its effects on the entry, and the statement. -/

namespace Sys2Proof.Machine

/-! ### What changes of an entry -/

/-- From `e` to `d` the path fields and the Check alone may differ. -/
def Entry.PathsOnly (e d : Entry) : Prop := d = { e with path1 := d.path1, path2 := d.path2, check := d.check }

theorem Entry.PathsOnly.trans {e d g : Entry} (a : e.PathsOnly d) (b : d.PathsOnly g) : e.PathsOnly g := by
  unfold PathsOnly at a b ⊢
  rw [b, a]

theorem Entry.arrived_pathsOnly (e : Entry) (p : Uplink) (now : Time) : e.PathsOnly (e.arrived p now) := by
  cases p <;> rfl

theorem Entry.judged_pathsOnly (e : Entry) (q : Uplink) (n : Nat) (now : Time) : e.PathsOnly (e.judged q n now) := by
  unfold judged
  split
  · cases q <;> rfl
  · rfl

theorem Entry.path_setPath (e : Entry) (p : Uplink) (r : PathRecord) : (e.setPath p r).path p = r := by
  cases p <;> rfl

theorem Entry.path_setPath_other (e : Entry) (p : Uplink) (r : PathRecord) :
    (e.setPath (other p) r).path p = e.path p := by cases p <;> rfl

theorem Entry.path_judged_other (e : Entry) (p : Uplink) (n : Nat) (now : Time) :
    (e.judged (other p) n now).path p = e.path p := by
  unfold judged
  split
  · exact e.path_setPath_other p _
  · rfl

/-- A path that has not missed has none to be cleared of (R92). -/
theorem Entry.missRun_arrived {e : Entry} {p : Uplink} (none : (e.path p).missRun = 0) (now : Time) :
    ((e.arrived p now).path p).missRun = 0 := by
  have path : (e.arrived p now).path p = _ := e.path_setPath p _
  rw [path]
  dsimp only
  split
  · exact none
  · rfl

/-- From `e` to `d` what a repeat does not touch is the same: key, State, window, and the counts but Repeats'. -/
structure Entry.Kept (e d : Entry) : Prop where
  addr     : d.addr = e.addr
  cls      : d.cls = e.cls
  state    : d.state = e.state
  window   : d.window = e.window
  accepted : d.accepted = e.accepted
  repeats  : d.repeats = e.repeats
  lastUse  : d.lastUse = e.lastUse

theorem Entry.Kept.refl (e : Entry) : e.Kept e := ⟨rfl, rfl, rfl, rfl, rfl, rfl, rfl⟩

theorem Entry.Kept.trans {e d g : Entry} (a : e.Kept d) (b : d.Kept g) : e.Kept g :=
  ⟨b.addr.trans a.addr, b.cls.trans a.cls, b.state.trans a.state, b.window.trans a.window,
    b.accepted.trans a.accepted, b.repeats.trans a.repeats, b.lastUse.trans a.lastUse⟩

theorem Entry.PathsOnly.kept {e d : Entry} (h : e.PathsOnly d) : e.Kept d := by
  unfold PathsOnly at h
  constructor <;> rw [h]

theorem Entry.setPath_kept (e : Entry) (p : Uplink) (r : PathRecord) : e.Kept (e.setPath p r) := by
  cases p <;> exact ⟨rfl, rfl, rfl, rfl, rfl, rfl, rfl⟩

theorem chargeMisses_kept (l : List Twin) (e : Entry) : e.Kept (chargeMisses e l) := by
  induction l generalizing e with
  | nil => exact .refl e
  | cons r l rest => exact (e.setPath_kept _ _).trans (rest _)

theorem evictTimedOut_kept (now : Time) (limit : Nat) (e : Entry) : e.Kept (evictTimedOut now limit e) := by
  obtain ⟨addr, cls, state, window, accepted, repeats, lastUse⟩ :=
    chargeMisses_kept (timedOutTwins now limit e.twins) e
  exact ⟨addr, cls, state, window, accepted, repeats, lastUse⟩

/-! ### REPEAT (R73) -/

/-- A sequence that the window has seen is a REPEAT (R65, R66). -/
theorem verdictOf_seen {st : Settings} {now : Time} {t : Tag} {w : Window} (epoch : t.epoch = w.epoch)
    (inForce : age now w.lastAccept ≤ st.windowHold * 1000)
    (seen : seqDiff t.seq w.head = 0 ∨ (-63 ≤ seqDiff t.seq w.head ∧ seqDiff t.seq w.head ≤ -1 ∧
      w.seen.getLsbD (-(seqDiff t.seq w.head)).toNat = true)) :
    verdictOf st now t.seq t.epoch (some w) = .repeated := by
  have fresh : w.expired now st.windowHold = false := by simpa [Window.expired] using inForce
  have band : verdictOf st now t.seq t.epoch (some w) = sequenceVerdict st.jumpLimit w t.seq := by
    simp [verdictOf, fresh, epoch]
  rw [band, sequenceVerdict]
  obtain zero | ⟨low, high, bit⟩ := seen
  · rw [if_pos zero]
  · rw [if_neg (by omega), if_neg (by omega), if_pos ⟨low, high⟩, if_pos bit]

section
variable (now : Time) (limit : Nat) (t : Tag) (x : Screening)

theorem skewEffect_kept (r : Twin) : x.entry.Kept (skewEffect now limit r x).1.entry :=
  ⟨rfl, rfl, rfl, rfl, rfl, rfl, rfl⟩

theorem repeatEffect_kept :
    { x.entry with repeats := satInc x.entry.repeats }.Kept (repeatEffect now limit t x).1.entry := by
  unfold repeatEffect
  dsimp only
  split
  · exact ⟨rfl, rfl, rfl, rfl, rfl, rfl, rfl⟩
  · split
    · exact ⟨rfl, rfl, rfl, rfl, rfl, rfl, rfl⟩
    · refine Entry.Kept.trans ?_ (skewEffect_kept _ _ _ _)
      cases t.path <;> exact ⟨rfl, rfl, rfl, rfl, rfl, rfl, rfl⟩

/-- A REPEAT counts one discarded copy of its path (R73). -/
theorem repeatEffect_discards :
    (repeatEffect now limit t x).1.counters.path1Discarded = (x.counters.discardOn t.path).path1Discarded ∧
    (repeatEffect now limit t x).1.counters.path2Discarded = (x.counters.discardOn t.path).path2Discarded := by
  unfold repeatEffect
  dsimp only
  split
  · exact ⟨rfl, rfl⟩
  · split
    · exact ⟨rfl, rfl⟩
    · unfold skewEffect
      dsimp only
      split <;> exact ⟨rfl, rfl⟩

/-- The twin match of a REPEAT that finds its one record, of the other path (R73, R83, R84). -/
theorem repeatEffect_twin {r : Twin} (one : x.entry.twins = [r]) (seq : r.seq = t.seq)
    (path : r.firstPath = other t.path) :
    (repeatEffect now limit t x).1.entry.twins = [] ∧
    ((repeatEffect now limit t x).1.entry.path t.path).missRun = 0 ∧
    (repeatEffect now limit t x).1.entry.sampleCount = satInc x.entry.sampleCount ∧
    (repeatEffect now limit t x).1.entry.skewAverage =
      some (nextAverage x.entry.skewAverage (signedSkew (age now r.firstTime) r.firstPath)) := by
  have found : x.entry.twins.find? (fun r => r.seq == t.seq) = some r := by simp [one, seq]
  have differ : r.firstPath ≠ t.path := by
    rw [path]
    cases t.path <;> decide
  unfold repeatEffect
  dsimp only
  rw [found]
  dsimp only
  rw [if_neg differ, one]
  unfold skewEffect
  cases t.path <;> simp [Entry.setPath, Entry.path]

end

/-- A twin record that has not timed out is not evicted (R80). -/
theorem evictTimedOut_of_fresh {now : Time} {limit : Nat} {e : Entry} {r : Twin} (one : e.twins = [r])
    (fresh : age now r.firstTime ≤ limit * 1000) : evictTimedOut now limit e = e := by
  have young : Twin.timedOut now limit r = false := by simpa [Twin.timedOut] using fresh
  simp only [evictTimedOut, timedOutTwins, freshTwins, one, List.takeWhile_cons, List.dropWhile_cons, young,
    Bool.false_eq_true, if_false]
  rw [← one]
  rfl

/-! ### The screening of an arrival at the entry found (R64) -/

section
variable {t : Tag} {a : Address} {i : Nat} {e : Entry} {s : State}

/-- What steps 2 to 8 and 10 of R64 work on. -/
def screeningOf (e : Entry) (s : State) : Screening := { entry := e, counters := s.filter.counters }

/-- The state as steps 2 to 8 and 10 of R64 leave it. -/
def screenedAt (i : Nat) (t : Tag) (e : Entry) (s : State) : State :=
  raiseSkew (screenEntry s.settings s.stationTime t (screeningOf e s)).1.entry
    (screenEntry s.settings s.stationTime t (screeningOf e s)).2.2
    ((putEntry i (screenEntry s.settings s.stationTime t (screeningOf e s)).1.entry s).onFilter fun f =>
      { f with counters := (screenEntry s.settings s.stationTime t (screeningOf e s)).1.counters })

theorem screenAt_eq (entry : entryOf s i = some e) :
    screenAt i t s = ((screenEntry s.settings s.stationTime t (screeningOf e s)).2.1,
      pathArrival i t.path (screenedAt i t e s)) := by
  simp only [screenAt, entry]
  rfl

theorem entryOf_screenedAt (j : Nat) : entryOf (screenedAt i t e s) j =
    if j = i then some { (screenEntry s.settings s.stationTime t (screeningOf e s)).1.entry with check := 0 }
    else entryOf s j := by
  rw [screenedAt, entryOf, raiseSkew_filter_eq]
  exact entryOf_putEntry _ _ _ _

theorem screenedAt_only (i : Nat) (t : Tag) (e : Entry) (s : State) : OnlyFilter s (screenedAt i t e s) :=
  ((putEntry_filter i _ s).trans (onFilter_filter _ _)).trans (raiseSkew_filter _ _ _)

/-- What the screening of an arrival leaves of the Source Table (R64, R91). -/
theorem entryOf_screened (j : Nat) : entryOf (pathArrival i t.path (screenedAt i t e s)) j =
    if j = i then some
      ((Entry.arrived { (screenEntry s.settings s.stationTime t (screeningOf e s)).1.entry with check := 0 }
        t.path s.stationTime).judged (other t.path) s.settings.missLimit s.stationTime)
    else entryOf s j := by
  have only := screenedAt_only i t e s
  have at_i := (entryOf_screenedAt (t := t) (e := e) (s := s) i).trans (if_pos rfl)
  rw [entryOf_pathArrival t.path at_i, only.settings, only.stationTime]
  split
  · rfl
  · next differ => exact (entryOf_screenedAt j).trans (if_neg differ)

theorem screened_discards :
    (pathArrival i t.path (screenedAt i t e s)).filter.counters.path1Discarded =
      (screenEntry s.settings s.stationTime t (screeningOf e s)).1.counters.path1Discarded ∧
    (pathArrival i t.path (screenedAt i t e s)).filter.counters.path2Discarded =
      (screenEntry s.settings s.stationTime t (screeningOf e s)).1.counters.path2Discarded := by
  obtain ⟨one, two⟩ := pathArrival_discards (i := i) (s := screenedAt i t e s) t.path
  rw [one, two, screenedAt, raiseSkew_filter_eq]
  exact ⟨rfl, rfl⟩

/-- An arrival whose key an entry holds is screened there (R43, R64). -/
theorem screen_of_held (form : TableInv s) (entry : entryOf s i = some e) (addr : e.addr = a) (cls : e.cls = t.cls)
    (holds : e.check = 0) :
    screen t a s = (i, (screenEntry s.settings s.stationTime t (screeningOf e s)).2.1,
      pathArrival i t.path (screenedAt i t e s)) := by
  have found := lookupKey_of_held (p := some (uplinkPort t.path)) form entry addr cls holds
  simp only [screen, entryForArrival, found, screenAt_eq entry]

variable {w : Window}

theorem screenEntry_repeated (window : e.window = some w) (epoch : t.epoch = w.epoch)
    (inForce : age s.stationTime w.lastAccept ≤ s.settings.windowHold * 1000)
    (seen : seqDiff t.seq w.head = 0 ∨ (-63 ≤ seqDiff t.seq w.head ∧ seqDiff t.seq w.head ≤ -1 ∧
      w.seen.getLsbD (-(seqDiff t.seq w.head)).toNat = true)) :
    (screenEntry s.settings s.stationTime t (screeningOf e s)).2.1 = .repeated ∧
    (screenEntry s.settings s.stationTime t (screeningOf e s)).1 =
      { (repeatEffect s.stationTime s.settings.skewLimit t
          (timeoutStep s.settings s.stationTime (screeningOf e s))).1 with
        entry := lastUseStep s.stationTime (repeatEffect s.stationTime s.settings.skewLimit t
          (timeoutStep s.settings s.stationTime (screeningOf e s))).1.entry } := by
  have kept : (timeoutStep s.settings s.stationTime (screeningOf e s)).entry.window = some w :=
    (evictTimedOut_kept _ _ e).window.trans window
  have verdict := verdictOf_seen (st := s.settings) epoch inForce seen
  unfold screenEntry
  dsimp only
  rw [kept, verdict]
  exact ⟨rfl, rfl⟩

end

/-- From `e` to `d` the twin list, the skew statistics and a path without misses are as they were. -/
structure Entry.TwinsKept (p : Uplink) (e d : Entry) : Prop where
  twins       : d.twins = e.twins
  sampleCount : d.sampleCount = e.sampleCount
  skewAverage : d.skewAverage = e.skewAverage
  missRun     : (e.path p).missRun = 0 → (d.path p).missRun = 0

/-- A REPEAT as it stands in the Source Table after its path arrival (R64, R73, R91). -/
theorem entryOf_repeated {i : Nat} {t : Tag} {e : Entry} {w : Window} {s : State} (window : e.window = some w)
    (epoch : t.epoch = w.epoch) (inForce : age s.stationTime w.lastAccept ≤ s.settings.windowHold * 1000)
    (seen : seqDiff t.seq w.head = 0 ∨ (-63 ≤ seqDiff t.seq w.head ∧ seqDiff t.seq w.head ≤ -1 ∧
      w.seen.getLsbD (-(seqDiff t.seq w.head)).toNat = true)) :
    ∃ d, entryOf (pathArrival i t.path (screenedAt i t e s)) i = some d ∧
      { e with repeats := satInc e.repeats, lastUse := s.stationTime }.Kept d ∧
      Entry.TwinsKept t.path (repeatEffect s.stationTime s.settings.skewLimit t
        (timeoutStep s.settings s.stationTime (screeningOf e s))).1.entry d := by
  obtain ⟨_, effect⟩ := screenEntry_repeated (s := s) window epoch inForce seen
  refine ⟨_, (entryOf_screened i).trans (if_pos rfl), ?_, ?_⟩
  · refine .trans ?_ ((Entry.arrived_pathsOnly _ t.path s.stationTime).trans
      (Entry.judged_pathsOnly _ (other t.path) s.settings.missLimit s.stationTime)).kept
    obtain ⟨addr, cls, state, window, accepted, repeats, _⟩ := (evictTimedOut_kept s.stationTime
      s.settings.twinTimeout e)
    obtain ⟨addr', cls', state', window', accepted', repeats', _⟩ := repeatEffect_kept s.stationTime
      s.settings.skewLimit t (timeoutStep s.settings s.stationTime (screeningOf e s))
    rw [effect]
    exact ⟨addr'.trans addr, cls'.trans cls, state'.trans state, window'.trans window, accepted'.trans accepted,
      repeats'.trans (congrArg satInc repeats), rfl⟩
  · have only := (Entry.arrived_pathsOnly
      { (screenEntry s.settings s.stationTime t (screeningOf e s)).1.entry with check := 0 } t.path s.stationTime).trans
      (Entry.judged_pathsOnly _ (other t.path) s.settings.missLimit s.stationTime)
    unfold Entry.PathsOnly at only
    refine ⟨?_, ?_, ?_, fun none => ?_⟩
    · rw [only, effect]
      rfl
    · rw [only, effect]
      rfl
    · rw [only, effect]
      rfl
    · rw [Entry.path_judged_other, Entry.missRun_arrived]
      rw [effect]
      exact none

/-- The twin match of a REPEAT in the Source Table (R73, R83, R84). -/
theorem twin_matched {t : Tag} {e d : Entry} {r : Twin} {s : State}
    (kept : Entry.TwinsKept t.path (repeatEffect s.stationTime s.settings.skewLimit t
      (timeoutStep s.settings s.stationTime (screeningOf e s))).1.entry d)
    (one : e.twins = [r]) (seq : r.seq = t.seq) (path : r.firstPath = other t.path)
    (fresh : age s.stationTime r.firstTime ≤ s.settings.twinTimeout * 1000) :
    d.twins = [] ∧ (d.path t.path).missRun = 0 ∧ d.sampleCount = satInc e.sampleCount ∧
      d.skewAverage =
        some (nextAverage e.skewAverage (signedSkew (age s.stationTime r.firstTime) r.firstPath)) := by
  have same : (timeoutStep s.settings s.stationTime (screeningOf e s)).entry = e :=
    evictTimedOut_of_fresh one fresh
  obtain ⟨twins, missRun, sampleCount, skewAverage⟩ := repeatEffect_twin s.stationTime s.settings.skewLimit t
    (timeoutStep s.settings s.stationTime (screeningOf e s)) ((congrArg Entry.twins same).trans one) seq path
  rw [same] at sampleCount skewAverage
  exact ⟨kept.twins.trans twins, kept.missRun missRun, kept.sampleCount.trans sampleCount,
    kept.skewAverage.trans skewAverage⟩

/-! ### A tagged frame stored, screened and discarded -/

/-- The state in which a tagged arrival is screened: counted, and stored (R16, R25). -/
def taggedStored (u : Uplink) (f : List Octet) (t : Tag) (s : State) : State :=
  storeFrame f t.cls (some (receivedFields t)) (countReceived (uplinkPort u) s)

section
variable (u : Uplink) (f : List Octet) (t : Tag) (s : State)

theorem taggedStored_storage : OnlyStorage (countReceived (uplinkPort u) s) (taggedStored u f t s) :=
  storeFrame_storage _ _ _ _

theorem taggedStored_filter : (taggedStored u f t s).filter = s.filter :=
  (taggedStored_storage u f t s).filter.trans (State.onPort_filter s _ _)

theorem taggedStored_settings : (taggedStored u f t s).settings = s.settings :=
  (taggedStored_storage u f t s).settings.trans (countReceived_settings _ s)

theorem taggedStored_stationTime : (taggedStored u f t s).stationTime = s.stationTime :=
  (taggedStored_storage u f t s).stationTime.trans (State.onPort_stationTime s _ _)

theorem entryOf_taggedStored (j : Nat) : entryOf (taggedStored u f t s) j = entryOf s j :=
  entryOf_of_entries (congrArg Filter.entries (taggedStored_filter u f t s)) j

theorem taggedStored_queue (q : BayQueue) : (taggedStored u f t s).bay.queue q = s.bay.queue q := by
  rw [taggedStored, storeFrame_queue, countReceived_bay]

theorem tableInv_taggedStored (form : TableInv s) : TableInv (taggedStored u f t s) := by
  simpa only [TableInv, entryOf, pinnedInBucket, taggedStored_filter] using form

theorem handleOf_taggedStored_ne {n : Nat} (differ : n ≠ lowestHandle (countReceived (uplinkPort u) s)) :
    handleOf (taggedStored u f t s) n = handleOf s n := by
  rw [taggedStored, handleOf_storeFrame, if_neg differ, handleOf_countReceived]

end

/-- A source that no Origin entry holds, in the terms of the two statements (R20). -/
theorem foreign_of_isOwnOrigin {s : State} {a : Address} (foreign : isOwnOrigin s a = false) :
    ∀ i e, (i, e) ∈ s.pairing.entries → e.addr ≠ a := fun i e mem => by
  simpa using List.any_eq_false.mp foreign (i, e) mem

section
variable {u : Uplink} {t : Tag} {f : List Octet} {i : Nat} {v : Verdict} {s z : State}

/-- A tagged arrival admitted, whose verdict does not let it go on, is freed after its screening (R25). -/
theorem exec_discarded (serves : s.serving = true) (passes : TagPasses u f t s)
    (foreign : isOwnOrigin s (sourceOf f) = false)
    (adm : admits s f.length (blockFloor s.settings t.cls) (handleFloor s.settings t.cls) = true)
    (scr : screen t (sourceOf f) (taggedStored u f t s) = (i, v, z)) (stop : goesOn s.settings v = false) :
    exec (.uplinkArrival u f) s =
      .next (finish (freeHandle (lowestHandle (countReceived (uplinkPort u) s)) z)) := by
  obtain ⟨_, settings, _, _⟩ := screen_stored scr
  rw [exec_tagged serves passes (foreign_of_isOwnOrigin foreign), routeTagged, admitReceived_of_admits]
  · rw [taggedStored] at scr
    simp only [scr]
    rw [routeVerdict, if_pos]
    rwa [settings, countReceived_settings]
  · rwa [countReceived_settings, admits_countReceived]

/-- Such an arrival leaves no handle, no bay queue, no uplink and no Origin entry changed (R25, R28). -/
theorem discarded_effect
    (adm : admits s f.length (blockFloor s.settings t.cls) (handleFloor s.settings t.cls) = true)
    (screened : OnlyFilter (taggedStored u f t s) z) {x : State}
    (x_eq : x = freeHandle (lowestHandle (countReceived (uplinkPort u) s)) z) :
    x.filter = z.filter ∧ (∀ h, handleOf x h = handleOf s h) ∧ (∀ q, x.bay.queue q = s.bay.queue q) ∧
      x.u1 = s.u1 ∧ x.u2 = s.u2 ∧ x.pairing = s.pairing := by
  have freed := freeHandle_storage (lowestHandle (countReceived (uplinkPort u) s)) z
  have stored := taggedStored_storage u f t s
  have free := lowestHandle_free (hasRoom_of_admits ((admits_countReceived (uplinkPort u) s _ _ _).trans adm)).2
  rw [← x_eq] at freed
  refine ⟨freed.filter, fun h => ?_, fun q => ?_, ?_, ?_, ?_⟩
  · rw [x_eq, handleOf_freeHandle]
    split
    · next same => rw [same, ← handleOf_countReceived (uplinkPort u) s, free]
    · next differ => rw [handleOf_of_store screened.store, handleOf_taggedStored_ne u f t s differ]
  · rw [x_eq, freeHandle_queue, screened.bay, taggedStored_queue]
  · rw [freed.u1, screened.u1, stored.u1, countReceived, State.onPort_u1]
  · rw [freed.u2, screened.u2, stored.u2, countReceived, State.onPort_u2]
  · rw [freed.pairing, screened.pairing, stored.pairing, countReceived_pairing]

end

/-- Settles O41: the copy is stored, judged REPEAT at its entry, and freed again. -/
theorem secondCopyIsDiscarded : Obligations.SecondCopyIsDiscarded := by
  intro u f t i e w s serves _ form good short long tagged pause valid path cls foreign adm entry addr same holds
    window epoch inForce seen
  subst path
  have passes : TagPasses t.path f t s :=
    ⟨good, short, long, tagged, pause, valid, rfl, fun presence => absurd presence cls⟩
  have time := taggedStored_stationTime t.path f t s
  have settings := taggedStored_settings t.path f t s
  have stored := (entryOf_taggedStored t.path f t s i).trans entry
  rw [← time, ← settings] at inForce
  obtain ⟨verdict, effect⟩ := screenEntry_repeated (s := taggedStored t.path f t s) window epoch inForce seen
  have scr := screen_of_held (tableInv_taggedStored t.path f t s form) stored addr same holds
  have screened := screen_filter t (sourceOf f) (taggedStored t.path f t s)
  rw [scr] at screened
  rw [verdict] at scr
  obtain ⟨filter, handles, queues, u1, u2, pairing⟩ := discarded_effect adm screened rfl
  obtain ⟨d, repeated, kept, twins⟩ := entryOf_repeated (i := i) window epoch inForce seen
  rw [time] at kept
  refine ⟨d, _, handledTo_of_eq (exec_discarded serves passes foreign adm scr rfl),
    (entryOf_of_entries (congrArg Filter.entries filter) i).trans repeated, kept.repeats, kept.accepted, kept.window,
    kept.lastUse, kept.addr, kept.cls, kept.state, fun j differ => ?_, handles, queues, u1, u2, pairing, ?_,
    fun r one seq first fresh => ?_⟩
  · rw [entryOf_of_entries (congrArg Filter.entries filter), entryOf_screened, if_neg differ, entryOf_taggedStored]
  · obtain ⟨one, two⟩ := screened_discards (i := i) (t := t) (e := e) (s := taggedStored t.path f t s)
    obtain ⟨one', two'⟩ := repeatEffect_discards (taggedStored t.path f t s).stationTime
      (taggedStored t.path f t s).settings.skewLimit t
      (timeoutStep (taggedStored t.path f t s).settings (taggedStored t.path f t s).stationTime
        (screeningOf e (taggedStored t.path f t s)))
    rw [filter, one, two, effect, one', two', timeoutStep, screeningOf, taggedStored_filter]
    cases t.path <;> rfl
  · rw [← time] at fresh ⊢
    rw [← settings] at fresh
    exact twin_matched twins one seq first fresh

end Sys2Proof.Machine

/-! SUPPORT. An entry found failing its Check (R45, R47): what its freeing leaves, and that it reads and writes
nothing of storage and ports. -/

namespace Sys2Proof.Machine

/-! ### The Source Table beside the rest of the state -/

/-- The Source Table's operations see the same in two states. -/
structure SameFilterView (s t : State) : Prop where
  filter      : t.filter = s.filter
  notices     : t.notices = s.notices
  reports     : t.reports = s.reports
  settings    : t.settings = s.settings
  stationTime : t.stationTime = s.stationTime

section
variable {s t : State} (same : SameFilterView s t)
include same

theorem SameFilterView.onFilter (f : Filter → Filter) : SameFilterView (s.onFilter f) (t.onFilter f) :=
  ⟨congrArg f same.filter, same.notices, same.reports, same.settings, same.stationTime⟩

theorem SameFilterView.raise (k : EventKind) (w : Nat) (c : Option TClass) (d : Nat) (a : Address) :
    SameFilterView (raise k w c d a s) (raise k w c d a t) := by
  refine ⟨same.filter, ?_, same.reports, same.settings, same.stationTime⟩
  simp only [Machine.raise, State.onNotices, same.notices, same.stationTime]

theorem SameFilterView.judgeNetwork (n : Uplink) : SameFilterView (judgeNetwork n s) (judgeNetwork n t) := by
  unfold Machine.judgeNetwork
  rw [same.filter, same.settings]
  split
  · exact (same.onFilter _).raise _ _ _ _ _
  · split
    · exact (same.onFilter _).raise _ _ _ _ _
    · exact same

theorem SameFilterView.setLost (n : Uplink) (v : Nat) : SameFilterView (setLost n v s) (setLost n v t) := by
  unfold Machine.setLost
  rw [same.filter]
  split
  · exact same
  · exact (same.onFilter _).judgeNetwork n

theorem SameFilterView.report (k : FaultKind) (l : Nat) (p : Option Port) (c : Option TClass) :
    SameFilterView (report k l p c s) (report k l p c t) := by
  refine ⟨same.filter, same.notices, ?_, same.settings, same.stationTime⟩
  simp only [Machine.report, same.reports]

theorem SameFilterView.recountPinned : SameFilterView (recountPinned s) (recountPinned t) := by
  have counted : countPinned t = countPinned s := by rw [countPinned, countPinned, same.filter]
  unfold Machine.recountPinned
  rw [counted]
  exact same.onFilter _

theorem SameFilterView.countLost (n : Uplink) : countLost t n = countLost s n := by
  rw [Machine.countLost, Machine.countLost, same.filter]

theorem SameFilterView.dropEntry (i : Nat) (b : Bool) : SameFilterView (dropEntry i b s) (dropEntry i b t) :=
  same.onFilter _

theorem SameFilterView.setCounted (n : Uplink) :
    SameFilterView (Machine.setLost n (Machine.countLost s n) s) (Machine.setLost n (Machine.countLost t n) t) := by
  rw [same.countLost n]
  exact same.setLost n _

theorem SameFilterView.entryCheckFails (i : Nat) (p : Option Port) (c : Option TClass) :
    SameFilterView (entryCheckFails i p c s) (entryCheckFails i p c t) :=
  ((((same.report .entryCheck i p c).dropEntry i false).recountPinned).setCounted .u2).setCounted .u1

end

/-- A state with the Source Table, the Notice Queue and the reports in flight of another. -/
def State.graft (s x : State) : State := { s with filter := x.filter, notices := x.notices, reports := x.reports }

theorem OnlyFilter.eq_graft {s x : State} (only : OnlyFilter s x) : x = s.graft x := by
  cases s
  cases x
  obtain ⟨h1, h2, h3, h4, h5, h6, h7, h8, h9, h10, h11, h12, h13, h14, h15, h16, h17⟩ := only
  dsimp only at *
  subst h1 h2 h3 h4 h5 h6 h7 h8 h9 h10 h11 h12 h13 h14 h15 h16 h17
  rfl

theorem State.graft_congr (s : State) {x y : State} (same : SameFilterView x y) : s.graft x = s.graft y := by
  rw [State.graft, State.graft, same.filter, same.notices, same.reports]

section
variable (s x : State)

theorem startPause_graft : startPause (s.graft x) = (startPause s).graft x := by
  unfold startPause
  simp only [State.graft]
  split <;> rfl

theorem makePausePending_graft (q : BitVec 16) :
    makePausePending q (s.graft x) = (makePausePending q s).graft x := by
  rw [makePausePending, makePausePending, ← startPause_graft]
  rfl

/-- The free-block test reads and writes nothing of the Source Table (R33). -/
theorem pauseTest_graft : pauseTest (s.graft x) = (pauseTest s).graft x := by
  have free : freeBlocks (s.graft x) = freeBlocks s := rfl
  have settings : (s.graft x).settings = s.settings := rfl
  have pause : (s.graft x).pause = s.pause := rfl
  rw [pauseTest, pauseTest, free, settings, pause, assertPause, releasePause, assertPause, releasePause]
  split
  · split
    · rw [← makePausePending_graft]
      rfl
    · split
      · rw [← makePausePending_graft]
        rfl
      · rfl
  · rfl

theorem storeFrame_graft (f : List Octet) (c : TClass) (t : Option TagFields) :
    storeFrame f c t (s.graft x) = (storeFrame f c t s).graft x := by
  rw [storeFrame, storeFrame, ← pauseTest_graft]
  rfl

theorem countReceived_graft (p : Port) : countReceived p (s.graft x) = (countReceived p s).graft x := by
  cases p <;> rfl

end

section
variable (u : Uplink) (f : List Octet) (t : Tag) (s : State)

theorem taggedStored_view : SameFilterView s (taggedStored u f t s) where
  filter := taggedStored_filter u f t s
  notices := (taggedStored_storage u f t s).notices.trans (State.onPort_notices s _ _)
  reports := (pauseTest_reports _).trans (State.onPort_reports s _ _)
  settings := taggedStored_settings u f t s
  stationTime := taggedStored_stationTime u f t s

/-- An entry's failing its Check before and after the storing of an arrival (R47). -/
theorem entryCheckFails_taggedStored (i : Nat) (p : Option Port) (c : Option TClass) :
    entryCheckFails i p c (taggedStored u f t s) = taggedStored u f t (entryCheckFails i p c s) := by
  have before := (entryCheckFails_filter i p c s).eq_graft
  have after := (entryCheckFails_filter i p c (taggedStored u f t s)).eq_graft
  have same := (taggedStored_view u f t s).entryCheckFails i p c
  rw [after, ← State.graft_congr _ same]
  conv => rhs; rw [before]
  rw [taggedStored, taggedStored, countReceived_graft, storeFrame_graft]

end

/-! ### What the freeing leaves (R47) -/

section
variable (s : State)

@[simp] theorem judgeNetwork_reports (n : Uplink) : (judgeNetwork n s).reports = s.reports := by
  unfold judgeNetwork
  split
  · rfl
  · split <;> rfl

@[simp] theorem setLost_entries (n : Uplink) (v : Nat) : (setLost n v s).filter.entries = s.filter.entries := by
  unfold setLost
  split
  · rfl
  · rw [judgeNetwork_entries]
    cases n <;> rfl

@[simp] theorem setLost_reports (n : Uplink) (v : Nat) : (setLost n v s).reports = s.reports := by
  unfold setLost
  split
  · rfl
  · rw [judgeNetwork_reports]
    rfl

end

/-- The NETWORK event of a network whose flag a judgement has changed (R97). -/
def networkEvent (n : Uplink) (suspect : Bool) (count : Nat) (now : Time) : EventRecord :=
  { kind := if suspect then .networkSuspect else .networkClear
    whr := BitVec.ofNat 8 (pathNumber n), cls := 0xFF, detail := BitVec.ofNat 24 count, addr := 0, time := now }

/-- Notices with an event where a flag has changed. -/
def Notices.addIf (l : Notices) (changed : Bool) (e : EventRecord) : Notices := if changed then l.add e else l

theorem clearLevel_eq (n : Nat) : clearLevel n = max 1 (n / 2) := by
  unfold clearLevel
  split <;> omega

/-- A judgement of a network: its flag, and an event where the flag changes (R97). -/
theorem judgeNetwork_eq (n : Uplink) (s : State) : judgeNetwork n s =
    { s with
      filter := s.filter.setSuspect n
        (suspectAfter s.settings.suspectThreshold (s.filter.lostCount n) (s.filter.suspect n))
      notices := s.notices.addIf
        (suspectAfter s.settings.suspectThreshold (s.filter.lostCount n) (s.filter.suspect n) != s.filter.suspect n)
        (networkEvent n
          (suspectAfter s.settings.suspectThreshold (s.filter.lostCount n) (s.filter.suspect n))
          (s.filter.lostCount n) s.stationTime) } := by
  have kept : s.filter.setSuspect n (s.filter.suspect n) = s.filter := by cases n <;> rfl
  unfold judgeNetwork suspectAfter
  rw [clearLevel_eq]
  cases flag : s.filter.suspect n
  · by_cases high : s.settings.suspectThreshold ≤ s.filter.lostCount n
    · simp [high, Notices.addIf, networkEvent]
      rfl
    · rw [flag] at kept
      simp [high, Notices.addIf, kept]
  · by_cases low : s.filter.lostCount n < max 1 (s.settings.suspectThreshold / 2)
    · have below : ¬ max 1 (s.settings.suspectThreshold / 2) ≤ s.filter.lostCount n := by omega
      simp only [low, below, Notices.addIf, networkEvent]
      simp
      rfl
    · have level : max 1 (s.settings.suspectThreshold / 2) ≤ s.filter.lostCount n := by omega
      rw [flag] at kept
      simp only [low, level, Notices.addIf]
      simp [kept]

/-- What a network's flag becomes when its count is set to `v` (R47, R97). -/
def suspectAt (s : State) (n : Uplink) (v : Nat) : Bool :=
  if v = s.filter.lostCount n then s.filter.suspect n
  else suspectAfter s.settings.suspectThreshold v (s.filter.suspect n)

/-- A summary count set anew (R47, R97). -/
theorem setLost_eq (n : Uplink) (v : Nat) (s : State) : setLost n v s =
    { s with
      filter := (s.filter.setLostCount n v).setSuspect n (suspectAt s n v)
      notices := s.notices.addIf (suspectAt s n v != s.filter.suspect n)
        (networkEvent n (suspectAt s n v) v s.stationTime) } := by
  unfold setLost suspectAt
  by_cases same : v = s.filter.lostCount n
  · subst same
    simp only [if_true, Notices.addIf, bne_self_eq_false, Bool.false_eq_true, if_false]
    cases n <;> rfl
  · rw [if_neg (Ne.symm same), if_neg same, judgeNetwork_eq]
    cases n <;> rfl

/-- Both summary counts set anew, Network 2's first (R47, R97, log 18). -/
theorem setLost_both (a b : Nat) (s : State) : setLost .u1 b (setLost .u2 a s) =
    { s with
      filter :=
        { s.filter with
          single1 := a, single2 := b, suspect1 := suspectAt s .u1 b, suspect2 := suspectAt s .u2 a }
      notices := (s.notices.addIf (suspectAt s .u2 a != s.filter.suspect .u2)
        (networkEvent .u2 (suspectAt s .u2 a) a s.stationTime)).addIf (suspectAt s .u1 b != s.filter.suspect .u1)
          (networkEvent .u1 (suspectAt s .u1 b) b s.stationTime) } := by
  rw [setLost_eq, setLost_eq]
  rfl

/-- The events of the networks whose flags differ, as they join the Notice Queue. -/
theorem foldl_networkEvents (s y : State) (l : Notices) :
    (networkEvents [.u2, .u1] s y).foldl Notices.add l =
      (l.addIf (y.filter.suspect .u2 != s.filter.suspect .u2)
        (networkEvent .u2 (y.filter.suspect .u2) (y.filter.lostCount .u2) s.stationTime)).addIf
          (y.filter.suspect .u1 != s.filter.suspect .u1)
          (networkEvent .u1 (y.filter.suspect .u1) (y.filter.lostCount .u1) s.stationTime) := by
  unfold networkEvents Notices.addIf
  cases two : y.filter.suspect .u2 != s.filter.suspect .u2 <;>
    cases one : y.filter.suspect .u1 != s.filter.suspect .u1 <;>
      simp [two, one, networkEvent]

/-- The state as a failing entry leaves it before the summary counts are set anew (R47). -/
def entryDropped (i : Nat) (p : Option Port) (c : Option TClass) (s : State) : State :=
  recountPinned (dropEntry i false (report .entryCheck i p c s))

theorem suspectAt_entryDropped (i : Nat) (p : Option Port) (c : Option TClass) (s : State) (n : Uplink) (v : Nat) :
    suspectAt (entryDropped i p c s) n v = suspectAt s n v := by cases n <;> rfl

theorem entryCheckFails_entries (i : Nat) (p : Option Port) (c : Option TClass) (s : State) :
    (entryCheckFails i p c s).filter.entries = Tbl.del s.filter.entries i := by
  rw [entryCheckFails, setLost_entries, setLost_entries]
  rfl

theorem entryOf_entryCheckFails (i : Nat) (p : Option Port) (c : Option TClass) (s : State) (j : Nat) :
    entryOf (entryCheckFails i p c s) j = if j = i then none else entryOf s j := by
  rw [entryOf, entryCheckFails_entries, Tbl.look_del]
  rfl

/-- The summary counts as the freeing leaves them are those of the table that it leaves (R47). -/
theorem entryCheckFails_eq (i : Nat) (p : Option Port) (c : Option TClass) (s : State) :
    entryCheckFails i p c s = setLost .u1 (countLost (entryCheckFails i p c s) .u1)
      (setLost .u2 (countLost (entryCheckFails i p c s) .u2) (entryDropped i p c s)) := by
  have counted : ∀ n, countLost (entryCheckFails i p c s) n = countLost (entryDropped i p c s) n := fun n => by
    rw [countLost, entryCheckFails_entries]
    rfl
  have between : ∀ v, countLost (setLost .u2 v (entryDropped i p c s)) .u1 =
      countLost (entryDropped i p c s) .u1 := fun v => by rw [countLost, setLost_entries, countLost]
  rw [counted, counted, ← between]
  rfl

/-- A failing entry freed, in the terms of the statements (R47, R97). -/
theorem entryFreed_entryCheckFails (i : Nat) (p : Option Port) (c : Option TClass) (s : State) :
    EntryFreed i p c s (entryCheckFails i p c s) := by
  have table := entryOf_entryCheckFails i p c s
  have entries := entryCheckFails_entries i p c s
  have whole := entryCheckFails_eq i p c s
  have only := entryCheckFails_filter i p c s
  have reports : (entryCheckFails i p c s).reports =
      s.reports ++ [{ kind := .entryCheck, location := i, port := p, cls := c }] := by
    rw [entryCheckFails, setLost_reports, setLost_reports]
    rfl
  have pinned : countPinned (dropEntry i false (report .entryCheck i p c s)) =
      countPinned (entryCheckFails i p c s) := by
    rw [countPinned, countPinned, entries]
    rfl
  generalize entryCheckFails i p c s = y at *
  rw [setLost_both, suspectAt_entryDropped, suspectAt_entryDropped] at whole
  have filter := congrArg State.filter whole
  have notices := congrArg State.notices whole
  dsimp only at filter notices
  refine ⟨only, (table i).trans (if_pos rfl), fun j differ => (table j).trans (if_neg differ), reports, ?_,
    fun n => ?_, ?_⟩
  · rw [filter, ← pinned]
    rfl
  · rw [filter]
    cases n <;> rfl
  · rw [foldl_networkEvents, notices, filter]
    rfl

/-! ### The entry that replacement takes (R45) -/

theorem find?_of_unique {α : Type} {l : List α} {p : α → Bool} {a : α} (mem : a ∈ l) (holds : p a = true)
    (unique : ∀ b ∈ l, p b = true → b = a) : l.find? p = some a := by
  cases found : l.find? p with
  | none => exact absurd holds (List.find?_eq_none.mp found a mem)
  | some b => rw [unique b (List.mem_of_find?_eq_some found) (List.find?_some found)]

/-- A candidate for replacement gives way to entry `i`, whose age is `a`. -/
def GivesWay (a : Nat) (best : Option (Nat × Nat)) : Prop := ∀ j b, best = some (j, b) → b < a

/-- Of ways in rising order, the fold ends with the ACTIVE one longest unused, the earliest where ages tie. -/
theorem foldl_olderWay {s : State} {i : Nat} {e : Entry} (entry : entryOf s i = some e) (active : e.state = .active)
    (l : List Nat) (oldest : ∀ j ∈ l, ∀ d, entryOf s j = some d → d.state = .active →
      age s.stationTime d.lastUse < age s.stationTime e.lastUse ∨
      age s.stationTime d.lastUse = age s.stationTime e.lastUse ∧ i ≤ j) :
    (∀ best, best = some (i, age s.stationTime e.lastUse) → l.foldl (olderWay s) best = best) ∧
    (l.Pairwise (· < ·) → i ∈ l → ∀ best, GivesWay (age s.stationTime e.lastUse) best →
      l.foldl (olderWay s) best = some (i, age s.stationTime e.lastUse)) := by
  induction l with
  | nil => exact ⟨fun _ _ => rfl, fun _ mem => absurd mem (by simp)⟩
  | cons j l rest =>
    obtain ⟨settled, found⟩ := rest fun n mem => oldest n (List.mem_cons_of_mem j mem)
    refine ⟨fun best is => ?_, fun sorted mem best weaker => ?_⟩
    · have kept : olderWay s best j = best := by
        unfold olderWay
        split
        · rfl
        · next d there =>
          split
          · next act =>
            have older := oldest j List.mem_cons_self d there act
            rw [is]
            dsimp only
            rw [if_neg (by omega)]
          · rfl
      rw [List.foldl_cons, kept]
      exact settled best is
    · rw [List.foldl_cons]
      obtain ⟨below, sorted'⟩ := List.pairwise_cons.mp sorted
      by_cases same : j = i
      · refine (settled _ ?_).trans ?_ <;>
        · subst same
          unfold olderWay
          rw [entry]
          dsimp only
          rw [if_pos active]
          rcases best with _ | ⟨k, b⟩
          · rfl
          · dsimp only
            rw [if_pos (weaker k b rfl)]
      · have later := (List.mem_cons.mp mem).resolve_left (Ne.symm same)
        refine found sorted' later _ ?_
        unfold olderWay
        split
        · exact weaker
        · next d there =>
          split
          · next act =>
            have younger : age s.stationTime d.lastUse < age s.stationTime e.lastUse := by
              have before := below i later
              rcases oldest j List.mem_cons_self d there act with lt | ⟨_, le⟩ <;> omega
            split
            · intro k b eq
              obtain ⟨rfl, rfl⟩ := Prod.mk.inj (Option.some.inj eq)
              exact younger
            · next k b =>
              split
              · intro m n eq
                obtain ⟨rfl, rfl⟩ := Prod.mk.inj (Option.some.inj eq)
                exact younger
              · exact weaker
          · exact weaker

theorem waysOf_sorted (b : Nat) : (waysOf b).Pairwise (· < ·) := by
  simp [waysOf]

/-- The way that R45 takes in a full bucket is the entry of the statement. -/
theorem victimWay_of_replaced {s : State} {i b : Nat} (replaced : Replaced i b s) : victimWay s b = i := by
  obtain ⟨bucket, _, e, entry, active, oldest⟩ := replaced
  have found := (foldl_olderWay entry active (waysOf b) fun j mem d there =>
    oldest j d (mem_waysOf.mp mem) there).2 (waysOf_sorted b) (mem_waysOf.mpr bucket) none
      fun j a eq => absurd eq (by simp)
  rw [victimWay, found]

end Sys2Proof.Machine

/-! SUPPORT. The first copy of a frame from a new source (R44, R45, R64, R66, R68, R78, R92): the way that is taken, the
entry that is made, and the statement. -/

namespace Sys2Proof.Machine

/-! ### The way taken for a new key (R44, R45) -/

theorem foldl_olderWay_mem {s : State} (good : Nat → Prop) (l : List Nat) (all : ∀ j ∈ l, good j) :
    ∀ best : Option (Nat × Nat), (∀ j a, best = some (j, a) → good j) →
      ∀ j a, l.foldl (olderWay s) best = some (j, a) → good j := by
  induction l with
  | nil => exact fun _ was => was
  | cons n l rest =>
    refine fun best was => rest (fun j mem => all j (List.mem_cons_of_mem n mem)) _ fun j a eq => ?_
    unfold olderWay at eq
    split at eq
    · exact was j a eq
    · split at eq
      · split at eq
        · exact (Prod.mk.inj (Option.some.inj eq)).1 ▸ all n List.mem_cons_self
        · split at eq
          · exact (Prod.mk.inj (Option.some.inj eq)).1 ▸ all n List.mem_cons_self
          · exact was j a eq
      · exact was j a eq

theorem victimWay_bucket (s : State) (b : Nat) : victimWay s b / 4 = b := by
  unfold victimWay
  split
  · next i a found =>
    exact foldl_olderWay_mem (fun j => j / 4 = b) (waysOf b) (fun j => mem_waysOf.mp) none
      (fun j a eq => absurd eq (by simp)) i a found
  · omega

@[simp] theorem lowerCounts_entries (e : Entry) (s : State) :
    (lowerCounts e s).filter.entries = s.filter.entries := by
  unfold lowerCounts
  dsimp only
  split <;> split <;> simp

theorem entryOf_freeEntry_ne {i j : Nat} (differ : j ≠ i) (s : State) :
    entryOf (freeEntry i s) j = entryOf s j := by
  unfold freeEntry
  split
  · have entries : ∀ b x, (dropEntry i b x).filter.entries = Tbl.del x.filter.entries i := fun _ _ => rfl
    rw [entryOf, entries, lowerCounts_entries, Tbl.look_del_ne _ differ]
    rfl
  · rfl

/-- A way of the bucket is taken, every other entry being kept, where the entries of the bucket pass their Checks. -/
theorem takeWay_of_holding {p : Option Port} {b : Nat} {s : State}
    (holds : ∀ i e, i / 4 = b → entryOf s i = some e → e.check = 0) :
    (takeWay p b s).1 / 4 = b ∧ ∀ j, j ≠ (takeWay p b s).1 → entryOf (takeWay p b s).2 j = entryOf s j := by
  unfold takeWay
  split
  · next i found => exact ⟨mem_waysOf.mp (List.mem_of_find?_eq_some found), fun _ _ => rfl⟩
  · refine ⟨victimWay_bucket s b, fun j differ => ?_⟩
    dsimp only at differ ⊢
    unfold replaceEntry
    split
    · rfl
    · next e there =>
      rw [if_pos (holds _ e (victimWay_bucket s b) there)]
      exact entryOf_freeEntry_ne differ s

theorem entryOf_createEntry (i j : Nat) (a : Address) (c : TClass) (st : EntryState) (l : Option Silence)
    (s : State) : entryOf (createEntry i a c st l s) j =
      if j = i then some (newEntry a c st l s.stationTime) else entryOf s j := Tbl.look_put _ _ _ _

/-- A key that no entry holds gets a new ACTIVE entry in its bucket (R44, R45). -/
theorem entryForArrival_of_unheld {p : Port} {a : Address} {c : TClass} {s : State}
    (unheld : ∀ j e, entryOf s j = some e → ¬ (e.addr = a ∧ e.cls = c))
    (holds : ∀ i e, i / 4 = bucketOf a c → entryOf s i = some e → e.check = 0) :
    ∃ i y, entryForArrival p a c s = (i, y) ∧ i / 4 = bucketOf a c ∧ OnlyFilter s y ∧
      ∀ j, entryOf y j = if j = i then some (newEntry a c .active none s.stationTime) else entryOf s j := by
  obtain ⟨bucket, others⟩ := takeWay_of_holding (p := some p) holds
  have made : entryForArrival p a c s = ((takeWay (some p) (bucketOf a c) s).1,
      createEntry (takeWay (some p) (bucketOf a c) s).1 a c .active none (takeWay (some p) (bucketOf a c) s).2) := by
    simp only [entryForArrival, lookupKey_of_unheld unheld]
  have only := takeWay_filter (some p) (bucketOf a c) s
  refine ⟨_, _, made, bucket, only.trans (onFilter_filter _ _), fun j => ?_⟩
  rw [entryOf_createEntry, only.stationTime]
  split
  · rfl
  · next differ => exact others j differ

/-! ### An entry that fails its Check on the way (R45, R47) -/

section
variable {i : Nat} {p : Port} {a : Address} {c : TClass} {e : Entry} {s : State}

/-- Where the entry of the key fails, the arrival finds its entry as after the freeing. -/
theorem entryForArrival_of_failing (form : TableInv s) (entry : entryOf s i = some e) (addr : e.addr = a)
    (cls : e.cls = c) (bad : e.check ≠ 0) :
    entryForArrival p a c s = entryForArrival p a c (entryCheckFails i (some p) (some c) s) := by
  have gone : ∀ j d, entryOf (entryCheckFails i (some p) (some c) s) j = some d → ¬ (d.addr = a ∧ d.cls = c) := by
    intro j d there ⟨addr', cls'⟩
    rw [entryOf_entryCheckFails] at there
    split at there
    · exact absurd there (by simp)
    · next differ => exact differ (form.2.2.2.1 j i d e there entry (addr'.trans addr.symm) (cls'.trans cls.symm))
  simp only [entryForArrival, lookupKey_of_failing form entry addr cls bad, lookupKey_of_unheld gone]

/-- Where the entry that replacement takes fails, likewise. -/
theorem entryForArrival_of_failing_victim (unheld : ∀ j e, entryOf s j = some e → ¬ (e.addr = a ∧ e.cls = c))
    (replaced : Replaced i (bucketOf a c) s) (entry : entryOf s i = some e) (bad : e.check ≠ 0) :
    entryForArrival p a c s = entryForArrival p a c (entryCheckFails i (some p) none s) := by
  have unheld' : ∀ j d, entryOf (entryCheckFails i (some p) none s) j = some d → ¬ (d.addr = a ∧ d.cls = c) := by
    intro j d there
    rw [entryOf_entryCheckFails] at there
    split at there
    · exact absurd there (by simp)
    · exact unheld j d there
  have full : (waysOf (bucketOf a c)).find? (Tbl.free s.filter.entries) = none :=
    List.find?_eq_none.mpr fun j mem => by
      have filled := replaced.2.1 j (mem_waysOf.mp mem)
      rw [entryOf] at filled
      simpa [Tbl.free, Option.isNone_iff_eq_none, Option.isSome_iff_ne_none] using filled
  have one : (waysOf (bucketOf a c)).find? (Tbl.free (entryCheckFails i (some p) none s).filter.entries) = some i := by
    have look : ∀ j, Tbl.free (entryCheckFails i (some p) none s).filter.entries j =
        (if j = i then none else entryOf s j).isNone := fun j => by
      rw [Tbl.free, ← entryOf_entryCheckFails]
      rfl
    refine find?_of_unique (mem_waysOf.mpr replaced.1) (by rw [look, if_pos rfl]; rfl) fun j mem free => ?_
    by_contra differ
    rw [look, if_neg differ] at free
    have filled := replaced.2.1 j (mem_waysOf.mp mem)
    rw [Option.isNone_iff_eq_none] at free
    simp [free] at filled
  have freed : replaceEntry (some p) i s = entryCheckFails i (some p) none s := by
    simp only [replaceEntry, entry, if_neg bad]
  simp only [entryForArrival, lookupKey_of_unheld unheld, lookupKey_of_unheld unheld', takeWay, full, one,
    victimWay_of_replaced replaced, freed]

end

/-- An arrival that finds the same entry in two states is screened to the same (R64). -/
theorem screen_congr {t : Tag} {a : Address} {s y : State}
    (same : entryForArrival (uplinkPort t.path) a t.cls s = entryForArrival (uplinkPort t.path) a t.cls y) :
    screen t a s = screen t a y := by
  rw [screen, screen, same]

/-! ### A tagged frame admitted (R25) -/

section
variable {u : Uplink} {t : Tag} {f : List Octet} {s : State}

/-- A tagged frame admitted is stored, screened and routed by its verdict (R25). -/
theorem exec_screened (serves : s.serving = true) (passes : TagPasses u f t s)
    (foreign : isOwnOrigin s (sourceOf f) = false)
    (adm : admits s f.length (blockFloor s.settings t.cls) (handleFloor s.settings t.cls) = true) :
    exec (.uplinkArrival u f) s = .next (finish (routeVerdict u (lowestHandle (countReceived (uplinkPort u) s))
      (screen t (sourceOf f) (taggedStored u f t s)).1 (screen t (sourceOf f) (taggedStored u f t s)).2.1 t
      (walkUplink s.settings.tagMarker f) f (screen t (sourceOf f) (taggedStored u f t s)).2.2)) := by
  rw [exec_tagged serves passes (foreign_of_isOwnOrigin foreign), routeTagged, admitReceived_of_admits]
  · rfl
  · rwa [countReceived_settings, admits_countReceived]

/-- An arrival's handling is that of the state with an entry freed, where its screening is. -/
theorem exec_of_freed {i : Nat} {c : Option TClass} (serves : s.serving = true) (passes : TagPasses u f t s)
    (foreign : isOwnOrigin s (sourceOf f) = false)
    (adm : admits s f.length (blockFloor s.settings t.cls) (handleFloor s.settings t.cls) = true)
    (same : entryForArrival (uplinkPort t.path) (sourceOf f) t.cls (taggedStored u f t s) =
      entryForArrival (uplinkPort t.path) (sourceOf f) t.cls
        (entryCheckFails i (some (uplinkPort u)) c (taggedStored u f t s))) :
    exec (.uplinkArrival u f) s =
      exec (.uplinkArrival u f) (entryCheckFails i (some (uplinkPort u)) c s) := by
  have only := entryCheckFails_filter i (some (uplinkPort u)) c s
  rw [entryCheckFails_taggedStored] at same
  have serves' := only.serving.trans serves
  generalize entryCheckFails i (some (uplinkPort u)) c s = y at only same serves'
  have handle : lowestHandle (countReceived (uplinkPort u) y) = lowestHandle (countReceived (uplinkPort u) s) := by
    rw [lowestHandle, lowestHandle, countReceived_store, countReceived_store, only.store]
  rw [exec_screened serves passes foreign adm, exec_screened (t := t) serves', screen_congr same, handle, only.settings]
  · rwa [TagPasses, only.settings, only.loader]
  · rwa [isOwnOrigin, only.pairing]
  · rwa [only.settings, admits, freeBlocks, freeHandles, only.store]

end

/-! ### The new entry's first arrival (R64, R68, R78, R92) -/

/-- A new source's entry after its first copy, of tag `t`, has passed (R66, R68, R78, R92). -/
theorem firstCopy_entry {t : Tag} {a : Address} {s : State} (misses : 1 ≤ s.settings.missLimit) :
    (screenEntry s.settings s.stationTime t
      (screeningOf (newEntry a t.cls .active none s.stationTime) s)).2.1 = .first false ∧
    (Entry.arrived
      { (screenEntry s.settings s.stationTime t
          (screeningOf (newEntry a t.cls .active none s.stationTime) s)).1.entry with check := 0 }
      t.path s.stationTime).judged (other t.path) s.settings.missLimit s.stationTime =
      ({ newEntry a t.cls .active none s.stationTime with
          window := some
            { head := t.seq, seen := 1, epoch := t.epoch, prevEpoch := none, lastAccept := s.stationTime }
          declaredInterval := t.interval
          twins := [{ seq := t.seq, firstPath := t.path, firstTime := s.stationTime }]
          accepted := 1 } : Entry).setPath t.path
        { state := .present, lastArrival := some s.stationTime, missRun := 0, missing := 0 } := by
  refine ⟨rfl, ?_⟩
  have young : age s.stationTime s.stationTime = 0 := by simp [age]
  have entry : (screenEntry s.settings s.stationTime t
      (screeningOf (newEntry a t.cls .active none s.stationTime) s)).1.entry =
      { newEntry a t.cls .active none s.stationTime with
        window := some
          { head := t.seq, seen := 1, epoch := t.epoch, prevEpoch := none, lastAccept := s.stationTime }
        declaredInterval := t.interval
        twins := [{ seq := t.seq, firstPath := t.path, firstTime := s.stationTime }]
        accepted := 1 } := rfl
  rw [entry]
  have few : ¬ s.settings.missLimit ≤ 0 := by omega
  cases t.path <;>
    simp [Entry.arrived, Entry.judged, Entry.failed, Entry.silenceOf, Entry.isLost, Entry.setPath, Entry.path, other,
      newEntry, PathRecord.new, young, few]

/-- An arrival whose key no entry holds is screened at a new entry, with the verdict FIRST (R44, R64, R66). -/
theorem screen_of_unheld {t : Tag} {a : Address} {s : State} (misses : 1 ≤ s.settings.missLimit)
    (unheld : ∀ j e, entryOf s j = some e → ¬ (e.addr = a ∧ e.cls = t.cls))
    (holds : ∀ i e, i / 4 = bucketOf a t.cls → entryOf s i = some e → e.check = 0) :
    ∃ i z, screen t a s = (i, .first false, z) ∧ i / 4 = bucketOf a t.cls ∧ ∀ j, entryOf z j = if j = i then some
      (({ newEntry a t.cls .active none s.stationTime with
          window := some
            { head := t.seq, seen := 1, epoch := t.epoch, prevEpoch := none, lastAccept := s.stationTime }
          declaredInterval := t.interval
          twins := [{ seq := t.seq, firstPath := t.path, firstTime := s.stationTime }]
          accepted := 1 } : Entry).setPath t.path
        { state := .present, lastArrival := some s.stationTime, missRun := 0, missing := 0 })
      else entryOf s j := by
  obtain ⟨i, y, found, bucket, made, entries⟩ := entryForArrival_of_unheld (p := uplinkPort t.path) unheld holds
  rw [← made.stationTime] at entries ⊢
  rw [← made.settings] at misses
  obtain ⟨verdict, entry⟩ := firstCopy_entry (t := t) (a := a) misses
  refine ⟨i, pathArrival i t.path (screenedAt i t (newEntry a t.cls .active none y.stationTime) y), ?_, bucket,
    fun j => ?_⟩
  · rw [screen, found]
    dsimp only
    rw [screenAt_eq ((entries i).trans (if_pos rfl)), verdict]
  · rw [entryOf_screened, entry, entries]
    split <;> rfl

/-! ### The statement -/

/-- The frame of a first copy, screened and placed in its bay queue (R25, R153). -/
theorem firstCopy_placed {u : Uplink} {f : List Octet} {t : Tag} {s z x : State}
    (adm : admits s f.length (blockFloor s.settings t.cls) (handleFloor s.settings t.cls) = true)
    (only : OnlyFilter (taggedStored u f t s) z)
    (room : (s.bay.queue (bayQueueOf t.cls)).entries.length < bayCapacity (bayQueueOf t.cls))
    (x_eq : x = (offerBay (some (uplinkPort u)) (bayQueueOf t.cls) (lowestHandle (countReceived (uplinkPort u) s))
      (setRefs (lowestHandle (countReceived (uplinkPort u) s)) 1 z)).2) :
    OnlyStorage z x ∧
    (∃ g, handleOf s (lowestHandle (countReceived (uplinkPort u) s)) = none ∧
      handleOf x (lowestHandle (countReceived (uplinkPort u) s)) = some g ∧ storedFrame x g = f ∧ g.refs = 1 ∧
      g.cls = t.cls ∧ g.tag = some (receivedFields t)) ∧
    x.bay.queue (bayQueueOf t.cls) = (s.bay.queue (bayQueueOf t.cls)).join
      { handle := lowestHandle (countReceived (uplinkPort u) s), seqOffset := false, fcsCorrupt := false } ∧
    ∀ q, q ≠ bayQueueOf t.cls → x.bay.queue q = s.bay.queue q := by
  obtain ⟨free, live, octets⟩ := admitted_stored (c := t.cls) (t := some (receivedFields t))
    ((admits_countReceived (uplinkPort u) s f.length _ _).trans adm)
  have queues : ∀ h q, (setRefs h 1 z).bay.queue q = s.bay.queue q := fun h q => by
    rw [setRefs_queue, only.bay, taggedStored_queue]
  have joined := x_eq.trans (offerBay_of_room (by rwa [queues]))
  have stored : handleOf z (lowestHandle (countReceived (uplinkPort u) s)) =
      some (storedHandle f t.cls (some (receivedFields t)) (countReceived (uplinkPort u) s)) :=
    (handleOf_of_store only.store _).trans live
  refine ⟨x_eq ▸ (setRefs_storage _ 1 z).trans (offerBay_storage _ _ _ _),
    ⟨{ storedHandle f t.cls (some (receivedFields t)) (countReceived (uplinkPort u) s) with refs := 1 },
      (handleOf_countReceived _ s _).symm.trans free, ?_, ?_, rfl, rfl, rfl⟩, ?_, fun q differ => ?_⟩
  · rw [joined]
    exact (handleOf_setRefs _ _ _ _).trans ((if_pos rfl).trans (by rw [stored]; rfl))
  · have blocks : x.store.blocks = (taggedStored u f t s).store.blocks := by
      rw [joined, State.onBay_store, setRefs, writeHandle_blocks, only.store]
    exact (storedFrame_congr blocks rfl).trans octets
  · rw [joined, State.onBay_bay, BayEgress.queue_onQueue_self, queues]
  · rw [joined, State.onBay_bay, BayEgress.queue_onQueue_ne _ _ differ, queues]

theorem OnlyFilter.port {s y : State} (only : OnlyFilter s y) (u : Uplink) : y.port (uplinkPort u) = s.port (uplinkPort u) := by
  cases u with
  | u1 => exact only.portU1
  | u2 => exact only.portU2

/-- A first copy out of the part's station, with room in its bay queue (R25). -/
theorem routeVerdict_to_bay {u : Uplink} {h i : Nat} {v : Verdict} {t : Tag} {w : Walk} {f : List Octet} {s : State}
    (go : goesOn s.settings v = true) (cls : t.cls ≠ .presence) (dest : destOf f ≠ s.loader.stationAddress) :
    routeVerdict u h i v t w f s = (offerBay (some (uplinkPort u)) (bayQueueOf t.cls) h (setRefs h 1 s)).2 := by
  rw [routeVerdict, if_neg (by simp [go]), if_neg cls, if_neg dest]

/-- Settles O40: the frame is stored, its key gets a new entry that the verdict FIRST fills, and it joins its bay queue;
an entry that fails its Check on the way is freed and reported first, whether before or after the storing. -/
theorem firstCopyReachesTheBay : Obligations.FirstCopyReachesTheBay := by
  refine ⟨fun u f t s serves _ form good short long tagged pause valid path cls foreign dest misses adm unheld holds
    room => ?_, fun u f t i d s serves form passes foreign adm entry bad => ⟨fun addr cls => ?_, fun unheld replaced =>
      ?_⟩⟩
  · -- a first copy
    subst path
    have passes : TagPasses t.path f t s :=
      ⟨good, short, long, tagged, pause, valid, rfl, fun presence => absurd presence cls⟩
    have table := entryOf_taggedStored t.path f t s
    have stored := taggedStored_storage t.path f t s
    obtain ⟨i, z, scr, bucket, entries⟩ := screen_of_unheld (t := t) (a := sourceOf f) (s := taggedStored t.path f t s)
      (by rwa [taggedStored_settings]) (fun j e there => unheld j e (table j ▸ there))
      fun j e same there => holds j e same (table j ▸ there)
    rw [taggedStored_stationTime] at entries
    have only := screen_filter t (sourceOf f) (taggedStored t.path f t s)
    have arrival := exec_screened serves passes foreign adm
    rw [scr] at only arrival
    rw [routeVerdict_to_bay rfl cls (by rwa [only.loader, stored.loader, countReceived_loader])] at arrival
    obtain ⟨placed, ⟨g, free, live, octets, refs, gcls, gtag⟩, tail, others⟩ := firstCopy_placed adm only room rfl
    have kept : ∀ j, entryOf _ j = entryOf z j := entryOf_of_entries (congrArg Filter.entries placed.filter)
    refine ⟨i, _, g, _, handledTo_of_eq arrival, bucket, ?_, fun j differ => ?_, free, live, octets, refs, gcls, gtag,
      tail, others, ?_, ?_, ?_, ?_, ?_, ?_, ?_, ?_⟩
    · rw [kept, entries, if_pos rfl]
    · rw [kept, entries, if_neg differ, table]
    · rw [placed.port, only.port, stored.port, countReceived, State.onPort_port]
    · rw [placed.u1, only.u1, stored.u1, countReceived, State.onPort_u1]
    · rw [placed.u2, only.u2, stored.u2, countReceived, State.onPort_u2]
    · rw [placed.pairing, only.pairing, stored.pairing, countReceived_pairing]
    · rw [placed.settings, only.settings, taggedStored_settings]
    · rw [placed.loader, only.loader, stored.loader, countReceived_loader]
    · rw [placed.presence, only.presence, stored.presence, countReceived, State.onPort_presence]
    · rw [placed.faults, only.faults, stored.faults, countReceived, State.onPort_faults]
  · -- the entry of the key fails its Check
    have path : t.path = u := passes.2.2.2.2.2.2.1
    refine ⟨_, entryFreed_entryCheckFails i _ _ s, exec_of_freed serves passes foreign adm ?_⟩
    rw [path]
    exact entryForArrival_of_failing (tableInv_taggedStored u f t s form)
      ((entryOf_taggedStored u f t s i).trans entry) addr cls bad
  · -- the entry that replacement takes fails its Check
    have path : t.path = u := passes.2.2.2.2.2.2.1
    have table := entryOf_taggedStored u f t s
    refine ⟨_, entryFreed_entryCheckFails i _ _ s, exec_of_freed serves passes foreign adm ?_⟩
    rw [path]
    refine entryForArrival_of_failing_victim (fun j e there => unheld j e (table j ▸ there)) ?_
      ((table i).trans entry) bad
    simpa only [Replaced, table, taggedStored_stationTime] using replaced

end Sys2Proof.Machine

/-! SUPPORT. The copies of a paired frame under injection (R123, R133 to R136): what one uplink's part leaves with
room in its queue, and what both parts leave. -/

namespace Sys2Proof.Machine

/-! ### One uplink's part -/

/-- A copy goes out: its link is UP and injection does not omit it (R123, R134). -/
def UplinkEgress.copies (e : UplinkEgress) (k : Option InjectKind) : Bool := e.linkUp && k != some .omit

/-- An uplink after its part of R123, with room in its queue. -/
def UplinkEgress.copied (e : UplinkEgress) (c : TClass) (h : Nat) (k : Option InjectKind) : UplinkEgress :=
  if e.copies k then
    e.onQueue (slotClassOf c) fun x => x.join (copyEntry h (k == some .seqOffset) (k == some .fcsCorrupt))
  else e

/-- What one uplink's part counts: an injected copy, or one that a DOWN link withholds (R123, R136). -/
def Pairing.countCopy (p : Pairing) (up : Bool) (k : Option InjectKind) : Pairing :=
  if up then
    if k = none then p else p.onCounters fun c => { c with injectedCopies := c.injectedCopies + 1 }
  else p.countDown

/-- The class queue of an uplink that is UP has room. -/
def RoomFor (c : TClass) (e : UplinkEgress) : Prop :=
  e.linkUp = true → (e.queue (slotClassOf c)).entries.length < uplinkCapacity (slotClassOf c)

/-- A reference kept, or released. -/
def keepOrRelease (keep : Bool) (p : Option Port) (h : Nat) (s : State) : State := if keep then s else release p h s

theorem keepOrRelease_storage (keep : Bool) (p : Option Port) (h : Nat) (s : State) :
    OnlyStorage s (keepOrRelease keep p h s) := by
  unfold keepOrRelease
  split
  · exact .refl s
  · exact release_storage p h s

theorem State.onUplink_self (s : State) (u : Uplink) {f : UplinkEgress → UplinkEgress}
    (h : f (s.uplink u) = s.uplink u) : s.onUplink u f = s := by
  rw [s.onUplink_congr (g := id) h]
  cases u <;> rfl

section
variable {p : Option Port} {h : Nat} {c : TClass} {k : Option InjectKind} {u : Uplink} {s : State}

/-- Where the copy goes out it joins its queue, marked as injection has it (R139). -/
theorem offerUplink_copied (up : (s.uplink u).linkUp = true) (room : RoomFor c (s.uplink u)) (out : k ≠ some .omit) :
    offerUplink p u (slotClassOf c) (copyEntry h (k == some .seqOffset) (k == some .fcsCorrupt)) s =
      s.onUplink u fun e => e.copied c h k :=
  (if_pos (room up)).trans (s.onUplink_congr (by simp [UplinkEgress.copied, UplinkEgress.copies, up, out]))

/-- Where it does not, the uplink is as it was. -/
theorem release_copied (still : (s.uplink u).copies k = false) :
    ((release p h s).onUplink u fun e => e.copied c h k) = release p h s :=
  State.onUplink_self _ _ (by simp [UplinkEgress.copied, (release_storage p h s).uplink u, still])

/-- With room, one uplink's part is its egress, the count and the reference, each by itself (R123). -/
theorem placeCopy_of_room (room : RoomFor c (s.uplink u)) : placeCopy p h c k u s =
    ((keepOrRelease ((s.uplink u).copies k) p h s).onUplink u fun e => e.copied c h k).onPairing fun n =>
      n.countCopy (s.uplink u).linkUp k := by
  cases up : (s.uplink u).linkUp with
  | false =>
    have still : (s.uplink u).copies k = false := by simp [UplinkEgress.copies, up]
    simp only [placeCopy, up, still, keepOrRelease, Bool.false_eq_true, if_false, release_copied still]
    rfl
  | true =>
    by_cases out : k = some .omit
    · subst out
      have still : (s.uplink u).copies (some .omit) = false := by simp [UplinkEgress.copies]
      simp only [placeCopy, up, still, keepOrRelease, Bool.false_eq_true, if_false, if_true, release_copied still]
      rfl
    · have kept : (s.uplink u).copies k = true := by simp [UplinkEgress.copies, up, out]
      have joined := offerUplink_copied (p := p) (h := h) up room out
      simp only [placeCopy, up, kept, keepOrRelease, if_true, ← joined]
      rcases k with _ | _ | _ | _
      · rfl
      · exact absurd rfl out
      · rfl
      · rfl

theorem placeCopy_uplink_of_room (room : RoomFor c (s.uplink u)) (v : Uplink) :
    (placeCopy p h c k u s).uplink v = if v = u then (s.uplink u).copied c h k else s.uplink v := by
  have kept := (keepOrRelease_storage ((s.uplink u).copies k) p h s).uplink
  rw [placeCopy_of_room room, State.onPairing_uplink]
  split
  · next same => rw [same, State.onUplink_uplink, kept]
  · next differ => rw [State.onUplink_uplink_ne _ _ differ, kept]

theorem placeCopy_pairing_of_room (room : RoomFor c (s.uplink u)) :
    (placeCopy p h c k u s).pairing = s.pairing.countCopy (s.uplink u).linkUp k := by
  rw [placeCopy_of_room room, State.onPairing_pairing, State.onUplink_pairing, (keepOrRelease_storage _ p h s).pairing]

theorem handleOf_placeCopy_of_room_ne (room : RoomFor c (s.uplink u)) {n : Nat} (differ : n ≠ h) :
    handleOf (placeCopy p h c k u s) n = handleOf s n := by
  rw [placeCopy_of_room room, handleOf_onPairing, handleOf_onUplink, keepOrRelease]
  split
  · rfl
  · exact handleOf_release_ne p s differ

/-- The reference meant for the copy is kept where it goes out (R32, R123); the blocks are kept while references
are left. -/
theorem placeCopy_held_of_room (room : RoomFor c (s.uplink u)) {n : Nat} {r : Handle}
    (live : handleOf s h = r.held (n + 1)) (q : r.quarantined = false) (check : r.check = 0) :
    handleOf (placeCopy p h c k u s) h = r.held (n + ((s.uplink u).copies k).toNat) ∧
    (0 < n + ((s.uplink u).copies k).toNat → (placeCopy p h c k u s).store.blocks = s.store.blocks) := by
  rw [placeCopy_of_room room, handleOf_onPairing, handleOf_onUplink, State.onPairing_store, State.onUplink_store,
    keepOrRelease]
  cases (s.uplink u).copies k with
  | true => exact ⟨live, fun _ => rfl⟩
  | false => exact ⟨handleOf_release_held live q check, release_blocks_of_held live q check⟩

theorem placeCopy_holdKept (room : RoomFor c (s.uplink u)) : HoldKept s (placeCopy p h c k u s) := by
  rw [placeCopy_of_room room]
  refine HoldKept.trans (x := keepOrRelease ((s.uplink u).copies k) p h s) ?_ (.of_eq (by simp) (by simp))
  unfold keepOrRelease
  split
  · exact .refl s
  · exact release_holdKept p h s

theorem placeCopy_queue_of_room (room : RoomFor c (s.uplink u)) (q : BayQueue) :
    (placeCopy p h c k u s).bay.queue q = s.bay.queue q := by
  rw [placeCopy_of_room room, State.onPairing_bay, State.onUplink_bay, keepOrRelease]
  split
  · rfl
  · exact release_queue _ _ p h

end

/-! ### Both parts -/

/-- The Pairing Unit after injection is judged: a ONCE is spent by a match (R133). -/
def Pairing.spend (p : Pairing) (hit : Bool) : Pairing :=
  if hit = true ∧ p.injection.mode = .once then { p with injection := { p.injection with mode := .off } } else p

theorem spendInjection_eq (hit : Bool) (s : State) : spendInjection hit s = s.onPairing fun p => p.spend hit := by
  by_cases spent : hit = true ∧ s.pairing.injection.mode = .once
  · simp only [spendInjection, State.onPairing, Pairing.spend, if_pos spent]
  · simp only [spendInjection, State.onPairing, Pairing.spend, if_neg spent]

section
variable {p : Option Port} {h : Nat} {c : TClass} {b : Bool} {s : State} {k1 k2 : Option InjectKind}

/-- The kinds injected on the two uplinks, and the Pairing Unit they leave (R133 to R136). -/
def Pairing.copied (n : Pairing) (hit up1 up2 : Bool) (k1 k2 : Option InjectKind) : Pairing :=
  ((n.spend hit).countCopy up1 k1).countCopy up2 k2

/-- What the two parts of a paired frame leave, with room in the class queues of the uplinks that are UP and `hit`
where injection acts (R119, R123). -/
theorem placeCopies_of_room {hit : Bool} (room : ∀ u, RoomFor c (s.uplink u)) {x : State}
    (match_eq : (b && injectionMatches s c) = hit) (kind1 : injectedKind s hit .u1 = k1)
    (kind2 : injectedKind s hit .u2 = k2) (x_eq : placeCopies p h c b s = x) :
    x.u1 = s.u1.copied c h k1 ∧ x.u2 = s.u2.copied c h k2 ∧
    x.pairing = s.pairing.copied hit s.u1.linkUp s.u2.linkUp k1 k2 ∧
    (∀ n, n ≠ h → handleOf x n = handleOf s n) ∧
    (∀ r, handleOf s h = some r → r.quarantined = false → r.check = 0 →
      handleOf x h = r.held ((s.u1.copies k1).toNat + (s.u2.copies k2).toNat) ∧
      (0 < (s.u1.copies k1).toNat + (s.u2.copies k2).toNat → x.store.blocks = s.store.blocks)) ∧
    HoldKept s x ∧ (∀ q, x.bay.queue q = s.bay.queue q) := by
  have start : ∀ u, (setRefs h 2 (spendInjection hit s)).uplink u = s.uplink u := fun u => by
    rw [setRefs_uplink, spendInjection_eq, State.onPairing_uplink]
  have room1 : RoomFor c ((setRefs h 2 (spendInjection hit s)).uplink .u1) := by rw [start]; exact room .u1
  have mid := placeCopy_uplink_of_room (p := p) (h := h) (k := k1) room1
  have room2 : RoomFor c ((placeCopy p h c k1 .u1 (setRefs h 2 (spendInjection hit s))).uplink .u2) := by
    rw [mid, if_neg (by decide), start]; exact room .u2
  have last := placeCopy_uplink_of_room (p := p) (h := h) (k := k2) room2
  simp only [placeCopies, match_eq, kind1, kind2] at x_eq
  subst x_eq
  refine ⟨?_, ?_, ?_, fun n differ => ?_, fun r live q check => ?_, ?_, fun q => ?_⟩
  · refine (last .u1).trans ?_
    rw [if_neg (by decide), mid, if_pos rfl, start]
    rfl
  · refine (last .u2).trans ?_
    rw [if_pos rfl, mid, if_neg (by decide), start]
    rfl
  · rw [placeCopy_pairing_of_room room2, placeCopy_pairing_of_room room1, mid, if_neg (by decide), start, start,
      (setRefs_storage h 2 _).pairing, spendInjection_eq]
    rfl
  · rw [handleOf_placeCopy_of_room_ne room2 differ, handleOf_placeCopy_of_room_ne room1 differ, handleOf_setRefs,
      if_neg differ, spendInjection_eq, handleOf_onPairing]
  · have two : handleOf (setRefs h 2 (spendInjection hit s)) h = r.held (1 + 1) := by
      rw [handleOf_setRefs, if_pos rfl, spendInjection_eq, handleOf_onPairing, live]
      simp [Handle.held, check]
    obtain ⟨one, blocks1⟩ := placeCopy_held_of_room (p := p) (k := k1) room1 two q check
    rw [start, Nat.add_comm] at one blocks1
    obtain ⟨none, blocks2⟩ := placeCopy_held_of_room (p := p) (k := k2) room2 one q check
    rw [mid, if_neg (by decide), start] at none blocks2
    refine ⟨none, fun left => ?_⟩
    rw [blocks2 left, blocks1 (by omega), setRefs, writeHandle_blocks, spendInjection_eq, State.onPairing_store]
  · refine HoldKept.trans (HoldKept.trans ?_ (placeCopy_holdKept room1)) (placeCopy_holdKept room2)
    rw [spendInjection_eq]
    exact writeHandle_holdKept h _ _
  · rw [placeCopy_queue_of_room room2, placeCopy_queue_of_room room1, setRefs_queue, spendInjection_eq,
      State.onPairing_bay]

end

end Sys2Proof.Machine

/-! SUPPORT. The sender of a bay frame and the number it takes (R117, R118, R121): held, learned or untabled. -/

namespace Sys2Proof.Machine

/-! ### Tables -/

theorem Tbl.look_of_mem {α : Type} {t : Tbl α} {k : Nat} {a : α} (form : Tbl.wf t = true) (mem : (k, a) ∈ t) :
    Tbl.look t k = some a := by
  induction t with
  | nil => exact absurd mem List.not_mem_nil
  | cons p t ih =>
    obtain ⟨j, b⟩ := p
    simp only [Tbl.wf, Bool.and_eq_true] at form
    rcases List.mem_cons.mp mem with same | rest
    · cases same
      exact if_pos rfl
    · have look := ih form.2 rest
      have differ : j ≠ k := fun same => by
        rw [Tbl.look_of_above form.1 (by omega)] at look
        cases look
      exact (if_neg differ).trans look

theorem Tbl.lowestFree_head {α : Type} {t : Tbl α} {fuel k i need : Nat} (free : Tbl.look t i = none) (low : k ≤ i)
    (high : i < k + fuel) (taken : ∀ j, k ≤ j → j < i → (Tbl.look t j).isSome = true) :
    (Tbl.lowestFree t fuel k (need + 1)).head? = some i := by
  induction fuel generalizing k with
  | zero => omega
  | succ fuel ih =>
    rcases Nat.eq_or_lt_of_le low with rfl | above
    · simp [Tbl.lowestFree, Tbl.free, free]
    · have held := taken k (Nat.le_refl k) above
      have busy : Tbl.free t k = false := by simpa [Tbl.free, Option.isSome_iff_ne_none] using held
      rw [Tbl.lowestFree, busy, if_neg (by decide)]
      exact ih above (by omega) fun j lo hi => taken j (by omega) hi

theorem Tbl.lowestFree_of_full {α : Type} {t : Tbl α} {fuel k need : Nat}
    (taken : ∀ j, k ≤ j → j < k + fuel → (Tbl.look t j).isSome = true) : Tbl.lowestFree t fuel k need = [] :=
  List.eq_nil_iff_forall_not_mem.mpr fun n mem => by
    obtain ⟨free, low, high⟩ := Tbl.lowestFree_spec _ _ _ _ _ mem
    have held := taken n low high
    rw [free] at held
    cases held

/-! ### Finding the sender (R117) -/

section
variable {a : Address} {c : TClass} {i : Nat} {e : OriginEntry} {s : State}

theorem findOrigin_of_held (form : Tbl.wf s.pairing.entries = true) (entry : originOf s i = some e) (addr : e.addr = a)
    (unique : ∀ j d, originOf s j = some d → d.addr = a → j = i) : findOrigin s a = some i := by
  have found : s.pairing.entries.find? (fun p => p.2.addr == a) = some (i, e) := by
    refine find?_of_unique (Tbl.mem_of_look entry) (by simpa using addr) fun p mem holds => ?_
    have look := Tbl.look_of_mem form mem
    have same : p.1 = i := unique p.1 p.2 look (by simpa using holds)
    rw [same] at look
    exact Prod.ext same (Option.some.inj (look.symm.trans entry))
  rw [findOrigin, found]
  rfl

theorem findOrigin_of_unheld (form : Tbl.wf s.pairing.entries = true)
    (unheld : ∀ j d, originOf s j = some d → d.addr ≠ a) : findOrigin s a = none := by
  rw [findOrigin, Option.map_eq_none_iff, List.find?_eq_none]
  exact fun p mem => by simpa using unheld p.1 p.2 (Tbl.look_of_mem form mem)

theorem OriginInv.unique (form : OriginInv s) (entry : originOf s i = some e) (addr : e.addr = a) :
    ∀ j d, originOf s j = some d → d.addr = a → j = i :=
  fun j d other same => form.2.2.1 j i d e other entry (same.trans addr.symm)

theorem freeOrigin_of_lowest (low : 1 ≤ i) (high : i ≤ 63) (free : originOf s i = none)
    (taken : ∀ j, 1 ≤ j → j < i → (originOf s j).isSome = true) : freeOrigin s = some i :=
  Tbl.lowestFree_head free low (by omega) taken

theorem freeOrigin_of_full (taken : ∀ j, 1 ≤ j → j ≤ 63 → (originOf s j).isSome = true) : freeOrigin s = none := by
  rw [freeOrigin, Tbl.lowestFree_of_full fun j lo hi => taken j lo (by omega)]
  rfl

/-- A LEARNED entry as it is made (R114, R117). -/
def learnedOrigin (a : Address) (s : State) : OriginEntry := newOrigin .learned a s.pairing.epochCounter s.stationTime

/-- The Pairing Unit with entry `i` learned as `e` (R114, R117). -/
def Pairing.learn (p : Pairing) (i : Nat) (e : OriginEntry) : Pairing :=
  { p with
    entries := Tbl.put p.entries i e, originInUse := p.originInUse + 1, epochCounter := p.epochCounter + 1
    counters := { p.counters with originLearned := p.counters.originLearned + 1 } }

/-- An address held, the entry's Check holding: Last Seen is written (R117). -/
theorem senderOf_held (form : OriginInv s) (entry : originOf s i = some e) (addr : e.addr = a) (holds : e.check = 0) :
    senderOf c a s = (.entry i, putOrigin i { e with lastSeen := s.stationTime } s) := by
  have found : lookupOrigin (some .b) (some c) a s = (some i, s) := by
    simp only [lookupOrigin, findOrigin_of_held form.1 entry addr (form.unique entry addr), verifyOrigin, entry, holds,
      if_true]
  simp only [senderOf, found, touchOrigin, entry]

theorem lookupOrigin_of_unheld (form : OriginInv s) (unheld : ∀ j d, originOf s j = some d → d.addr ≠ a) :
    lookupOrigin (some .b) (some c) a s = (none, s) := by
  simp only [lookupOrigin, findOrigin_of_unheld form.1 unheld]

/-- A new address with a FREE entry is learned in the lowest (R117). -/
theorem senderOf_learned (form : OriginInv s) (unheld : ∀ j d, originOf s j = some d → d.addr ≠ a)
    (free : freeOrigin s = some i) :
    senderOf c a s = (.entry i, s.onPairing fun p => p.learn i (learnedOrigin a s)) := by
  simp only [senderOf, lookupOrigin_of_unheld form unheld, free]
  rfl

/-- A new address without one is untabled (R117, R118). -/
theorem senderOf_overflow (form : OriginInv s) (unheld : ∀ j d, originOf s j = some d → d.addr ≠ a)
    (full : freeOrigin s = none) : senderOf c a s = (.overflow, s) := by
  simp only [senderOf, lookupOrigin_of_unheld form unheld, full]

end

/-! ### The number taken (R118, R121) -/

/-- A handle's tag fields written (R121). -/
def writeTag (h : Nat) (t : TagFields) (s : State) : State := writeHandle h (fun r => { r with tag := some t }) s

/-- A frame from `a` of class `c` is stamped with `seq` and `epoch`, and its numbering leaves the Pairing Unit `p`
(R117, R118, R121). -/
def Stamps (s : State) (a : Address) (c : TClass) (seq : BitVec 16) (epoch : BitVec 3) (p : Pairing) : Prop :=
  ∃ n z, senderOf c a s = (n, z) ∧
    ∀ h, stamp n h c z = (writeTag h (stampFields seq epoch c s.settings) s).onPairing fun _ => p

/-- The Pairing Unit after a stamping from held entry `i`. -/
def Pairing.stampHeld (p : Pairing) (i : Nat) (e : OriginEntry) (c : TClass) (now : Time) : Pairing :=
  { p with entries := Tbl.put p.entries i { e.stamped c now with check := 0 } }

/-- The Pairing Unit after a stamping from the Overflow counter. -/
def Pairing.stampOverflow (p : Pairing) : Pairing :=
  { p with
    overflowSequence := p.overflowSequence + 1
    counters := { p.counters with proxyOverflow := p.counters.proxyOverflow + 1 } }

theorem writeTag_onPairing (h : Nat) (t : TagFields) (f : Pairing → Pairing) (s : State) :
    writeTag h t (s.onPairing f) = (writeTag h t s).onPairing f := by
  have same : handleOf (s.onPairing f) h = handleOf s h := rfl
  rw [writeTag, writeTag, writeHandle, writeHandle, same]
  split <;> rfl

theorem writeTag_storage (h : Nat) (t : TagFields) (s : State) : OnlyStorage s (writeTag h t s) :=
  writeHandle_storage h _ s

/-- An update of the Pairing Unit, written as the one it makes. -/
theorem writeTag_onPairing_const (h : Nat) (t : TagFields) (f : Pairing → Pairing) (s : State) :
    (writeTag h t s).onPairing f = (writeTag h t s).onPairing fun _ => f s.pairing := by
  rw [State.onPairing, State.onPairing, (writeTag_storage h t s).pairing]

/-- A stamping from an entry (R121). -/
theorem stamp_entry {i h : Nat} {c : TClass} {e : OriginEntry} {s : State} (entry : originOf s i = some e) :
    stamp (.entry i) h c s = putOrigin i { e with next := e.next.set c (e.next.get c + 1) }
      (writeTag h (stampFields (e.next.get c) e.epoch c s.settings) s) := by
  simp only [stamp, entry, writeTag]

theorem TClass.get_noSequences (c : TClass) : noSequences.get c = 0 := by cases c <;> rfl

section
variable {a : Address} {c : TClass} {i : Nat} {e : OriginEntry} {s : State}

theorem stamps_held (form : OriginInv s) (entry : originOf s i = some e) (addr : e.addr = a) (holds : e.check = 0) :
    Stamps s a c (e.next.get c) e.epoch (s.pairing.stampHeld i e c s.stationTime) := by
  refine ⟨_, _, senderOf_held form entry addr holds, fun h => ?_⟩
  rw [stamp_entry ((originOf_putOrigin _ _ _ _).trans (if_pos rfl)), writeTag, writeHandle_putOrigin,
    putOrigin_putOrigin]
  exact writeTag_onPairing_const h _ (fun p => p.stampHeld i e c s.stationTime) s

/-- The Pairing Unit after a stamping from an entry that the frame learns. -/
def Pairing.stampLearned (p : Pairing) (i : Nat) (a : Address) (c : TClass) (now : Time) : Pairing :=
  p.learn i { newOrigin .learned a p.epochCounter now with next := noSequences.set c 1 }

theorem stamps_learned (form : OriginInv s) (unheld : ∀ j d, originOf s j = some d → d.addr ≠ a)
    (free : freeOrigin s = some i) :
    Stamps s a c 0 s.pairing.epochCounter (s.pairing.stampLearned i a c s.stationTime) := by
  refine ⟨_, _, senderOf_learned form unheld free, fun h => ?_⟩
  have entry : originOf (s.onPairing fun p => p.learn i (learnedOrigin a s)) i = some (learnedOrigin a s) :=
    Tbl.look_put_self _ _ _
  have none : (learnedOrigin a s).next.get c = 0 := TClass.get_noSequences c
  rw [stamp_entry entry, none, writeTag_onPairing, writeTag_onPairing_const]
  simp only [putOrigin, State.onPairing, Pairing.learn, Pairing.stampLearned, Tbl.put_put]
  rfl

theorem stamps_overflow (form : OriginInv s) (unheld : ∀ j d, originOf s j = some d → d.addr ≠ a)
    (full : freeOrigin s = none) :
    Stamps s a c s.pairing.overflowSequence s.pairing.overflowEpoch s.pairing.stampOverflow := by
  exact ⟨_, _, senderOf_overflow form unheld full, fun h => writeTag_onPairing_const h _ Pairing.stampOverflow s⟩

end

end Sys2Proof.Machine

/-! SUPPORT. A bay frame admitted (R24, R119): its storage, its numbering, and what the pairing of it in RUN leaves. -/

namespace Sys2Proof.Machine

/-! ### A bay frame stored -/

/-- A bay frame of class `c` counted and stored (R16, R24). -/
def bayStored (f : List Octet) (c : TClass) (s : State) : State := storeFrame f c none (countReceived .b s)

theorem storeFrame_holdKept (f : List Octet) (c : TClass) (t : Option TagFields) (s : State) :
    HoldKept s (storeFrame f c t s) := HoldKept.trans (.of_eq rfl rfl) (pauseTest_holdKept _)

section
variable (f : List Octet) (c : TClass) (s : State)

theorem bayStored_storage : OnlyStorage (countReceived .b s) (bayStored f c s) := storeFrame_storage _ _ _ _

theorem bayStored_pairing : (bayStored f c s).pairing = s.pairing := (bayStored_storage f c s).pairing
theorem bayStored_settings : (bayStored f c s).settings = s.settings := (bayStored_storage f c s).settings
theorem bayStored_loader : (bayStored f c s).loader = s.loader := (bayStored_storage f c s).loader
theorem bayStored_stationTime : (bayStored f c s).stationTime = s.stationTime := (bayStored_storage f c s).stationTime
theorem bayStored_u1 : (bayStored f c s).u1 = s.u1 := (bayStored_storage f c s).u1
theorem bayStored_u2 : (bayStored f c s).u2 = s.u2 := (bayStored_storage f c s).u2

theorem bayStored_uplink (u : Uplink) : (bayStored f c s).uplink u = s.uplink u := by
  cases u with
  | u1 => exact bayStored_u1 f c s
  | u2 => exact bayStored_u2 f c s

theorem anyLinkUp_bayStored : anyLinkUp (bayStored f c s) = anyLinkUp s := by
  rw [anyLinkUp, bayStored_u1, bayStored_u2, anyLinkUp]

theorem originOf_bayStored (i : Nat) : originOf (bayStored f c s) i = originOf s i := by
  rw [originOf, bayStored_pairing, originOf]

theorem bayStored_queue (q : BayQueue) : (bayStored f c s).bay.queue q = s.bay.queue q := storeFrame_queue _ _ _ _ _

theorem bayStored_framesReceived : (bayStored f c s).portB.framesReceived = s.portB.framesReceived + 1 := by
  obtain ⟨_, _, port⟩ := storeFrame_holdKept f c none (countReceived .b s)
  rw [bayStored, port]
  rfl

theorem handleOf_bayStored_ne {n : Nat} (differ : n ≠ lowestHandle s) :
    handleOf (bayStored f c s) n = handleOf s n := by
  refine (handleOf_storeFrame _ _ _ _ _).trans ((if_neg differ).trans ?_)
  exact handleOf_countReceived .b s n

variable {f c s}

theorem originInv_bayStored (form : OriginInv s) : OriginInv (bayStored f c s) := by
  unfold OriginInv
  simp only [originOf_bayStored, bayStored_pairing, bayStored_loader]
  exact form

/-- A bay frame addressed past the part and admitted is stored, and goes to the Pairing Unit (R24). -/
theorem exec_bayFrame (passes : BayPasses f s) (dest : destOf f ≠ s.loader.stationAddress)
    (cls : classify s.settings ((walkBay f).type f) (walkBay f).priority = c)
    (adm : admits s f.length (blockFloor s.settings c) (handleFloor s.settings c) = true) :
    exec (.bayArrival f) s = .next (finish (pairBayFrame (lowestHandle s) (sourceOf f) c
      (pairedDecision s.settings ((walkBay f).type f) (walkBay f).priority) (bayStored f c s))) := by
  have admitted : admitReceived f c none (countReceived .b s) = some (lowestHandle s, bayStored f c s) :=
    admitReceived_of_admits (by rwa [admits_countReceived, countReceived_settings])
  rw [exec_bay passes, routeBay, countReceived_loader, if_neg dest, bayFrame, countReceived_settings, cls, admitted]

end

/-! ### Its pairing in RUN (R119) -/

/-- Paired Frames counts one (R119). -/
def Pairing.countPaired (p : Pairing) : Pairing :=
  p.onCounters fun c => { c with pairedFrames := c.pairedFrames + 1 }

/-- In RUN with a link UP a paired frame that is numbered has its copies made (R119). -/
theorem pairBayFrame_stamped {a : Address} {c : TClass} {seq : BitVec 16} {epoch : BitVec 3} {p : Pairing} {s : State}
    (stamps : Stamps s a c seq epoch p) (run : s.loader.part = .run) (up : anyLinkUp s = true) (h : Nat) :
    pairBayFrame h a c true s = placeCopies (some .b) h c true
      ((writeTag h (stampFields seq epoch c s.settings) s).onPairing fun _ => p.countPaired) := by
  obtain ⟨n, z, sender, stamped⟩ := stamps
  have only := senderOf_pairing c a s
  rw [sender] at only
  have up' : anyLinkUp z = true := by rwa [anyLinkUp, only.u1, only.u2]
  have run' : z.loader.part = .run := by rwa [only.loader]
  simp only [pairBayFrame, sender, pairSteps, up', run', Bool.true_eq_false, ne_eq, not_true_eq_false, if_false]
  rw [stamped]
  rfl

/-- What the pairing of a frame `f` numbered `seq` and `epoch` leaves in `x`, with the Pairing Unit `p` after its
numbering, `hit` where injection acts and the kinds `k1` and `k2` injected (R119, R121, R123, R133). -/
structure PairedTo (f : List Octet) (c : TClass) (seq : BitVec 16) (epoch : BitVec 3) (p : Pairing) (hit : Bool)
    (k1 k2 : Option InjectKind) (s x : State) : Prop where
  u1 : x.u1 = s.u1.copied c (lowestHandle s) k1
  u2 : x.u2 = s.u2.copied c (lowestHandle s) k2
  pairing : x.pairing = p.countPaired.copied hit s.u1.linkUp s.u2.linkUp k1 k2
  others : ∀ g, g ≠ lowestHandle s → handleOf x g = handleOf s g
  gone : (s.u1.copies k1).toNat + (s.u2.copies k2).toNat = 0 → handleOf x (lowestHandle s) = none
  held : 0 < (s.u1.copies k1).toNat + (s.u2.copies k2).toNat → ∃ g, handleOf x (lowestHandle s) = some g ∧
    storedFrame x g = f ∧ g.refs = (s.u1.copies k1).toNat + (s.u2.copies k2).toNat ∧ g.cls = c ∧
    g.tag = some (stampFields seq epoch c s.settings)
  received : x.portB.framesReceived = s.portB.framesReceived + 1
  queue : ∀ q, x.bay.queue q = s.bay.queue q
  filter : x.filter = s.filter
  settings : x.settings = s.settings
  loader : x.loader = s.loader

/-- A stored bay frame, stamped and counted (R119, R121). -/
def bayStamped (f : List Octet) (c : TClass) (t : TagFields) (p : Pairing) (s : State) : State :=
  (writeTag (lowestHandle s) t (bayStored f c s)).onPairing fun _ => p

section
variable {f : List Octet} {c : TClass} {t : TagFields} {p : Pairing} {s : State}

theorem bayStamped_uplink (u : Uplink) : (bayStamped f c t p s).uplink u = s.uplink u := by
  rw [bayStamped, State.onPairing_uplink, (writeTag_storage _ _ _).uplink, bayStored_uplink]

theorem handleOf_bayStamped_ne {n : Nat} (differ : n ≠ lowestHandle s) :
    handleOf (bayStamped f c t p s) n = handleOf s n := by
  rw [bayStamped, handleOf_onPairing, writeTag, handleOf_writeHandle, if_neg differ, handleOf_bayStored_ne f c s differ]

/-- Its handle has the frame's octets and the tag fields (R28, R121). -/
theorem handleOf_bayStamped {bf hf : Nat} (adm : admits s f.length bf hf = true) :
    ∃ r, handleOf (bayStamped f c t p s) (lowestHandle s) = some r ∧ r.quarantined = false ∧ r.check = 0 ∧
      r.cls = c ∧ r.tag = some t ∧ storedFrame (bayStamped f c t p s) r = f := by
  obtain ⟨_, live, octets⟩ := admitted_stored (f := f) (c := c) (t := none) (s := countReceived .b s)
    ((admits_countReceived .b s _ _ _).trans adm)
  refine ⟨{ storedHandle f c none (countReceived .b s) with tag := some t }, ?_, rfl, rfl, rfl, rfl, ?_⟩
  · rw [bayStamped, handleOf_onPairing, writeTag, handleOf_writeHandle, if_pos rfl]
    exact congrArg (Option.map _) live
  · exact (storedFrame_congr (writeHandle_blocks _ _ _) rfl).trans octets

theorem bayStamped_queue (q : BayQueue) : (bayStamped f c t p s).bay.queue q = s.bay.queue q := by
  rw [bayStamped, State.onPairing_bay, writeTag, writeHandle_queue, bayStored_queue]

theorem bayStamped_framesReceived : (bayStamped f c t p s).portB.framesReceived = s.portB.framesReceived + 1 := by
  obtain ⟨_, _, port⟩ := writeHandle_holdKept (lowestHandle s) (fun r => { r with tag := some t }) (bayStored f c s)
  rw [← bayStored_framesReceived f c s, bayStamped, State.onPairing_portB, writeTag, port]

theorem bayStamped_kept : (bayStamped f c t p s).filter = s.filter ∧ (bayStamped f c t p s).settings = s.settings ∧
    (bayStamped f c t p s).loader = s.loader := by
  have only := (bayStored_storage f c s).trans (writeTag_storage (lowestHandle s) t (bayStored f c s))
  exact ⟨only.filter, only.settings, only.loader⟩

end

/-- So `PairedTo` is what the copies of a stamped bay frame leave, with room in the class queues (R119, R123). -/
theorem pairedTo_of_stamps {f : List Octet} {c : TClass} {seq : BitVec 16} {epoch : BitVec 3} {p : Pairing} {s : State}
    {bf hf : Nat} (adm : admits s f.length bf hf = true) (room : ∀ u, RoomFor c (s.uplink u))
    (kept : p.injection = s.pairing.injection) {x : State}
    (x_eq : placeCopies (some .b) (lowestHandle s) c true
      (bayStamped f c (stampFields seq epoch c s.settings) p.countPaired s) = x) :
    PairedTo f c seq epoch p (injectionMatches s c) (injectedKind s (injectionMatches s c) .u1)
      (injectedKind s (injectionMatches s c) .u2) s x := by
  have link1 : (bayStamped f c (stampFields seq epoch c s.settings) p.countPaired s).u1 = s.u1 := bayStamped_uplink .u1
  have link2 : (bayStamped f c (stampFields seq epoch c s.settings) p.countPaired s).u2 = s.u2 := bayStamped_uplink .u2
  have injection : (bayStamped f c (stampFields seq epoch c s.settings) p.countPaired s).pairing.injection =
      s.pairing.injection := kept
  obtain ⟨u1, u2, pairing, others, held, hold, queue⟩ := placeCopies_of_room (hit := injectionMatches s c)
    (k1 := injectedKind s (injectionMatches s c) .u1) (k2 := injectedKind s (injectionMatches s c) .u2)
    (s := bayStamped f c (stampFields seq epoch c s.settings) p.countPaired s)
    (fun u => by rw [bayStamped_uplink]; exact room u)
    (by rw [injectionMatches, injection, link1, link2]; rfl) (by rw [injectedKind, injection]; rfl)
    (by rw [injectedKind, injection]; rfl) x_eq
  rw [link1] at u1
  rw [link2] at u2
  rw [link1, link2] at pairing held
  obtain ⟨r, live, calm, check, cls, tag, octets⟩ := handleOf_bayStamped (c := c)
    (t := stampFields seq epoch c s.settings) (p := p.countPaired) adm
  obtain ⟨refs, blocks⟩ := held r live calm check
  obtain ⟨filter, settings, loader⟩ := bayStamped_kept (f := f) (c := c) (t := stampFields seq epoch c s.settings)
    (p := p.countPaired) (s := s)
  have only := placeCopies_reply (some .b) (lowestHandle s) c true
    (bayStamped f c (stampFields seq epoch c s.settings) p.countPaired s)
  rw [x_eq] at only
  refine ⟨u1, u2, pairing, fun g differ => (others g differ).trans (handleOf_bayStamped_ne differ),
    fun none => refs.trans (if_pos none), fun some => ⟨_, refs.trans (if_neg some.ne'), ?_, rfl, cls, tag⟩, ?_,
    fun q => (queue q).trans (bayStamped_queue q), only.filter.trans filter, only.settings.trans settings,
    only.loader.trans loader⟩
  · exact (storedFrame_congr (blocks some) rfl).trans octets
  · obtain ⟨_, _, port⟩ := hold
    rw [port]
    exact bayStamped_framesReceived

end Sys2Proof.Machine

/-! SUPPORT. What a paired bay frame leaves of the uplinks, the counters and the Origin Table (R119 to R123), and a
sender's entry that fails its Check (R116). -/

namespace Sys2Proof.Machine

/-! ### The copies in their queues -/

/-- One uplink's part counts at most one thing (R123, R136). -/
theorem Pairing.countCopy_eq (n : Pairing) (up : Bool) (k : Option InjectKind) : n.countCopy up k =
    { n with
      counters :=
        { n.counters with
          injectedCopies := n.counters.injectedCopies + (if up = true ∧ k ≠ none then 1 else 0)
          linkDownCopies := n.counters.linkDownCopies + (if up then 0 else 1) } } := by
  cases up with
  | false => simp [Pairing.countCopy, Pairing.countDown, Pairing.onCounters]
  | true => by_cases plain : k = none <;> simp [Pairing.countCopy, Pairing.onCounters, plain]

theorem Pairing.spend_eq (n : Pairing) (hit : Bool) :
    n.spend hit = { n with injection := (n.spend hit).injection } := by
  unfold Pairing.spend
  split <;> rfl

/-- Injection and the counters aside, the copies leave the Pairing Unit as it is (R123, R133, R136). -/
theorem Pairing.copied_eq (n : Pairing) (hit up1 up2 : Bool) (k1 k2 : Option InjectKind) :
    n.copied hit up1 up2 k1 k2 =
      { n with
        injection := (n.spend hit).injection
        counters :=
          { n.counters with
            injectedCopies := n.counters.injectedCopies + (if up1 = true ∧ k1 ≠ none then 1 else 0) +
              (if up2 = true ∧ k2 ≠ none then 1 else 0)
            linkDownCopies := n.counters.linkDownCopies + (if up1 then 0 else 1) + (if up2 then 0 else 1) } } := by
  rw [Pairing.copied, Pairing.countCopy_eq, Pairing.countCopy_eq, Pairing.spend_eq]

theorem copyMade_of_copied {s x : State} {u : Uplink} {c : TClass} {h : Nat} {k : Option InjectKind}
    (eq : x.uplink u = (s.uplink u).copied c h k) : CopyMade s x u c h k := by
  refine ⟨fun still => ?_, fun up out => ?_⟩
  · rw [eq, UplinkEgress.copied, if_neg]
    rcases still with down | omitted
    · simp [UplinkEgress.copies, down]
    · simp [UplinkEgress.copies, omitted]
  · rw [eq, UplinkEgress.copied, if_pos (by simp [UplinkEgress.copies, up, out])]
    refine ⟨?_, fun q differ => ?_⟩
    · rw [UplinkEgress.queue_onQueue, if_pos rfl]
      rfl
    · rw [UplinkEgress.queue_onQueue, if_neg differ]

theorem PairedTo.uplink {f : List Octet} {c : TClass} {seq : BitVec 16} {epoch : BitVec 3} {p : Pairing} {hit : Bool}
    {k1 k2 : Option InjectKind} {s x : State} (made : PairedTo f c seq epoch p hit k1 k2 s x) :
    CopyMade s x .u1 c (lowestHandle s) k1 ∧ CopyMade s x .u2 c (lowestHandle s) k2 :=
  ⟨copyMade_of_copied made.u1, copyMade_of_copied made.u2⟩

/-- A paired bay frame with a link UP and room in its queues is handled to what `PairedTo` says (R119). -/
theorem exec_paired {f : List Octet} {c : TClass} {seq : BitVec 16} {epoch : BitVec 3} {p : Pairing} {s : State}
    (passes : BayPasses f s) (run : s.loader.part = .run) (dest : destOf f ≠ s.loader.stationAddress)
    (cls : classify s.settings ((walkBay f).type f) (walkBay f).priority = c)
    (paired : pairedDecision s.settings ((walkBay f).type f) (walkBay f).priority = true)
    (adm : admits s f.length (blockFloor s.settings c) (handleFloor s.settings c) = true)
    (up : anyLinkUp s = true) (room : ∀ u, RoomFor c (s.uplink u))
    (stamps : Stamps (bayStored f c s) (sourceOf f) c seq epoch p) (kept : p.injection = s.pairing.injection) :
    ∃ x, HandledTo (exec (.bayArrival f) s) x ∧ PairedTo f c seq epoch p (injectionMatches s c)
      (injectedKind s (injectionMatches s c) .u1) (injectedKind s (injectionMatches s c) .u2) s x := by
  have arrival := exec_bayFrame passes dest cls adm
  rw [paired, pairBayFrame_stamped stamps (by rwa [bayStored_loader]) (by rwa [anyLinkUp_bayStored]),
    bayStored_settings] at arrival
  exact ⟨_, handledTo_of_eq arrival, pairedTo_of_stamps adm room kept rfl⟩

/-! ### A frame dropped (R119) -/

/-- A bay frame dropped once its sender's entry is written leaves that entry and what `g` counts, and nothing else but
the reception (R117, R119). -/
theorem dropped_bayStored {f : List Octet} {c : TClass} {i : Nat} {d : OriginEntry} {g : Pairing → Pairing}
    {s x : State} {bf hf : Nat} (adm : admits s f.length bf hf = true)
    (x_eq : (freeHandle (lowestHandle s) (putOrigin i d (bayStored f c s))).onPairing g = x) :
    (∀ h, handleOf x h = handleOf s h) ∧ x.u1 = s.u1 ∧ x.u2 = s.u2 ∧
    x.pairing = g { s.pairing with entries := Tbl.put s.pairing.entries i { d with check := 0 } } ∧
    x.portB.framesReceived = s.portB.framesReceived + 1 ∧ x.filter = s.filter ∧ x.settings = s.settings ∧
    x.loader = s.loader ∧ ∀ q, x.bay.queue q = s.bay.queue q := by
  subst x_eq
  have freed := freeHandle_storage (lowestHandle s) (putOrigin i d (bayStored f c s))
  have stored := bayStored_storage f c s
  refine ⟨fun h => ?_, freed.u1.trans stored.u1, freed.u2.trans stored.u2, ?_, ?_,
    freed.filter.trans stored.filter, freed.settings.trans stored.settings, freed.loader.trans stored.loader,
    fun q => ?_⟩
  · rw [handleOf_onPairing, handleOf_freeHandle]
    split
    · next same => rw [same, (admitted_stored (f := f) (c := c) (t := none) adm).1]
    · next differ => exact handleOf_bayStored_ne f c s differ
  · rw [State.onPairing_pairing, freed.pairing, putOrigin, State.onPairing_pairing, bayStored_pairing]
  · obtain ⟨_, _, port⟩ := freeHandle_holdKept (lowestHandle s) (putOrigin i d (bayStored f c s))
    rw [State.onPairing_portB, port]
    exact bayStored_framesReceived f c s
  · rw [State.onPairing_bay, freeHandle_queue]
    exact bayStored_queue f c s q

/-! ### A sender's entry that fails its Check (R116, R117) -/

/-- An entry from 1 to 63 freed and reported (R116). -/
theorem originCheckFails_ne_zero {i : Nat} (p : Option Port) (c : Option TClass) (s : State) (differ : i ≠ 0) :
    originCheckFails i p c s = s.withPairing
      { s.pairing with
        entries := Tbl.del s.pairing.entries i
        originInUse := s.pairing.originInUse - 1
        originPinned := countOriginPinned (Tbl.del s.pairing.entries i) }
      (s.reports ++ [{ kind := .originCheck, location := i, port := p, cls := c }]) := if_neg differ

theorem originFails_originCheckFails (i : Nat) (p : Option Port) (c : Option TClass) (s : State) :
    OriginFails i p c s (originCheckFails i p c s) := by
  by_cases zero : i = 0
  · subst zero
    exact originFails_zero p c s
  · refine ⟨originCheckFails_pairing i p c s, ⟨fun j hj => ?_, fun _ => ⟨?_, ?_⟩, fun h => absurd h zero⟩, ?_⟩ <;>
      rw [originCheckFails_ne_zero p c s zero]
    · exact (Tbl.look_del _ _ _).trans (if_neg hj)
    · exact (Tbl.look_del _ _ _).trans (if_pos rfl)
    · rfl
    · rfl

/-- An entry's failing before and after the storing of the frame (R116). -/
theorem originCheckFails_bayStored (i : Nat) (p : Option Port) (d : Option TClass) (f : List Octet) (c : TClass)
    (s : State) : originCheckFails i p d (bayStored f c s) = bayStored f c (originCheckFails i p d s) := by
  have reports : (bayStored f c s).reports = s.reports := pauseTest_reports _
  by_cases zero : i = 0
  · subst zero
    exact originCheckFails_zero_storeFrame p d f c none _
  · rw [originCheckFails_ne_zero p d _ zero, originCheckFails_ne_zero p d _ zero, bayStored_pairing, reports, bayStored,
      bayStored, ← storeFrame_withPairing]
    rfl

section
variable {i : Nat} {e : OriginEntry} {a : Address} {c : TClass} {s : State}

/-- The lookup of a sender whose entry fails its Check is the lookup once that entry is mended (R116, R117). -/
theorem lookupOrigin_of_failing (form : OriginInv s) (serves : s.loader.part ≠ .loading)
    (entry : originOf s i = some e) (addr : e.addr = a) (bad : e.check ≠ 0) :
    lookupOrigin (some .b) (some c) a s =
      lookupOrigin (some .b) (some c) a (originCheckFails i (some .b) (some c) s) := by
  have unique := form.unique entry addr
  have here : lookupOrigin (some .b) (some c) a s =
      (if i = 0 then some 0 else none, originCheckFails i (some .b) (some c) s) := by
    simp only [lookupOrigin, findOrigin_of_held form.1 entry addr unique, verifyOrigin, entry, bad, if_false]
  obtain ⟨-, ⟨kept, freed, rebuilt⟩, -⟩ := originFails_originCheckFails i (some .b) (some c) s
  rw [here]
  by_cases zero : i = 0
  · subst zero
    obtain ⟨d, own, -, station⟩ := form.2.2.2.2 serves
    have owner : s.loader.stationAddress = a := by
      rw [← station, ← addr, Option.some.inj (own.symm.trans entry)]
    have mended := (rebuilt rfl).1
    have found : findOrigin (originCheckFails 0 (some .b) (some c) s) a = some 0 := by
      refine findOrigin_of_held (Tbl.wf_put _ _ _ form.1) mended owner fun j g other same => ?_
      by_contra differ
      rw [kept j differ] at other
      exact differ (unique j g other same)
    simp only [lookupOrigin, found, verifyOrigin, mended, if_true]
  · have found : findOrigin (originCheckFails i (some .b) (some c) s) a = none := by
      have wf : Tbl.wf (originCheckFails i (some .b) (some c) s).pairing.entries = true := by
        rw [originCheckFails_ne_zero _ _ s zero]
        exact Tbl.wf_del _ _ form.1
      refine findOrigin_of_unheld wf fun j g other same => ?_
      by_cases self : j = i
      · rw [self, (freed zero).1] at other
        cases other
      · rw [kept j self] at other
        exact self (unique j g other same)
    simp only [lookupOrigin, found, if_neg zero]

/-- So is the whole handling of its frame (R117, R119). -/
theorem pairBayFrame_of_failing (form : OriginInv s) (serves : s.loader.part ≠ .loading)
    (entry : originOf s i = some e) (addr : e.addr = a) (bad : e.check ≠ 0) (h : Nat) (paired : Bool) :
    pairBayFrame h a c paired s = pairBayFrame h a c paired (originCheckFails i (some .b) (some c) s) := by
  rw [pairBayFrame, pairBayFrame, senderOf, senderOf, lookupOrigin_of_failing form serves entry addr bad]

end

/-- A bay arrival whose sender's entry fails its Check is handled as once that entry is mended (R116). -/
theorem exec_bayFrame_of_failing {f : List Octet} {c : TClass} {i : Nat} {e : OriginEntry} {s : State}
    (passes : BayPasses f s) (form : OriginInv s) (dest : destOf f ≠ s.loader.stationAddress)
    (cls : classify s.settings ((walkBay f).type f) (walkBay f).priority = c)
    (adm : admits s f.length (blockFloor s.settings c) (handleFloor s.settings c) = true)
    (entry : originOf s i = some e) (addr : e.addr = sourceOf f) (bad : e.check ≠ 0) :
    exec (.bayArrival f) s = exec (.bayArrival f) (originCheckFails i (some .b) (some c) s) := by
  have only := originCheckFails_pairing i (some .b) (some c) s
  have settings := only.settings
  have loader := only.loader
  have lowest : lowestHandle (originCheckFails i (some .b) (some c) s) = lowestHandle s := by
    rw [lowestHandle, lowestHandle, only.store]
  have passes' : BayPasses f (originCheckFails i (some .b) (some c) s) := by
    rwa [BayPasses, State.serving, only.resetN, loader, settings]
  have adm' : admits (originCheckFails i (some .b) (some c) s) f.length (blockFloor s.settings c)
      (handleFloor s.settings c) = true := by
    rwa [admits, freeBlocks, freeHandles, only.store]
  have mended := exec_bayFrame (c := c) passes' (by rwa [loader]) (by rwa [settings]) (by rwa [settings])
  rw [settings, lowest, ← originCheckFails_bayStored] at mended
  have served : (bayStored f c s).loader.part ≠ .loading := by
    rw [bayStored_loader]
    exact part_of_serving passes.1
  have entry' : originOf (bayStored f c s) i = some e := by rwa [originOf_bayStored]
  rw [exec_bayFrame passes dest cls adm, mended,
    ← pairBayFrame_of_failing (originInv_bayStored form) served entry' addr bad]

end Sys2Proof.Machine

/-! SUPPORT. The paired bay frame without injection (O42). -/

namespace Sys2Proof.Machine

theorem injectionMatches_off {c : TClass} {s : State} (off : s.pairing.injection.mode = .off) :
    injectionMatches s c = false := by
  simp [injectionMatches, off]

theorem PairedTo.copyMade {f : List Octet} {c : TClass} {seq : BitVec 16} {epoch : BitVec 3} {p : Pairing} {hit : Bool}
    {s x : State} (made : PairedTo f c seq epoch p hit none none s x) (u : Uplink) :
    CopyMade s x u c (lowestHandle s) none := by
  obtain ⟨one, two⟩ := made.uplink
  cases u with
  | u1 => exact one
  | u2 => exact two

theorem anyLinkUp_iff (s : State) : anyLinkUp s = true ↔ s.u1.linkUp = true ∨ s.u2.linkUp = true := by simp [anyLinkUp]

/-- Without injection one copy goes out by each link that is UP. -/
theorem copies_none {s : State} (up : anyLinkUp s = true) :
    (s.u1.copies none).toNat + (s.u2.copies none).toNat = if s.u1.linkUp && s.u2.linkUp then 2 else 1 := by
  have out : ∀ e : UplinkEgress, e.copies none = e.linkUp := fun e => Bool.and_true _
  rw [out, out]
  rcases (anyLinkUp_iff s).mp up with one | two
  · cases two : s.u2.linkUp <;> simp [one]
  · cases one : s.u1.linkUp <;> simp [two]

/-- With a link UP at most one copy is withheld. -/
theorem downCopies_eq {s : State} (up : anyLinkUp s = true) (n : BitVec 32) :
    n + (if s.u1.linkUp then 0 else 1) + (if s.u2.linkUp then 0 else 1) =
      n + if s.u1.linkUp && s.u2.linkUp then 0 else 1 := by
  rcases (anyLinkUp_iff s).mp up with one | two
  · simp [one]
  · simp [two]

theorem injectedKind_false (s : State) (u : Uplink) : injectedKind s false u = none := rfl

section
variable {a : Address} {c : TClass} {n : Numbering} {h : Nat} {s z : State}

/-- In RUN with neither link UP a paired frame is dropped (R119). -/
theorem pairBayFrame_noLink (sender : senderOf c a s = (n, z)) (run : z.loader.part = .run)
    (down : anyLinkUp z = false) : pairBayFrame h a c true s = noLinkDrop h z := by
  simp [pairBayFrame, sender, pairSteps, run, down]

/-- Outside RUN a paired frame is dropped (R119, R120). -/
theorem pairBayFrame_quiet (sender : senderOf c a s = (n, z)) (quiet : z.loader.part ≠ .run) :
    pairBayFrame h a c true s = (freeHandle h z).onPairing fun p =>
      p.onCounters fun k => { k with quietDrops := k.quietDrops + 1 } := by
  simp [pairBayFrame, sender, pairSteps, quiet]

/-- A frame decided unpaired is forwarded as it is (R119, R125). -/
theorem pairBayFrame_unpaired (sender : senderOf c a s = (n, z)) :
    pairBayFrame h a c false s = unpairedFrame h z := by
  simp [pairBayFrame, sender, pairSteps]

end

theorem OriginEntry.rewrite_check {e : OriginEntry} (holds : e.check = 0) : { e with check := 0 } = e := by
  rw [← holds]

/-- An entry with Last Seen written (R117). -/
def OriginEntry.touched (e : OriginEntry) (now : Time) : OriginEntry := { e with lastSeen := now }

section
variable {f : List Octet} {c : TClass} {i : Nat} {e : OriginEntry} {s x : State} {bf hf : Nat}

/-- The sender of a stored bay frame, held by an entry whose Check holds (R117). -/
theorem senderOf_bayStored_held (form : OriginInv s) (entry : originOf s i = some e) (addr : e.addr = sourceOf f)
    (holds : e.check = 0) : senderOf c (sourceOf f) (bayStored f c s) =
      (.entry i, putOrigin i (e.touched s.stationTime) (bayStored f c s)) := by
  rw [← bayStored_stationTime f c s]
  exact senderOf_held (originInv_bayStored form) (by rwa [originOf_bayStored]) addr holds

/-- A table in which the sender's entry alone is written anew, with Last Seen. -/
theorem originOf_touched (holds : e.check = 0) (entries : x.pairing.entries =
    Tbl.put s.pairing.entries i { e.touched s.stationTime with check := 0 }) (j : Nat) :
    originOf x j = if j = i then some (e.touched s.stationTime) else originOf s j := by
  rw [originOf, entries, OriginEntry.rewrite_check (e := e.touched s.stationTime) holds]
  exact Tbl.look_put _ _ _ _

end

/-- Settles O42: the sender's entry numbers the frame, whose copies `placeCopies_of_room` follows into the queues; a
failing entry is mended before or after the storing alike. -/
theorem pairedBayFrameIsCopiedToBothUplinks : Obligations.PairedBayFrameIsCopiedToBothUplinks := by
  refine ⟨fun f c i e s high run _ form good short long untagged pause dest cls paired adm entry addr holds off room =>
    ?_, fun f c i e s passes form dest cls adm entry addr bad =>
    ⟨_, originFails_originCheckFails i _ _ s, exec_bayFrame_of_failing passes form dest cls adm entry addr bad⟩⟩
  have passes : BayPasses f s := ⟨by simp [State.serving, high, run], good, short, long, untagged, pause⟩
  cases up : anyLinkUp s with
  | true =>
    have stamps := stamps_held (c := c) (originInv_bayStored form)
      ((originOf_bayStored f c s i).trans entry) addr holds
    rw [bayStored_pairing, bayStored_stationTime] at stamps
    obtain ⟨x, handled, made⟩ := exec_paired passes run dest cls paired adm up room stamps rfl
    rw [injectionMatches_off off, injectedKind_false, injectedKind_false] at made
    have pairing := made.pairing
    rw [Pairing.copied_eq] at pairing
    have entries : ∀ j, originOf x j = if j = i then some (e.stamped c s.stationTime) else originOf s j := fun j => by
      rw [← OriginEntry.rewrite_check (e := e.stamped c s.stationTime) holds, originOf, pairing]
      exact Tbl.look_put _ _ _ _
    have copies := copies_none up
    obtain ⟨g, live, octets, refs, gcls, tag⟩ := made.held (by rw [copies]; split <;> decide)
    refine ⟨x, handled, fun j differ => (entries j).trans (if_neg differ), made.received, made.filter, made.settings,
      made.loader, made.queue, fun _ => ⟨(entries i).trans (if_pos rfl), ?_, lowestHandle s, g,
        (admitted_stored (f := f) (c := c) (t := none) adm).1, live, octets, gcls, refs.trans copies, tag,
        fun u linkUp => (made.copyMade u).2 linkUp (by decide), fun u down => (made.copyMade u).1 (.inl down)⟩,
      fun down => absurd down (by decide)⟩
    rw [pairing, downCopies_eq up]
    simp [Pairing.countPaired, Pairing.onCounters, Pairing.stampHeld]
  | false =>
    have arrival := exec_bayFrame passes dest cls adm
    have sender := senderOf_bayStored_held (c := c) form entry addr holds
    rw [paired, pairBayFrame_noLink sender (by rw [← run, ← bayStored_loader f c s]; rfl)
      ((anyLinkUp_bayStored f c s).trans up)] at arrival
    generalize drop : noLinkDrop _ _ = x at arrival
    obtain ⟨handles, u1, u2, pairing, received, filter, settings, loader, queue⟩ := dropped_bayStored adm drop
    have entries := originOf_touched holds (congrArg Pairing.entries pairing)
    exact ⟨x, handledTo_of_eq arrival, fun j differ => (entries j).trans (if_neg differ), received, filter, settings,
      loader, queue, fun linked => absurd linked (by decide), fun _ => ⟨(entries i).trans (if_pos rfl),
        congrArg Pairing.counters pairing, handles, u1, u2⟩⟩

end Sys2Proof.Machine

/-! SUPPORT. A bay frame's number (R117, R118), and its copies under injection (R133 to R136). -/

namespace Sys2Proof.Machine

/-! ### The Injection Control -/

theorem injects_iff (s : State) (c : TClass) : Injects s c ↔ injectionMatches s c = true := by
  have links : (∃ u, s.pairing.injection.target.names u = true ∧ (s.uplink u).linkUp = true) ↔
      (s.pairing.injection.target.names .u1 = true ∧ s.u1.linkUp = true) ∨
        (s.pairing.injection.target.names .u2 = true ∧ s.u2.linkUp = true) := by
    constructor
    · rintro ⟨u, named, up⟩
      cases u with
      | u1 => exact .inl ⟨named, up⟩
      | u2 => exact .inr ⟨named, up⟩
    · rintro (⟨named, up⟩ | ⟨named, up⟩)
      · exact ⟨.u1, named, up⟩
      · exact ⟨.u2, named, up⟩
  simp [Injects, links, injectionMatches, and_assoc]

theorem injectedKind_true (s : State) (u : Uplink) :
    injectedKind s true u = if s.pairing.injection.target.names u then some s.pairing.injection.kind else none := rfl

theorem Pairing.spend_injection (p : Pairing) : (p.spend true).injection =
    { p.injection with mode := if p.injection.mode = .once then .off else p.injection.mode } := by
  by_cases once : p.injection.mode = .once
  · simp [Pairing.spend, once]
  · simp [Pairing.spend, once]

theorem Pairing.spend_false (p : Pairing) : p.spend false = p := if_neg (by simp)

theorem UplinkEgress.copies_toNat (e : UplinkEgress) (k : Option InjectKind) :
    (e.copies k).toNat = if e.linkUp = true ∧ k ≠ some .omit then 1 else 0 := by
  by_cases out : e.linkUp = true ∧ k ≠ some .omit
  · rw [if_pos out]
    simp [UplinkEgress.copies, out.1, out.2]
  · rw [if_neg out]
    have still : e.copies k = false := by simpa [UplinkEgress.copies] using out
    rw [still]
    rfl

/-- The copies of a numbered frame are as the Injection Control has them (R119, R123, R133). -/
theorem PairedTo.pairedCopies {f : List Octet} {c : TClass} {seq : BitVec 16} {epoch : BitVec 3} {p : Pairing}
    {s x : State} (made : PairedTo f c seq epoch p (injectionMatches s c) (injectedKind s (injectionMatches s c) .u1)
      (injectedKind s (injectionMatches s c) .u2) s x) (injection : p.injection = s.pairing.injection)
    (counted : p.counters.injectedCopies = s.pairing.counters.injectedCopies) :
    PairedCopies s x c (lowestHandle s) f seq epoch := by
  have pairing := made.pairing
  rw [Pairing.copied_eq] at pairing
  have spent := congrArg Pairing.injection pairing
  have start : p.countPaired.injection = s.pairing.injection := injection
  obtain ⟨one, two⟩ := made.uplink
  refine ⟨_, _, fun acts => ?_, fun rests => ?_, one, two, ?_,
    fun n copies => ⟨fun none => made.gone ?_, fun some => ?_⟩⟩
  · rw [(injects_iff s c).mp acts] at spent ⊢
    exact ⟨injectedKind_true s .u1, injectedKind_true s .u2, by rw [spent]; simp only [Pairing.spend_injection, start]⟩
  · have missed : injectionMatches s c = false := Bool.eq_false_iff.mpr fun hit => rests ((injects_iff s c).mpr hit)
    rw [missed] at spent ⊢
    exact ⟨rfl, rfl, by rw [spent]; simp only [Pairing.spend_false, start]⟩
  · rw [pairing, ← counted]
    rfl
  · rw [UplinkEgress.copies_toNat, UplinkEgress.copies_toNat, ← copies, none]
  · have refs : (s.u1.copies (injectedKind s (injectionMatches s c) .u1)).toNat +
        (s.u2.copies (injectedKind s (injectionMatches s c) .u2)).toNat = n := by
      rw [UplinkEgress.copies_toNat, UplinkEgress.copies_toNat, ← copies]
    obtain ⟨g, live, octets, count, cls, tag⟩ := made.held (by rw [refs]; exact some)
    exact ⟨g, live, octets, count.trans refs, cls, tag⟩

/-! ### The number taken (R117, R118) -/

theorem numbers_bayStored {f : List Octet} {c d : TClass} {a : Address} {seq : BitVec 16} {epoch : BitVec 3} {s : State}
    (numbers : Numbers s a c seq epoch) : Numbers (bayStored f d s) a c seq epoch := by
  simpa only [Numbers, originOf_bayStored, bayStored_pairing] using numbers

/-- A numbering leaves the Pairing Unit `p`: injection and the counts of copies are kept, the Overflow counter advances
where it numbers, and a sender's entry is stamped (R117, R118, R121). -/
structure NumberedBy (s : State) (a : Address) (c : TClass) (p : Pairing) : Prop where
  injection : p.injection = s.pairing.injection
  injected : p.counters.injectedCopies = s.pairing.counters.injectedCopies
  paired : p.counters.pairedFrames = s.pairing.counters.pairedFrames
  overflow : (∀ i e, originOf s i = some e → e.addr ≠ a) → (∀ i, 1 ≤ i → i ≤ 63 → (originOf s i).isSome = true) →
    p = s.pairing.stampOverflow
  entry : ∀ i e, originOf s i = some e → e.addr = a → e.check = 0 →
    Tbl.look p.entries i = some (e.stamped c s.stationTime)

theorem freeOrigin_of_free {s : State} (free : ∃ i, 1 ≤ i ∧ i ≤ 63 ∧ originOf s i = none) :
    ∃ i, freeOrigin s = some i := by
  classical
  obtain ⟨low, high, none⟩ := Nat.find_spec free
  refine ⟨_, freeOrigin_of_lowest low high none fun j lo hi => ?_⟩
  rw [Option.isSome_iff_ne_none]
  exact fun clear => Nat.find_min free hi ⟨lo, by omega, clear⟩

/-- Every number of R118 is one that a stamping takes. -/
theorem stamps_of_numbers {a : Address} {c : TClass} {seq : BitVec 16} {epoch : BitVec 3} {s : State}
    (form : OriginInv s) (numbers : Numbers s a c seq epoch) : ∃ p, Stamps s a c seq epoch p ∧ NumberedBy s a c p := by
  obtain ⟨i, e, entry, addr, holds, rfl, rfl⟩ | ⟨unheld, ⟨free, rfl, rfl⟩ | ⟨full, rfl, rfl⟩⟩ := numbers
  · refine ⟨_, stamps_held form entry addr holds, rfl, rfl, rfl, fun unheld => absurd addr (unheld i e entry),
      fun j d other same _ => ?_⟩
    cases form.unique entry addr j d other same
    cases entry.symm.trans other
    rw [← OriginEntry.rewrite_check (e := e.stamped c s.stationTime) holds]
    exact Tbl.look_put_self _ _ _
  · obtain ⟨i, lowest⟩ := freeOrigin_of_free free
    refine ⟨_, stamps_learned form unheld lowest, rfl, rfl, rfl, fun _ full => ?_,
      fun j d other same => absurd same (unheld j d other)⟩
    obtain ⟨j, low, high, none⟩ := free
    have held := full j low high
    rw [none] at held
    exact absurd held (by decide)
  · exact ⟨_, stamps_overflow form unheld (freeOrigin_of_full full), rfl, rfl, rfl, fun _ _ => rfl,
      fun j d other same => absurd same (unheld j d other)⟩

end Sys2Proof.Machine

/-! SUPPORT. Bay frames outside pairing (O43): what learning leaves, and an unpaired frame forwarded (R117, R125). -/

namespace Sys2Proof.Machine

/-! ### What the copies leave of the Origin Table -/

/-- From `s` to `x` the Origin Table, its counter of epochs and the counts of its learning are the same. -/
structure SameOrigins (s x : State) : Prop where
  entries : x.pairing.entries = s.pairing.entries
  epochCounter : x.pairing.epochCounter = s.pairing.epochCounter
  inUse : x.pairing.originInUse = s.pairing.originInUse
  learned : x.pairing.counters.originLearned = s.pairing.counters.originLearned

theorem SameOrigins.of_eq {s x : State} (same : x.pairing = s.pairing) : SameOrigins s x := by
  constructor <;> rw [same]

theorem SameOrigins.trans {s x y : State} (a : SameOrigins s x) (b : SameOrigins x y) : SameOrigins s y :=
  ⟨b.entries.trans a.entries, b.epochCounter.trans a.epochCounter, b.inUse.trans a.inUse, b.learned.trans a.learned⟩

theorem release_sameOrigins (p : Option Port) (h : Nat) (s : State) : SameOrigins s (release p h s) :=
  .of_eq (release_storage p h s).pairing

theorem offerUplink_sameOrigins (p : Option Port) (u : Uplink) (q : SlotClass) (e : QueueEntry) (s : State) :
    SameOrigins s (offerUplink p u q e s) := by
  unfold offerUplink
  split
  · exact .of_eq (State.onUplink_pairing s u _)
  · exact (release_sameOrigins p e.handle s).trans (.of_eq (State.onUplink_pairing _ u _))

theorem placeCopy_sameOrigins (p : Option Port) (h : Nat) (c : TClass) (k : Option InjectKind) (u : Uplink)
    (s : State) : SameOrigins s (placeCopy p h c k u s) := by
  unfold placeCopy
  split
  · split
    · exact offerUplink_sameOrigins p u _ _ s
    · exact (release_sameOrigins p h s).trans ⟨rfl, rfl, rfl, rfl⟩
    · exact (offerUplink_sameOrigins p u _ _ s).trans ⟨rfl, rfl, rfl, rfl⟩
    · exact (offerUplink_sameOrigins p u _ _ s).trans ⟨rfl, rfl, rfl, rfl⟩
  · exact (release_sameOrigins p h s).trans ⟨rfl, rfl, rfl, rfl⟩

theorem placeCopies_sameOrigins (p : Option Port) (h : Nat) (c : TClass) (b : Bool) (s : State) :
    SameOrigins s (placeCopies p h c b s) := by
  have spent : SameOrigins s (spendInjection (b && injectionMatches s c) s) := by
    unfold spendInjection
    split
    · exact ⟨rfl, rfl, rfl, rfl⟩
    · exact .of_eq rfl
  exact ((spent.trans (.of_eq (setRefs_storage h 2 _).pairing)).trans (placeCopy_sameOrigins p h c _ .u1 _)).trans
    (placeCopy_sameOrigins p h c _ .u2 _)

theorem freeHandle_sameOrigins (h : Nat) (s : State) : SameOrigins s (freeHandle h s) :=
  .of_eq (freeHandle_storage h s).pairing

theorem unpairedFrame_sameOrigins (h : Nat) (s : State) : SameOrigins s (unpairedFrame h s) := by
  have forwarded : ∀ u, SameOrigins s (forwardUnpaired u h s) := fun u =>
    (((SameOrigins.of_eq (setRefs_storage h 1 s).pairing).trans (offerUplink_sameOrigins (some .b) u _ _ _)).trans
      ⟨rfl, rfl, rfl, rfl⟩)
  unfold unpairedFrame
  split
  · exact forwarded .u1
  · split
    · exact forwarded .u2
    · exact (freeHandle_sameOrigins h s).trans ⟨rfl, rfl, rfl, rfl⟩

/-- A frame that is not stamped leaves the Origin Table as its sender's lookup has left it (R119). -/
theorem pairSteps_sameOrigins (n : Numbering) (h : Nat) (c : TClass) (paired : Bool) (s : State)
    (plain : ¬ (paired = true ∧ s.loader.part = .run ∧ anyLinkUp s = true)) :
    SameOrigins s (pairSteps n h c paired s) := by
  unfold pairSteps
  split
  · exact unpairedFrame_sameOrigins h s
  · next decided =>
    split
    · exact (freeHandle_sameOrigins h s).trans ⟨rfl, rfl, rfl, rfl⟩
    · next run =>
      split
      · exact (freeHandle_sameOrigins h s).trans ⟨rfl, rfl, rfl, rfl⟩
      · next up => exact absurd ⟨by simpa using decided, by simpa using run, by simpa using up⟩ plain

/-! ### A new sender learned (R114, R117) -/

theorem TClass.set_noSequences (c : TClass) : noSequences.set c 0 = noSequences := by cases c <;> rfl

/-- A frame from a new address leaves an entry learned for it, its first number taken where the frame is stamped
(R114, R117, R121). -/
theorem pairBayFrame_learned {a : Address} {c : TClass} {i h : Nat} {paired : Bool} {s : State} (form : OriginInv s)
    (unheld : ∀ j d, originOf s j = some d → d.addr ≠ a) (free : freeOrigin s = some i) :
    SameOrigins (s.onPairing fun p => p.learn i
        { newOrigin .learned a p.epochCounter s.stationTime with
          next := noSequences.set c (if paired = true ∧ s.loader.part = .run ∧ anyLinkUp s = true then 1 else 0) })
      (pairBayFrame h a c paired s) := by
  by_cases stamped : paired = true ∧ s.loader.part = .run ∧ anyLinkUp s = true
  · rw [if_pos stamped]
    obtain ⟨rfl, run, up⟩ := stamped
    rw [pairBayFrame_stamped (stamps_learned form unheld free) run up h]
    refine SameOrigins.trans ?_ (placeCopies_sameOrigins (some .b) h c true _)
    exact ⟨rfl, rfl, rfl, rfl⟩
  · rw [if_neg stamped, TClass.set_noSequences]
    rw [pairBayFrame, senderOf_learned form unheld free]
    exact pairSteps_sameOrigins _ h c paired (s.onPairing fun p => p.learn i (learnedOrigin a s)) stamped

/-! ### An unpaired frame forwarded (R125) -/

theorem unpairedFrame_forwarded {u : Uplink} {s : State} (h : Nat) (up : (s.uplink u).linkUp = true)
    (first : u = .u2 → s.u1.linkUp = false) : unpairedFrame h s = forwardUnpaired u h s := by
  cases u with
  | u1 => exact if_pos up
  | u2 =>
    rw [unpairedFrame, first rfl, if_neg (by decide)]
    exact if_pos up

/-- With room a bay frame decided unpaired joins the General queue as it is, with one reference (R125). -/
theorem forwardUnpaired_bayStored {f : List Octet} {c : TClass} {i : Nat} {d : OriginEntry} {u : Uplink} {s x : State}
    {bf hf : Nat} (adm : admits s f.length bf hf = true) (room : (s.uplink u).general.entries.length < 256)
    (x_eq : forwardUnpaired u (lowestHandle s) (putOrigin i d (bayStored f c s)) = x) :
    ∃ g, handleOf x (lowestHandle s) = some g ∧ storedFrame x g = f ∧ g.refs = 1 ∧ g.tag = none ∧
      x.pairing = { s.pairing with
        entries := Tbl.put s.pairing.entries i { d with check := 0 }
        counters := { s.pairing.counters with unpairedFrames := s.pairing.counters.unpairedFrames + 1 } } ∧
      x.uplink u = { s.uplink u with general := { (s.uplink u).general with
        entries := (s.uplink u).general.entries ++
          [{ handle := lowestHandle s, seqOffset := false, fcsCorrupt := false }] } } ∧
      x.uplink (other u) = s.uplink (other u) := by
  have only := setRefs_storage (lowestHandle s) 1 (putOrigin i d (bayStored f c s))
  have egress : (setRefs (lowestHandle s) 1 (putOrigin i d (bayStored f c s))).uplink = s.uplink := by
    funext v
    rw [only.uplink, putOrigin, State.onPairing_uplink, bayStored_uplink]
  obtain ⟨_, live, octets⟩ := admitted_stored (f := f) (c := c) (t := none) (s := countReceived .b s)
    ((admits_countReceived .b s _ _ _).trans adm)
  have joined : offerUplink (some .b) u .general (copyEntry (lowestHandle s) false false)
      (setRefs (lowestHandle s) 1 (putOrigin i d (bayStored f c s))) =
      (setRefs (lowestHandle s) 1 (putOrigin i d (bayStored f c s))).onUplink u fun e =>
        e.onQueue .general fun q => q.join (copyEntry (lowestHandle s) false false) :=
    if_pos (by rw [egress]; exact room)
  rw [forwardUnpaired, joined] at x_eq
  subst x_eq
  refine ⟨{ storedHandle f c none (countReceived .b s) with refs := 1 }, ?_, ?_, rfl, rfl, ?_, ?_, ?_⟩
  · rw [handleOf_onPairing, handleOf_onUplink, handleOf_setRefs, if_pos rfl]
    exact congrArg (Option.map _) live
  · refine (storedFrame_congr ?_ rfl).trans octets
    rw [State.onPairing_store, State.onUplink_store, setRefs, writeHandle_blocks]
    rfl
  · rw [State.onPairing_pairing, State.onUplink_pairing, only.pairing, putOrigin, State.onPairing_pairing,
      bayStored_pairing]
    rfl
  · rw [State.onPairing_uplink, State.onUplink_uplink, egress]
    rfl
  · rw [State.onPairing_uplink, State.onUplink_uplink_other, egress]

/-! ### O43 -/

/-- Settles O43: a new sender is learned whatever becomes of its frame, a frame in QUIET is dropped, an unpaired one
is forwarded, and a paired one has the copies that the Injection Control leaves it. -/
theorem bayFramesOutsidePairing : Obligations.BayFramesOutsidePairing := by
  refine ⟨fun f c s serves _ form good short long untagged pause dest cls adm =>
      have passes : BayPasses f s := ⟨serves, good, short, long, untagged, pause⟩
      ⟨fun i low high free taken unheld => ?_, fun i e entry addr holds =>
        ⟨fun quiet paired => ?_, fun u unpaired up first room => ?_⟩⟩,
    fun f c seq epoch s passes run _ form dest cls paired adm up room numbers => ?_⟩
  · -- a new sender learned
    have arrival := exec_bayFrame passes dest cls adm
    have unheld' : ∀ j d, originOf (bayStored f c s) j = some d → d.addr ≠ sourceOf f := fun j d there =>
      unheld j d ((originOf_bayStored f c s j).symm.trans there)
    have lowest : freeOrigin (bayStored f c s) = some i := by
      rw [freeOrigin, bayStored_pairing]
      exact freeOrigin_of_lowest low high free taken
    have same := pairBayFrame_learned (c := c) (h := lowestHandle s)
      (paired := pairedDecision s.settings ((walkBay f).type f) (walkBay f).priority)
      (originInv_bayStored form) unheld' lowest
    rw [bayStored_loader, anyLinkUp_bayStored, bayStored_stationTime] at same
    obtain ⟨entries, counter, inUse, learned⟩ := same
    rw [State.onPairing_pairing, bayStored_pairing] at entries counter inUse learned
    refine ⟨_, handledTo_of_eq arrival, ?_, fun j differ => ?_, counter, inUse, learned⟩
    · rw [originOf, entries]
      exact Tbl.look_put_self _ _ _
    · rw [originOf, entries]
      exact Tbl.look_put_ne _ _ differ
  · -- a paired frame in QUIET
    have arrival := exec_bayFrame passes dest cls adm
    have sender := senderOf_bayStored_held (c := c) form entry addr holds
    have part : (putOrigin i (e.touched s.stationTime) (bayStored f c s)).loader.part ≠ .run := by
      rw [putOrigin, State.onPairing_loader, bayStored_loader, quiet]
      decide
    rw [paired, pairBayFrame_quiet sender part] at arrival
    generalize drop : State.onPairing _ _ = x at arrival
    obtain ⟨handles, u1, u2, pairing, -⟩ := dropped_bayStored adm drop
    have entries := originOf_touched holds (congrArg Pairing.entries pairing)
    exact ⟨x, handledTo_of_eq arrival, congrArg Pairing.counters pairing, (entries i).trans (if_pos rfl),
      fun j differ => (entries j).trans (if_neg differ), handles, u1, u2⟩
  · -- an unpaired frame
    have arrival := exec_bayFrame passes dest cls adm
    have link : ∀ v, (putOrigin i (e.touched s.stationTime) (bayStored f c s)).uplink v = s.uplink v := fun v => by
      rw [putOrigin, State.onPairing_uplink, bayStored_uplink]
    rw [unpaired, pairBayFrame_unpaired (senderOf_bayStored_held form entry addr holds),
      unpairedFrame_forwarded (u := u) _ (by rwa [link]) fun second => (congrArg UplinkEgress.linkUp (link .u1)).trans
        (first second)] at arrival
    generalize forwarded : forwardUnpaired _ _ _ = x at arrival
    obtain ⟨g, live, octets, refs, tag, pairing, joined, others⟩ := forwardUnpaired_bayStored adm room forwarded
    exact ⟨lowestHandle s, g, x, handledTo_of_eq arrival, (admitted_stored (f := f) (c := c) (t := none) adm).1, live,
      octets, refs, tag, congrArg Pairing.counters pairing,
      (originOf_touched holds (congrArg Pairing.entries pairing) i).trans (if_pos rfl), joined, others⟩
  · -- a paired frame under injection
    obtain ⟨p, stamps, numbered⟩ := stamps_of_numbers (originInv_bayStored form) (numbers_bayStored (d := c) numbers)
    obtain ⟨injection, injected, counted, overflow, stamped⟩ := numbered
    simp only [bayStored_pairing, originOf_bayStored, bayStored_stationTime]
      at injection injected counted overflow stamped
    obtain ⟨x, handled, made⟩ := exec_paired passes run dest cls paired adm ((anyLinkUp_iff s).mpr up) room stamps
      injection
    have pairing := made.pairing
    rw [Pairing.copied_eq] at pairing
    refine ⟨lowestHandle s, x, handled, (admitted_stored (f := f) (c := c) (t := none) adm).1, made.others,
      made.pairedCopies injection injected, ?_, fun unheld full => ?_, fun i e entry addr holds => ?_⟩
    · rw [pairing, ← counted]
      rfl
    · rw [overflow unheld full] at pairing
      refine ⟨fun i => ?_, ?_, ?_, ?_⟩
      · rw [originOf, pairing]
        rfl
      · rw [pairing]
        rfl
      · rw [pairing]
        rfl
      · rw [pairing]
        rfl
    · rw [originOf, pairing]
      exact stamped i e entry addr holds

end Sys2Proof.Machine

/-! SUPPORT. Levels as sums over a table (R38, R96, R113): what a write and a freeing of one record change of them. -/

namespace Sys2Proof.Machine

/-! ### Sums over a table -/

/-- The sum of what each record of a table counts. -/
def Tbl.weigh {α M : Type} [AddCommMonoid M] (w : α → M) (t : Tbl α) : M := (t.map fun p => w p.2).sum

section
variable {α M : Type} [AddCommMonoid M] (w : α → M) {t : Tbl α} {k : Nat} {a b : α}

theorem Tbl.weigh_cons (p : Nat × α) : Tbl.weigh w (p :: t) = w p.2 + Tbl.weigh w t := by
  simp [Tbl.weigh]

theorem Tbl.weigh_put_of_free (free : Tbl.look t k = none) : Tbl.weigh w (Tbl.put t k a) = Tbl.weigh w t + w a := by
  induction t with
  | nil => simp [Tbl.put, Tbl.weigh]
  | cons p t ih =>
    obtain ⟨j, c⟩ := p
    simp only [Tbl.look] at free
    split at free
    · cases free
    · next differ =>
      rw [Tbl.put, if_neg (Ne.symm differ)]
      split
      · rw [Tbl.weigh_cons, add_comm]
      · rw [Tbl.weigh_cons, Tbl.weigh_cons, ih free, add_assoc]

/-- The head of a table in form is the record of its number, and the rest has none of that number. -/
theorem Tbl.look_head {c : α} {t : Tbl α} {j : Nat} (form : Tbl.wf ((j, c) :: t) = true)
    (held : Tbl.look ((j, c) :: t) k = some b) : (j = k ∧ c = b ∧ Tbl.look t k = none) ∨ (j < k ∧ Tbl.look t k = some b) := by
  simp only [Tbl.wf, Bool.and_eq_true] at form
  simp only [Tbl.look] at held
  split at held
  · next same =>
    subst same
    exact .inl ⟨rfl, Option.some.inj held, Tbl.look_of_above form.1 (by omega)⟩
  · next differ =>
    refine .inr ⟨?_, held⟩
    by_contra low
    rw [Tbl.look_of_above form.1 (by omega)] at held
    cases held

theorem Tbl.wf_tail {p : Nat × α} (form : Tbl.wf (p :: t) = true) : Tbl.wf t = true := by
  simp only [Tbl.wf, Bool.and_eq_true] at form
  exact form.2

theorem Tbl.del_of_free (free : Tbl.look t k = none) : Tbl.del t k = t := by
  induction t with
  | nil => rfl
  | cons p t ih =>
    obtain ⟨j, c⟩ := p
    simp only [Tbl.look] at free
    split at free
    · cases free
    · next differ => rw [Tbl.del, if_neg differ, ih free]

theorem Tbl.weigh_put_of_held (form : Tbl.wf t = true) (held : Tbl.look t k = some b) :
    Tbl.weigh w (Tbl.put t k a) + w b = Tbl.weigh w t + w a := by
  induction t with
  | nil => cases held
  | cons p t ih =>
    obtain ⟨j, c⟩ := p
    have rest := Tbl.wf_tail form
    obtain ⟨rfl, rfl, -⟩ | ⟨below, later⟩ := Tbl.look_head form held
    · rw [Tbl.put, if_neg (by omega), if_pos rfl, Tbl.weigh_cons, Tbl.weigh_cons]
      exact (add_right_comm _ _ _).trans (by rw [add_comm (w a), add_right_comm])
    · rw [Tbl.put, if_neg (by omega), if_neg (by omega), Tbl.weigh_cons, Tbl.weigh_cons, add_assoc, ih rest later, add_assoc]

theorem Tbl.weigh_del (form : Tbl.wf t = true) (held : Tbl.look t k = some b) :
    Tbl.weigh w (Tbl.del t k) + w b = Tbl.weigh w t := by
  induction t with
  | nil => cases held
  | cons p t ih =>
    obtain ⟨j, c⟩ := p
    have rest := Tbl.wf_tail form
    obtain ⟨rfl, rfl, gone⟩ | ⟨below, later⟩ := Tbl.look_head form held
    · rw [Tbl.del, if_pos rfl, Tbl.del_of_free gone, Tbl.weigh_cons, add_comm]
    · rw [Tbl.del, if_neg (by omega), Tbl.weigh_cons, Tbl.weigh_cons, add_assoc, ih rest later]

end

/-! ### The levels of both tables -/

/-- What an entry counts under Entries In Use, Pinned In Use, Single-1 and Single-2 (R38, R96). -/
def Entry.weight (e : Entry) : Nat × Nat × Nat × Nat :=
  (1, (e.state == .pinned).toNat, (e.isLost .u2).toNat, (e.isLost .u1).toNat)

/-- The levels of the Source Table, as `Entry.weight` lists them. -/
def Filter.levels (f : Filter) : Nat × Nat × Nat × Nat := (f.entriesInUse, f.pinnedInUse, f.single1, f.single2)

/-- What an Origin entry counts under Origin In Use and Origin Pinned (R113). -/
def OriginEntry.weight (e : OriginEntry) : Nat × Nat := (1, (e.state == .pinned).toNat)

/-- The levels of the Origin Table, as `OriginEntry.weight` lists them. -/
def Pairing.levels (p : Pairing) : Nat × Nat := (p.originInUse, p.originPinned)

theorem Tbl.count_cons {α : Type} (f : α → Bool) (p : Nat × α) (t : Tbl α) :
    Tbl.count f (p :: t) = (f p.2).toNat + Tbl.count f t := by
  rw [Tbl.count, Tbl.count, List.countP_cons, add_comm, ← Bool.cond_eq_ite]
  cases f p.2 <;> rfl

theorem weigh_weight (t : Tbl Entry) : Tbl.weigh Entry.weight t =
    (t.length, Tbl.count (fun e => e.state == .pinned) t, Tbl.count (fun e => e.isLost .u2) t,
      Tbl.count (fun e => e.isLost .u1) t) := by
  induction t with
  | nil => rfl
  | cons p t ih => simp [Tbl.weigh_cons, ih, Tbl.count_cons, Entry.weight, add_comm]

theorem weigh_originWeight (t : Tbl OriginEntry) :
    Tbl.weigh OriginEntry.weight t = (t.length, countOriginPinned t) := by
  induction t with
  | nil => rfl
  | cons p t ih => simp [Tbl.weigh_cons, ih, countOriginPinned, Tbl.count_cons, OriginEntry.weight, add_comm]

theorem levelInv_iff (s : State) : LevelInv s ↔ s.filter.levels = Tbl.weigh Entry.weight s.filter.entries := by
  rw [weigh_weight, Filter.levels, LevelInv, Prod.mk.injEq, Prod.mk.injEq, Prod.mk.injEq]
  rfl

theorem originLevelInv_iff (s : State) :
    OriginLevelInv s ↔ s.pairing.levels = Tbl.weigh OriginEntry.weight s.pairing.entries := by
  rw [weigh_originWeight, Pairing.levels, OriginLevelInv, Prod.mk.injEq]

end Sys2Proof.Machine

/-! SUPPORT. What an operation keeps of both tables: their forms, their levels, and the fit of windows and twins (R38,
R42, R48, R67, R77, R113). Each way to change one entry keeps it once; the operations are made of these. -/

namespace Sys2Proof.Machine

/-! ### The relation -/

/-- The Origin Table has its canonical form, no LEARNED entry 0, and levels that are true counts (R113, R114). -/
def OriginSound (s : State) : Prop :=
  Tbl.wf s.pairing.entries = true ∧ (∀ e, originOf s 0 = some e → e.state = .pinned) ∧ OriginLevelInv s

/-- From `s` to `t` the Source Table keeps its form, its windows and its levels, and with `strict` the Origin Table
keeps its own. -/
structure KeepsTables (strict : Prop) (s t : State) : Prop where
  form    : TableInv s → TableInv t
  windows : WindowInv s → WindowInv t
  levels  : TableInv s → LevelInv s → LevelInv t
  origins : strict → OriginSound s → OriginSound t

/-- From `s` to `t` the entries and levels of both tables are the same. -/
structure SameTables (s t : State) : Prop where
  entries      : t.filter.entries = s.filter.entries
  levels       : t.filter.levels = s.filter.levels
  origins      : t.pairing.entries = s.pairing.entries
  originLevels : t.pairing.levels = s.pairing.levels

section
variable {strict : Prop} {s t v : State}

theorem SameTables.refl (s : State) : SameTables s s := ⟨rfl, rfl, rfl, rfl⟩

theorem SameTables.trans (a : SameTables s t) (b : SameTables t v) : SameTables s v :=
  ⟨b.entries.trans a.entries, b.levels.trans a.levels, b.origins.trans a.origins,
    b.originLevels.trans a.originLevels⟩

theorem SameTables.of_eq (filter : t.filter = s.filter) (pairing : t.pairing = s.pairing) : SameTables s t :=
  ⟨by rw [filter], by rw [filter], by rw [pairing], by rw [pairing]⟩

theorem OnlyEgress.sameTables (only : OnlyEgress s t) : SameTables s t := .of_eq only.filter only.pairing

theorem OnlyStorage.sameTables (only : OnlyStorage s t) : SameTables s t := only.egress.sameTables

theorem TableInv.of_entries (form : TableInv s) (same : t.filter.entries = s.filter.entries) : TableInv t := by
  simpa only [TableInv, entryOf, pinnedInBucket, same] using form

theorem OriginSound.of_same (sound : OriginSound s) (origins : t.pairing.entries = s.pairing.entries)
    (levels : t.pairing.levels = s.pairing.levels) : OriginSound t := by
  simpa only [OriginSound, originOf, originLevelInv_iff, origins, levels] using sound

theorem SameTables.keeps (same : SameTables s t) : KeepsTables strict s t where
  form form := form.of_entries same.entries
  windows windows := by simpa only [WindowInv, entryOf, same.entries] using windows
  levels _ levels := by simpa only [levelInv_iff, same.entries, same.levels] using levels
  origins _ sound := sound.of_same same.origins same.originLevels

theorem KeepsTables.refl (s : State) : KeepsTables strict s s := (SameTables.refl s).keeps

theorem KeepsTables.trans (a : KeepsTables strict s t) (b : KeepsTables strict t v) : KeepsTables strict s v :=
  ⟨fun form => b.form (a.form form), fun windows => b.windows (a.windows windows),
    fun form levels => b.levels (a.form form) (a.levels form levels),
    fun on sound => b.origins on (a.origins on sound)⟩

theorem KeepsTables.then_same (a : KeepsTables strict s t) (b : SameTables t v) : KeepsTables strict s v :=
  a.trans b.keeps

theorem KeepsTables.foldl {α : Type} {f : State → α → State} (each : ∀ s a, KeepsTables strict s (f s a)) (l : List α)
    (s : State) : KeepsTables strict s (l.foldl f s) := by
  induction l generalizing s with
  | nil => exact .refl s
  | cons a l rest => exact (each s a).trans (rest _)

end

/-! ### PINNED entries of a bucket (R48) -/

/-- Whether way `i` holds a PINNED entry. -/
def isPinned (s : State) (i : Nat) : Bool := (entryOf s i).any fun e => e.state == .pinned

theorem pinnedInBucket_eq (s : State) (b : Nat) : pinnedInBucket s b = (waysOf b).countP (isPinned s) := by
  unfold pinnedInBucket
  congr 1
  funext i
  unfold isPinned
  cases entryOf s i <;> rfl

theorem pinnedInBucket_mono {s t : State} {b : Nat}
    (fewer : ∀ i, i / 4 = b → isPinned t i = true → isPinned s i = true) : pinnedInBucket t b ≤ pinnedInBucket s b := by
  rw [pinnedInBucket_eq, pinnedInBucket_eq]
  exact List.countP_mono_left fun i mem => fewer i (mem_waysOf.mp mem)

theorem countP_succ_of_one {p q : Nat → Bool} {l : List Nat} {i : Nat} (distinct : l.Nodup)
    (others : ∀ j ∈ l, j ≠ i → q j = true → p j = true) : l.countP q ≤ l.countP p + 1 := by
  induction l with
  | nil => simp
  | cons j l rest =>
    obtain ⟨out, distinct⟩ := List.nodup_cons.mp distinct
    by_cases here : j = i
    · subst here
      have tail : l.countP q ≤ l.countP p :=
        List.countP_mono_left fun n mem => others n (List.mem_cons_of_mem j mem) fun same => out (same ▸ mem)
      rw [List.countP_cons, List.countP_cons]
      split <;> omega
    · have tail := rest distinct fun n mem => others n (List.mem_cons_of_mem j mem)
      have head := others j List.mem_cons_self here
      rw [List.countP_cons, List.countP_cons]
      split
      · next holds => rw [if_pos (head holds)]; omega
      · omega

/-- Where one entry alone becomes PINNED, and its bucket has room, no bucket is over its limit (R48). -/
theorem pinnedInBucket_le {s t : State} {i : Nat} (limit : ∀ b, pinnedInBucket s b ≤ 3)
    (others : ∀ j, j ≠ i → isPinned t j = true → isPinned s j = true)
    (room : isPinned t i = true → isPinned s i = true ∨ pinnedInBucket s (i / 4) < 3) (b : Nat) :
    pinnedInBucket t b ≤ 3 := by
  by_cases fewer : ∀ j, j / 4 = b → isPinned t j = true → isPinned s j = true
  · exact (pinnedInBucket_mono fewer).trans (limit b)
  · simp only [not_forall] at fewer
    obtain ⟨j, bucket, now, before⟩ := fewer
    obtain rfl : j = i := by
      by_contra differ
      exact before (others j differ now)
    have space := (room now).resolve_left before
    subst bucket
    rw [pinnedInBucket_eq] at space ⊢
    have count := countP_succ_of_one (q := isPinned t) (p := isPinned s) (i := j)
      ((waysOf_sorted (j / 4)).imp fun lt => Nat.ne_of_lt lt) fun n _ differ => others n differ
    omega

/-! ### One entry changed -/

/-- From `e` to `d` key, State and Path States are the same. -/
structure Entry.SameStanding (e d : Entry) : Prop where
  addr  : d.addr = e.addr
  cls   : d.cls = e.cls
  state : d.state = e.state
  path1 : d.path1.state = e.path1.state
  path2 : d.path2.state = e.path2.state

/-- From `s` to `t` entry `i` is written: `d` in the place of `e`, of the same key, the levels following (R41). -/
structure WritesEntry (i : Nat) (e d : Entry) (s t : State) : Prop where
  held    : entryOf s i = some e
  entries : t.filter.entries = Tbl.put s.filter.entries i d
  addr    : d.addr = e.addr
  cls     : d.cls = e.cls
  room    : d.state = .pinned → e.state = .pinned ∨ pinnedInBucket s (i / 4) < 3
  window  : e.windowOk → d.windowOk
  levels  : t.filter.levels = s.filter.levels + d.weight - e.weight
  pairing : t.pairing = s.pairing

/-- From `s` to `t` the FREE entry `i` is made `e`, in the bucket of its key, the levels following (R44, R50). -/
structure MakesEntry (i : Nat) (e : Entry) (s t : State) : Prop where
  free    : entryOf s i = none
  entries : t.filter.entries = Tbl.put s.filter.entries i e
  bucket  : i / 4 = bucketOf e.addr e.cls
  room    : e.state = .pinned → pinnedInBucket s (i / 4) < 3
  window  : e.windowOk
  levels  : t.filter.levels = s.filter.levels + e.weight
  pairing : t.pairing = s.pairing

/-- From `s` to `t` entries of the Source Table are freed, and those that stay keep key and State and the fit of their
windows. -/
structure ThinsEntries (s t : State) : Prop where
  wf      : Tbl.wf s.filter.entries = true → Tbl.wf t.filter.entries = true
  below   : Tbl.below 512 s.filter.entries = true → Tbl.below 512 t.filter.entries = true
  kept    : ∀ i d, entryOf t i = some d →
    ∃ e, entryOf s i = some e ∧ d.addr = e.addr ∧ d.cls = e.cls ∧ d.state = e.state ∧ (e.windowOk → d.windowOk)
  pairing : t.pairing = s.pairing

theorem bucketOf_lt (a : Address) (c : TClass) : bucketOf a c < 128 := Nat.mod_lt _ (by decide)

section
variable {strict : Prop} {i : Nat} {e d : Entry} {s t v : State}

theorem entryOf_of_put (entries : t.filter.entries = Tbl.put s.filter.entries i d) (j : Nat) :
    entryOf t j = if j = i then some d else entryOf s j := by
  rw [entryOf, entries, Tbl.look_put]
  rfl

theorem isPinned_of_some (entry : entryOf s i = some e) : isPinned s i = (e.state == .pinned) := by
  rw [isPinned, entry]
  rfl

theorem WritesEntry.form (w : WritesEntry i e d s t) (form : TableInv s) : TableInv t := by
  obtain ⟨wf, below, bucket, once, limit⟩ := form
  have entry := entryOf_of_put w.entries
  have number : i < 512 := Tbl.lt_of_look below w.held
  have shadow : ∀ j g, entryOf t j = some g → ∃ g', entryOf s j = some g' ∧ g.addr = g'.addr ∧ g.cls = g'.cls :=
    fun j g there => by
      rw [entry] at there
      split at there
      · next same => exact ⟨e, same ▸ w.held, Option.some.inj there ▸ w.addr, Option.some.inj there ▸ w.cls⟩
      · exact ⟨g, there, rfl, rfl⟩
  refine ⟨w.entries ▸ Tbl.wf_put _ _ _ wf, w.entries ▸ Tbl.below_put _ _ _ number below, fun j g there => ?_,
    fun j k g h there here addr cls => ?_, pinnedInBucket_le (i := i) limit (fun j differ => ?_) fun now => ?_⟩
  · obtain ⟨g', before, addr, cls⟩ := shadow j g there
    rw [addr, cls]
    exact bucket j g' before
  · obtain ⟨g', before, addr', cls'⟩ := shadow j g there
    obtain ⟨h', before'', addr'', cls''⟩ := shadow k h here
    exact once j k g' h' before before'' (addr'.symm.trans (addr.trans addr'')) (cls'.symm.trans (cls.trans cls''))
  · rw [isPinned, entry, if_neg differ]
    exact id
  · rw [isPinned_of_some ((entry i).trans (if_pos rfl))] at now
    rw [isPinned_of_some w.held]
    simpa using w.room (by simpa using now)

theorem WritesEntry.keeps (w : WritesEntry i e d s t) : KeepsTables strict s t where
  form := w.form
  windows windows j g there := by
    rw [entryOf_of_put w.entries] at there
    split at there
    · exact Option.some.inj there ▸ w.window (windows i e w.held)
    · exact windows j g there
  levels form levels := by
    rw [levelInv_iff] at levels ⊢
    rw [w.levels, levels, w.entries, ← Tbl.weigh_put_of_held Entry.weight form.1 w.held]
    exact add_tsub_cancel_right _ _
  origins _ sound := sound.of_same (by rw [w.pairing]) (by rw [w.pairing])

/-- An entry made for a key that no entry holds, after what has kept the tables. -/
theorem KeepsTables.then_make (a : KeepsTables strict s v) (m : MakesEntry i e v t)
    (unheld : TableInv s → ∀ j d, entryOf v j = some d → ¬ (d.addr = e.addr ∧ d.cls = e.cls)) :
    KeepsTables strict s t := by
  have entry := entryOf_of_put m.entries
  have number : i < 512 := by
    have bucket := m.bucket
    have small := bucketOf_lt e.addr e.cls
    omega
  refine ⟨fun before => ?_, fun windows j g there => ?_, fun form levels => ?_, fun on sound => ?_⟩
  · have fresh := unheld before
    obtain ⟨wf, below, bucket, once, limit⟩ := a.form before
    refine ⟨m.entries ▸ Tbl.wf_put _ _ _ wf, m.entries ▸ Tbl.below_put _ _ _ number below, fun j g there => ?_,
      fun j k g h there here addr cls => ?_, pinnedInBucket_le (i := i) limit (fun j differ => ?_) fun now => ?_⟩
    · rw [entry] at there
      split at there
      · next same => exact Option.some.inj there ▸ same ▸ m.bucket
      · exact bucket j g there
    · rw [entry] at there here
      split at there <;> split at here
      · next one two => exact one.trans two.symm
      · exact absurd ⟨addr.symm.trans (Option.some.inj there ▸ rfl), cls.symm.trans (Option.some.inj there ▸ rfl)⟩
          (fresh k h here)
      · exact absurd ⟨addr.trans (Option.some.inj here ▸ rfl), cls.trans (Option.some.inj here ▸ rfl)⟩ (fresh j g there)
      · exact once j k g h there here addr cls
    · rw [isPinned, entry, if_neg differ]
      exact id
    · rw [isPinned_of_some ((entry i).trans (if_pos rfl))] at now
      exact .inr (m.room (by simpa using now))
  · rw [entry] at there
    split at there
    · exact Option.some.inj there ▸ m.window
    · exact a.windows windows j g there
  · have counted := a.levels form levels
    rw [levelInv_iff] at counted ⊢
    rw [m.levels, counted, m.entries, Tbl.weigh_put_of_free Entry.weight m.free]
  · exact (a.origins on sound).of_same (by rw [m.pairing]) (by rw [m.pairing])

theorem ThinsEntries.trans (a : ThinsEntries s t) (b : ThinsEntries t v) : ThinsEntries s v where
  wf h := b.wf (a.wf h)
  below h := b.below (a.below h)
  kept i d there := by
    obtain ⟨g, between, addr, cls, state, window⟩ := b.kept i d there
    obtain ⟨e, before, addr', cls', state', window'⟩ := a.kept i g between
    exact ⟨e, before, addr.trans addr', cls.trans cls', state.trans state', fun ok => window (window' ok)⟩
  pairing := b.pairing.trans a.pairing

theorem ThinsEntries.fewer (th : ThinsEntries s t) (j : Nat) (now : isPinned t j = true) : isPinned s j = true := by
  cases there : entryOf t j with
  | none =>
    rw [isPinned, there] at now
    cases now
  | some d =>
    obtain ⟨e, before, _, _, state, _⟩ := th.kept j d there
    rw [isPinned_of_some there, state] at now
    rwa [isPinned_of_some before]

theorem ThinsEntries.form (th : ThinsEntries s t) (form : TableInv s) : TableInv t := by
  obtain ⟨wf, below, bucket, once, limit⟩ := form
  refine ⟨th.wf wf, th.below below, fun j g there => ?_, fun j k g h there here addr cls => ?_, fun b =>
    (pinnedInBucket_mono fun j _ => th.fewer j).trans (limit b)⟩
  · obtain ⟨e, before, addr, cls, _⟩ := th.kept j g there
    rw [addr, cls]
    exact bucket j e before
  · obtain ⟨g', before, addr', cls', _⟩ := th.kept j g there
    obtain ⟨h', before'', addr'', cls'', _⟩ := th.kept k h here
    exact once j k g' h' before before'' (addr'.symm.trans (addr.trans addr'')) (cls'.symm.trans (cls.trans cls''))

theorem ThinsEntries.keeps (th : ThinsEntries s t) (levels : TableInv s → LevelInv s → LevelInv t) :
    KeepsTables strict s t where
  form := th.form
  windows windows j g there := by
    obtain ⟨e, before, _, _, _, window⟩ := th.kept j g there
    exact window (windows j e before)
  levels := levels
  origins _ sound := sound.of_same (by rw [th.pairing]) (by rw [th.pairing])

theorem thinsEntries_of_del (entries : t.filter.entries = Tbl.del s.filter.entries i) (pairing : t.pairing = s.pairing) :
    ThinsEntries s t where
  wf h := entries ▸ Tbl.wf_del _ _ h
  below h := entries ▸ Tbl.below_del _ _ h
  kept j d there := by
    rw [entryOf, entries, Tbl.look_del] at there
    split at there
    · cases there
    · exact ⟨d, there, rfl, rfl, rfl, id⟩
  pairing := pairing

end

end Sys2Proof.Machine

/-! SUPPORT. The Source Table's operations keep its form, its levels and its windows (R44 to R54, R57 to R62). -/

namespace Sys2Proof.Machine

/-! ### Levels under each operation -/

section
variable (s : State)

@[simp] theorem judgeNetwork_levels (n : Uplink) : (judgeNetwork n s).filter.levels = s.filter.levels := by
  rw [judgeNetwork_eq]
  cases n <;> rfl

theorem judgeNetwork_sameTables (n : Uplink) : SameTables s (judgeNetwork n s) :=
  ⟨judgeNetwork_entries s n, judgeNetwork_levels s n, by rw [(judgeNetwork_filter n s).pairing],
    by rw [(judgeNetwork_filter n s).pairing]⟩

/-- What a path that is LOST counts (R96). -/
def lostWeight (n : Uplink) : Nat × Nat × Nat × Nat :=
  match n with
  | .u1 => (0, 0, 0, 1)
  | .u2 => (0, 0, 1, 0)

@[simp] theorem raiseLost_levels (n : Uplink) : (raiseLost n s).filter.levels = s.filter.levels + lostWeight n := by
  rw [raiseLost, judgeNetwork_levels]
  cases n <;> rfl

@[simp] theorem lowerLost_levels (n : Uplink) : (lowerLost n s).filter.levels = s.filter.levels - lostWeight n := by
  rw [lowerLost, judgeNetwork_levels]
  cases n <;> rfl

theorem lowerCounts_levels (e : Entry) : (lowerCounts e s).filter.levels =
    s.filter.levels - (0, 0, (e.isLost .u2).toNat, (e.isLost .u1).toNat) := by
  unfold lowerCounts
  have none : ((0, 0, 0, 0) : Nat × Nat × Nat × Nat) = 0 := rfl
  dsimp only
  cases e.isLost .u2 <;> cases e.isLost .u1 <;> simp [lostWeight, tsub_tsub, none]

theorem dropEntry_levels (i : Nat) (b : Bool) :
    (dropEntry i b s).filter.levels = s.filter.levels - (1, b.toNat, 0, 0) := by
  cases b <;> rfl

theorem freeEntry_entries (i : Nat) : (freeEntry i s).filter.entries = Tbl.del s.filter.entries i := by
  unfold freeEntry
  split
  · exact congrArg (Tbl.del · i) (lowerCounts_entries _ s)
  · next free => exact (Tbl.del_of_free free).symm

theorem entryOf_freeEntry (i j : Nat) : entryOf (freeEntry i s) j = if j = i then none else entryOf s j := by
  rw [entryOf, freeEntry_entries, Tbl.look_del]
  rfl

theorem freeEntry_levels {i : Nat} {e : Entry} (held : entryOf s i = some e) :
    (freeEntry i s).filter.levels = s.filter.levels - e.weight := by
  simp only [freeEntry, held]
  rw [dropEntry_levels, lowerCounts_levels, tsub_tsub]
  simp [Entry.weight]

end

/-! ### Creation and freeing (R44, R46, R47) -/

section
variable {strict : Prop} {s : State} {i : Nat}

theorem newEntry_windowOk (a : Address) (c : TClass) (st : EntryState) (l : Option Silence) (now : Time) :
    (newEntry a c st l now).windowOk := rfl

theorem makesEntry_createEntry {a : Address} {c : TClass} (st : EntryState) (l : Option Silence)
    (free : entryOf s i = none) (bucket : i / 4 = bucketOf a c)
    (room : st = .pinned → pinnedInBucket s (bucketOf a c) < 3) :
    MakesEntry i (newEntry a c st l s.stationTime) s (createEntry i a c st l s) where
  free := free
  entries := rfl
  bucket := bucket
  room pinned := bucket ▸ room pinned
  window := newEntry_windowOk a c st l _
  levels := by cases st <;> rfl
  pairing := rfl

theorem freeEntry_keeps (i : Nat) (s : State) : KeepsTables strict s (freeEntry i s) := by
  cases held : entryOf s i with
  | none =>
    rw [freeEntry, held]
    exact .refl s
  | some e =>
    refine (thinsEntries_of_del (freeEntry_entries s i) (freeEntry_filter i s).pairing).keeps fun form levels => ?_
    rw [levelInv_iff] at levels ⊢
    rw [freeEntry_levels s held, freeEntry_entries, levels, ← Tbl.weigh_del Entry.weight form.1 held]
    exact add_tsub_cancel_right _ _

theorem entryCheckFails_keeps {e : Entry} (held : entryOf s i = some e) (p : Option Port) (c : Option TClass) :
    KeepsTables strict s (entryCheckFails i p c s) := by
  obtain ⟨only, -, -, -, filter, -⟩ := entryFreed_entryCheckFails i p c s
  have entries := entryCheckFails_entries i p c s
  refine (thinsEntries_of_del entries only.pairing).keeps fun form levels => ?_
  have weighed := Tbl.weigh_del Entry.weight form.1 held
  rw [weigh_weight, weigh_weight] at weighed
  have length : (Tbl.del s.filter.entries i).length + 1 = s.filter.entries.length := congrArg Prod.fst weighed
  have inUse : (entryCheckFails i p c s).filter.entriesInUse = s.filter.entriesInUse - 1 := by rw [filter]
  refine ⟨?_, ?_, ?_, ?_⟩
  · rw [inUse, levels.1, entries]
    omega
  · exact congrArg Filter.pinnedInUse filter
  · exact congrArg Filter.single1 filter
  · exact congrArg Filter.single2 filter

theorem lookupKey_keeps (p : Option Port) (a : Address) (c : TClass) (s : State) :
    KeepsTables strict s (lookupKey p a c s).2 := by
  unfold lookupKey
  split
  · exact .refl s
  · split
    · exact .refl s
    · next held =>
      split
      · exact .refl s
      · exact entryCheckFails_keeps held _ _

/-- After a lookup that misses, no entry of a table in form holds the key (R43, R47). -/
theorem lookupKey_missed {p : Option Port} {a : Address} {c : TClass} {t : State}
    (missed : lookupKey p a c s = (none, t)) (form : TableInv s) :
    ∀ j e, entryOf t j = some e → ¬ (e.addr = a ∧ e.cls = c) := by
  by_cases held : ∃ j e, entryOf s j = some e ∧ e.addr = a ∧ e.cls = c
  · obtain ⟨j, e, there, addr, cls⟩ := held
    by_cases holds : e.check = 0
    · rw [lookupKey_of_held form there addr cls holds] at missed
      cases missed
    · rw [lookupKey_of_failing form there addr cls holds] at missed
      cases missed
      intro k d here ⟨addr', cls'⟩
      rw [entryOf_entryCheckFails] at here
      split at here
      · cases here
      · next differ =>
        exact differ (form.2.2.2.1 k j d e here there (addr'.trans addr.symm) (cls'.trans cls.symm))
  · have unheld : ∀ j e, entryOf s j = some e → ¬ (e.addr = a ∧ e.cls = c) := fun j e there key => held ⟨j, e, there, key⟩
    rw [lookupKey_of_unheld unheld] at missed
    cases missed
    exact unheld

/-! ### The way taken (R44, R45) -/

theorem replaceEntry_keeps (p : Option Port) (i : Nat) (s : State) : KeepsTables strict s (replaceEntry p i s) := by
  unfold replaceEntry
  split
  · exact .refl s
  · next held =>
    split
    · exact (freeEntry_keeps i s).then_same ⟨rfl, rfl, rfl, rfl⟩
    · exact entryCheckFails_keeps held _ _

theorem entryOf_replaceEntry (p : Option Port) (i j : Nat) (s : State) :
    entryOf (replaceEntry p i s) j = if j = i then none else entryOf s j := by
  unfold replaceEntry
  split
  · next free =>
    split
    · next same => exact same ▸ free
    · rfl
  · split
    · exact entryOf_freeEntry s i j
    · exact entryOf_entryCheckFails i p none s j

theorem takeWay_keeps (p : Option Port) (b : Nat) (s : State) : KeepsTables strict s (takeWay p b s).2 := by
  unfold takeWay
  split
  · exact .refl s
  · exact replaceEntry_keeps _ _ s

/-- The way taken is a way of the bucket, FREE then, every other entry being kept (R44, R45). -/
theorem entryOf_takeWay (p : Option Port) (b : Nat) (s : State) : (takeWay p b s).1 / 4 = b ∧
    ∀ j, entryOf (takeWay p b s).2 j = if j = (takeWay p b s).1 then none else entryOf s j := by
  unfold takeWay
  split
  · next i found =>
    refine ⟨mem_waysOf.mp (List.mem_of_find?_eq_some found), fun j => ?_⟩
    dsimp only
    split
    · next same => exact same ▸ (Option.isNone_iff_eq_none.mp (List.find?_some found :))
    · rfl
  · exact ⟨victimWay_bucket s b, fun j => entryOf_replaceEntry p _ j s⟩

theorem pinnedInBucket_takeWay (p : Option Port) (b n : Nat) (s : State) :
    pinnedInBucket (takeWay p b s).2 n ≤ pinnedInBucket s n := by
  refine pinnedInBucket_mono fun j _ now => ?_
  rw [isPinned, (entryOf_takeWay p b s).2] at now
  split at now
  · cases now
  · exact now

/-- An entry made for a key that the lookup has missed, in the way that is taken for it (R44, R45, R50). -/
theorem KeepsTables.then_create {p : Option Port} {a : Address} {c : TClass} {v : State} (st : EntryState)
    (l : Option Silence) (kept : KeepsTables strict s v)
    (unheld : TableInv s → ∀ j e, entryOf v j = some e → ¬ (e.addr = a ∧ e.cls = c))
    (room : st = .pinned → pinnedInBucket v (bucketOf a c) < 3) :
    KeepsTables strict s
      (createEntry (takeWay p (bucketOf a c) v).1 a c st l (takeWay p (bucketOf a c) v).2) := by
  obtain ⟨bucket, entry⟩ := entryOf_takeWay p (bucketOf a c) v
  refine (kept.trans (takeWay_keeps p (bucketOf a c) v)).then_make
    (makesEntry_createEntry st l ((entry _).trans (if_pos rfl)) bucket fun pinned =>
      Nat.lt_of_le_of_lt (pinnedInBucket_takeWay p _ _ v) (room pinned)) fun form j e there => ?_
  rw [entry] at there
  split at there
  · cases there
  · exact unheld form j e there

theorem entryForArrival_keeps (p : Port) (a : Address) (c : TClass) (s : State) :
    KeepsTables strict s (entryForArrival p a c s).2 := by
  have looked := lookupKey_keeps (strict := strict) (some p) a c s
  unfold entryForArrival
  split
  · next e => rwa [e] at looked
  · next e =>
    rw [e] at looked
    exact looked.then_create .active none (lookupKey_missed e) (fun pinned => by cases pinned)

/-! ### Entries written (R41) -/

theorem Entry.SameStanding.weight {e d : Entry} (same : e.SameStanding d) : d.weight = e.weight := by
  simp only [Entry.weight, Entry.isLost, Entry.path, same.state, same.path1, same.path2]

theorem Entry.SameStanding.refl (e : Entry) : e.SameStanding e := ⟨rfl, rfl, rfl, rfl, rfl⟩

theorem Entry.SameStanding.trans {e d g : Entry} (a : e.SameStanding d) (b : d.SameStanding g) : e.SameStanding g :=
  ⟨b.addr.trans a.addr, b.cls.trans a.cls, b.state.trans a.state, b.path1.trans a.path1, b.path2.trans a.path2⟩

/-- A write that leaves key, State and Path States as they were. -/
theorem rewrite_keeps {e d : Entry} (held : entryOf s i = some e) (same : e.SameStanding d)
    (window : e.windowOk → d.windowOk) : KeepsTables strict s (putEntry i d s) :=
  WritesEntry.keeps (e := e) (d := { d with check := 0 })
    { held := held, entries := rfl, addr := same.addr, cls := same.cls
      room := fun pinned => .inl (same.state ▸ pinned)
      window := window
      levels := by
        rw [show ({ d with check := 0 } : Entry).weight = e.weight from same.weight]
        exact (add_tsub_cancel_right _ _).symm
      pairing := rfl }

/-- An ACTIVE entry pinned where its bucket has room (R49). -/
theorem pinned_keeps {e : Entry} (held : entryOf s i = some e) (active : e.state = .active)
    (room : pinnedInBucket s (i / 4) < 3) (l : Option Silence) :
    KeepsTables strict s ((putEntry i { e with state := .pinned, silence := l } s).onFilter fun f =>
      { f with pinnedInUse := f.pinnedInUse + 1 }) :=
  WritesEntry.keeps (e := e) (d := { e with state := .pinned, silence := l, check := 0 })
    { held := held, entries := rfl, addr := rfl, cls := rfl, room := fun _ => .inr room, window := id
      levels := by
        have unpinned : (e.state == .pinned) = false := by rw [active]; rfl
        simp [Filter.levels, Entry.weight, putEntry, State.onFilter, Entry.isLost, Entry.path, unpinned]
      pairing := rfl }

/-- A PINNED entry unpinned (R52). -/
theorem unpinned_keeps {e : Entry} (held : entryOf s i = some e) (pinned : e.state = .pinned) :
    KeepsTables strict s ((putEntry i { e with state := .active, silence := none } s).onFilter fun f =>
      { f with pinnedInUse := f.pinnedInUse - 1 }) :=
  WritesEntry.keeps (e := e) (d := { e with state := .active, silence := none, check := 0 })
    { held := held, entries := rfl, addr := rfl, cls := rfl, room := fun now => by cases now
      window := id
      levels := by
        have unpinned : (EntryState.active == .pinned) = false := rfl
        simp [Filter.levels, Entry.weight, putEntry, State.onFilter, Entry.isLost, Entry.path, pinned, unpinned]
      pairing := rfl }

/-! ### Pins and removals (R48 to R53) -/

theorem pinMatch_keeps (i limit : Nat) (s : State) : KeepsTables strict s (pinMatch i limit s).2 := by
  unfold pinMatch
  split
  · exact .refl s
  · next e held =>
    split
    · exact rewrite_keeps held ⟨rfl, rfl, rfl, rfl, rfl⟩ id
    · next other =>
      split
      · next room =>
        have active : e.state = .active := by
          cases state : e.state with
          | active => rfl
          | pinned => exact absurd state other
        exact pinned_keeps held active room _
      · exact .refl s

theorem pinKey_keeps (p : Option Port) (a : Address) (c : TClass) (limit : Nat) (s : State) :
    KeepsTables strict s (pinKey p a c limit s).2 := by
  have looked := lookupKey_keeps (strict := strict) p a c s
  unfold pinKey
  split
  · next e =>
    rw [e] at looked
    exact looked.trans (pinMatch_keeps _ _ _)
  · next e =>
    rw [e] at looked
    unfold pinMiss
    split
    · next room => exact looked.then_create .pinned _ (lookupKey_missed e) fun _ => room
    · exact looked

theorem unpinKey_keeps (p : Port) (a : Address) (c : TClass) (s : State) :
    KeepsTables strict s (unpinKey p a c s).2 := by
  have looked := lookupKey_keeps (strict := strict) (some p) a c s
  unfold unpinKey
  split
  · next e => rwa [e] at looked
  · next e =>
    rw [e] at looked
    split
    · exact looked
    · next held =>
      split
      · next pinned => exact looked.trans (unpinned_keeps held pinned)
      · exact looked

theorem removeKey_keeps (p : Port) (a : Address) (c : TClass) (s : State) :
    KeepsTables strict s (removeKey p a c s).2 := by
  have looked := lookupKey_keeps (strict := strict) (some p) a c s
  unfold removeKey
  split
  · next e => rwa [e] at looked
  · next e =>
    rw [e] at looked
    exact (looked.trans (freeEntry_keeps _ _)).then_same ⟨rfl, rfl, rfl, rfl⟩

end

end Sys2Proof.Machine

/-! SUPPORT. FLUSH-TABLE: what it leaves of each entry, and that the Source Table keeps its form (R54). -/

namespace Sys2Proof.Machine

/-! ### FLUSH-TABLE (R54) -/

/-- What FLUSH-TABLE leaves of an entry: a PINNED one whose Check holds starts anew, any other is FREE (R54). -/
def flushedAt (now : Time) (o : Option Entry) : Option Entry :=
  o.bind fun e => if e.state = .pinned ∧ e.check = 0 then some (e.flush now) else none

theorem flushedAt_of_stays {now : Time} {e : Entry} (stays : e.state = .pinned ∧ e.check = 0) :
    flushedAt now (some e) = some (e.flush now) := if_pos stays

theorem flushedAt_of_goes {now : Time} {e : Entry} (goes : ¬ (e.state = .pinned ∧ e.check = 0)) :
    flushedAt now (some e) = none := if_neg goes

theorem flushedAt_idem (now : Time) (o : Option Entry) : flushedAt now (flushedAt now o) = flushedAt now o := by
  cases o with
  | none => rfl
  | some e =>
    by_cases stays : e.state = .pinned ∧ e.check = 0
    · rw [flushedAt_of_stays stays, flushedAt_of_stays (e := e.flush now) ⟨stays.1, rfl⟩]
      rfl
    · rw [flushedAt_of_goes stays]
      rfl

theorem flushedAt_eq_some {now : Time} {o : Option Entry} {d : Entry} (there : flushedAt now o = some d) :
    ∃ e, o = some e ∧ e.state = .pinned ∧ e.check = 0 ∧ d = e.flush now := by
  obtain ⟨e, rfl, made⟩ := Option.bind_eq_some_iff.mp there
  split at made
  · next stays => exact ⟨e, rfl, stays.1, stays.2, (Option.some.inj made).symm⟩
  · cases made

/-- The count of entries and of PINNED entries, which FLUSH-TABLE keeps at every entry of its pass. -/
def Filter.inUse (f : Filter) : Nat × Nat := (f.entriesInUse, f.pinnedInUse)

/-- What an entry counts under Entries In Use and Pinned In Use. -/
def Entry.use (e : Entry) : Nat × Nat := (1, (e.state == .pinned).toNat)

theorem weigh_use (t : Tbl Entry) :
    Tbl.weigh Entry.use t = (t.length, Tbl.count (fun e => e.state == .pinned) t) := by
  induction t with
  | nil => rfl
  | cons p t ih => simp [Tbl.weigh_cons, ih, Tbl.count_cons, Entry.use, add_comm]

section
variable {s : State}

theorem flushEntry_entries (s : State) (i : Nat) : (flushEntry s i).filter.entries =
    match entryOf s i with
    | none => s.filter.entries
    | some e =>
      if e.state = .pinned ∧ e.check = 0 then Tbl.put s.filter.entries i (e.flush s.stationTime)
      else Tbl.del s.filter.entries i := by
  unfold flushEntry
  cases entryOf s i with
  | none => rfl
  | some e =>
    dsimp only
    cases state : e.state with
    | active => simp [dropEntry, Filter.onCounters]
    | pinned =>
      by_cases holds : e.check = 0
      · simp [holds, putEntry]
        rfl
      · rw [if_neg (by decide), if_neg holds, if_neg fun both => holds both.2]
        rfl

theorem entryOf_flushEntry (s : State) (i j : Nat) :
    entryOf (flushEntry s i) j = if j = i then flushedAt s.stationTime (entryOf s i) else entryOf s j := by
  have after := flushEntry_entries s i
  cases held : entryOf s i with
  | none =>
    rw [held] at after
    rw [entryOf_of_entries after]
    split
    · next same => exact same ▸ held
    · rfl
  | some e =>
    rw [held] at after
    dsimp only at after
    by_cases stays : e.state = .pinned ∧ e.check = 0
    · rw [if_pos stays] at after
      rw [entryOf, after, Tbl.look_put, flushedAt_of_stays stays]
      rfl
    · rw [if_neg stays] at after
      rw [entryOf, after, Tbl.look_del, flushedAt_of_goes stays]
      rfl

/-- A pass of FLUSH-TABLE flushes the entries it comes by and no others. -/
theorem entryOf_foldl_flushEntry (l : List Nat) (s : State) (j : Nat) :
    entryOf (l.foldl flushEntry s) j = if j ∈ l then flushedAt s.stationTime (entryOf s j) else entryOf s j := by
  induction l generalizing s with
  | nil => simp
  | cons i l rest =>
    rw [List.foldl_cons, rest, entryOf_flushEntry, (flushEntry_filter s i).stationTime]
    by_cases here : j = i
    · subst here
      simp [flushedAt_idem]
    · simp [here]

theorem flushTable_entries (s : State) : (flushTable s).filter.entries =
    ((s.filter.entries.map Prod.fst).foldl flushEntry s).filter.entries := by
  rw [flushTable, setLost_entries, setLost_entries]

/-- FLUSH-TABLE flushes every entry (R54). -/
theorem entryOf_flushTable (s : State) (j : Nat) :
    entryOf (flushTable s) j = flushedAt s.stationTime (entryOf s j) := by
  rw [entryOf_of_entries (flushTable_entries s), entryOf_foldl_flushEntry]
  split
  · rfl
  · next out =>
    cases held : entryOf s j with
    | none => rfl
    | some e => exact absurd (List.mem_map.mpr ⟨(j, e), Tbl.mem_of_look held, rfl⟩) out

theorem flushEntry_thins (s : State) (i : Nat) : ThinsEntries s (flushEntry s i) where
  wf h := by
    rw [flushEntry_entries]
    split
    · exact h
    · split
      · exact Tbl.wf_put _ _ _ h
      · exact Tbl.wf_del _ _ h
  below h := by
    rw [flushEntry_entries]
    split
    · exact h
    · next held =>
      split
      · exact Tbl.below_put _ _ _ (Tbl.lt_of_look h held) h
      · exact Tbl.below_del _ _ h
  kept j d there := by
    rw [entryOf_flushEntry] at there
    split at there
    · next same =>
      obtain ⟨e, held, _, _, rfl⟩ := flushedAt_eq_some there
      exact ⟨e, same ▸ held, rfl, rfl, rfl, fun _ => rfl⟩
    · exact ⟨d, there, rfl, rfl, rfl, id⟩
  pairing := (flushEntry_filter s i).pairing

/-- Entries In Use and Pinned In Use follow each entry of the pass (R46, R47). -/
theorem flushEntry_inUse (i : Nat) (form : Tbl.wf s.filter.entries = true)
    (counted : s.filter.inUse = Tbl.weigh Entry.use s.filter.entries) :
    (flushEntry s i).filter.inUse = Tbl.weigh Entry.use (flushEntry s i).filter.entries := by
  have after := flushEntry_entries s i
  cases held : entryOf s i with
  | none =>
    rw [flushEntry, held]
    exact counted
  | some e =>
    have gone := Tbl.weigh_del Entry.use form held
    rw [held] at after
    dsimp only at after
    rw [after]
    simp only [flushEntry, held]
    cases state : e.state with
    | active =>
      have use : e.use = (1, 0) := by rw [Entry.use, state]; rfl
      rw [if_pos rfl, if_neg (by simp)]
      refine (?_ : s.filter.inUse - (1, 0) = _)
      rw [counted, ← gone, use]
      exact add_tsub_cancel_right _ _
    | pinned =>
      by_cases holds : e.check = 0
      · rw [if_neg (by decide), if_pos holds, if_pos ⟨rfl, holds⟩]
        have put := Tbl.weigh_put_of_held Entry.use (a := e.flush s.stationTime) form held
        exact counted.trans (add_right_cancel put).symm
      · rw [if_neg (by decide), if_neg holds, if_neg fun both => holds both.2]
        rw [weigh_use] at gone counted ⊢
        refine Prod.ext ?_ rfl
        have lengths : (Tbl.del s.filter.entries i).length + 1 = s.filter.entries.length := by
          rw [weigh_use] at gone
          exact congrArg Prod.fst gone
        have inUse : s.filter.entriesInUse = s.filter.entries.length := congrArg Prod.fst counted
        refine (?_ : s.filter.entriesInUse - 1 = (Tbl.del s.filter.entries i).length)
        omega

theorem foldl_flushEntry_thins (l : List Nat) (s : State) : ThinsEntries s (l.foldl flushEntry s) := by
  induction l generalizing s with
  | nil => exact ⟨id, id, fun _ d there => ⟨d, there, rfl, rfl, rfl, id⟩, rfl⟩
  | cons i l rest => exact (flushEntry_thins s i).trans (rest _)

theorem foldl_flushEntry_inUse (l : List Nat) (form : Tbl.wf s.filter.entries = true)
    (counted : s.filter.inUse = Tbl.weigh Entry.use s.filter.entries) :
    (l.foldl flushEntry s).filter.inUse = Tbl.weigh Entry.use (l.foldl flushEntry s).filter.entries := by
  induction l generalizing s with
  | nil => exact counted
  | cons i l rest => exact rest ((flushEntry_thins s i).wf form) (flushEntry_inUse i form counted)

/-- FLUSH-TABLE sets both summary counts to 0 and leaves the levels of use as its pass has left them (R54, R97). -/
theorem flushTable_levels (s : State) : (flushTable s).filter.levels =
    (((s.filter.entries.map Prod.fst).foldl flushEntry s).filter.entriesInUse,
      ((s.filter.entries.map Prod.fst).foldl flushEntry s).filter.pinnedInUse, 0, 0) := by
  rw [flushTable, setLost_both]
  rfl

/-- A table none of whose entries has a path LOST. -/
theorem count_isLost_eq_zero {t : State} (n : Uplink) (form : Tbl.wf t.filter.entries = true)
    (none : ∀ i d, entryOf t i = some d → d.isLost n = false) : countLost t n = 0 := by
  refine List.countP_eq_zero.mpr fun p mem => ?_
  simp [none p.1 p.2 (Tbl.look_of_mem form mem)]

theorem flushTable_keeps {strict : Prop} (s : State) : KeepsTables strict s (flushTable s) := by
  have pass := foldl_flushEntry_thins (s.filter.entries.map Prod.fst) s
  have entries := flushTable_entries s
  have thins : ThinsEntries s (flushTable s) :=
    { wf := fun h => entries ▸ pass.wf h
      below := fun h => entries ▸ pass.below h
      kept := fun i d there => pass.kept i d ((entryOf_of_entries entries i).symm.trans there)
      pairing := (flushTable_filter s).pairing }
  refine thins.keeps fun form levels => ?_
  have use : s.filter.inUse = Tbl.weigh Entry.use s.filter.entries := by
    rw [weigh_use]
    exact Prod.ext levels.1 levels.2.1
  have counted := foldl_flushEntry_inUse (s.filter.entries.map Prod.fst) form.1 use
  rw [weigh_use, ← entries] at counted
  have found : ∀ n, countLost (flushTable s) n = 0 := fun n =>
    count_isLost_eq_zero n (thins.wf form.1) fun i d there => by
      rw [entryOf_flushTable] at there
      obtain ⟨e, _, _, _, rfl⟩ := flushedAt_eq_some there
      cases n <;> rfl
  have after := flushTable_levels s
  simp only [Filter.levels, Prod.mk.injEq] at after
  obtain ⟨inUse, pinned, one, two⟩ := after
  exact ⟨inUse.trans (congrArg Prod.fst counted), pinned.trans (congrArg Prod.snd counted),
    one.trans (found .u2).symm, two.trans (found .u1).symm⟩

end

end Sys2Proof.Machine

/-! SUPPORT. Windows and twin lists (R67 to R80): what each verdict and the scanner leave of them, and how the Source
Table is kept by a visit of the scanner and by an arrival. -/

namespace Sys2Proof.Machine

/-! ### Windows and the sequences of their twins -/

/-- A window and the sequences of a twin list fit each other: `Entry.windowOk` in the terms that it reads. -/
def WindowFits : Option Window → List (BitVec 16) → Prop
  | none, l => l = []
  | some w, l => w.seen.getLsbD 0 = true ∧ l.length ≤ 4 ∧ l.Nodup ∧
    ∀ q ∈ l, (w.head - q).toNat ≤ 63 ∧ w.seen.getLsbD (w.head - q).toNat = true

/-- The sequences of an entry's twin records. -/
def Entry.twinSeqs (e : Entry) : List (BitVec 16) := e.twins.map Twin.seq

theorem windowOk_iff (e : Entry) : e.windowOk ↔ WindowFits e.window e.twinSeqs := by
  unfold Entry.windowOk Entry.twinSeqs
  cases e.window with
  | none => exact List.map_eq_nil_iff.symm
  | some w => simp [WindowFits]

theorem WindowFits.sublist {w : Option Window} {l m : List (BitVec 16)} (fits : WindowFits w l) (sub : m.Sublist l) :
    WindowFits w m := by
  cases w with
  | none =>
    rw [WindowFits] at fits
    exact List.sublist_nil.mp (fits ▸ sub)
  | some w =>
    obtain ⟨head, length, distinct, seen⟩ := fits
    exact ⟨head, sub.length_le.trans length, distinct.sublist sub, fun q mem => seen q (sub.subset mem)⟩

/-- The time of the last accepted arrival does not matter. -/
theorem WindowFits.retimed {w : Option Window} {l : List (BitVec 16)} (fits : WindowFits w l) (f : Window → Time) :
    WindowFits (w.map fun x => { x with lastAccept := f x }) l := by
  cases w <;> exact fits

theorem windowOk_of_sublist {e d : Entry} (window : d.window = e.window) (twins : d.twins.Sublist e.twins)
    (ok : e.windowOk) : d.windowOk := by
  rw [windowOk_iff] at ok ⊢
  rw [window]
  exact ok.sublist (twins.map _)

/-! ### Eviction and the time hold (R58, R61, R81) -/

theorem Entry.setPath_standing (e : Entry) (q : Uplink) {r : PathRecord} (same : r.state = (e.path q).state) :
    e.SameStanding (e.setPath q r) := by
  cases q
  · exact ⟨rfl, rfl, rfl, same, rfl⟩
  · exact ⟨rfl, rfl, rfl, rfl, same⟩

theorem chargeMiss_standing (e : Entry) (q : Uplink) : e.SameStanding (chargeMiss e q) := e.setPath_standing q rfl

theorem chargeMisses_standing (l : List Twin) (e : Entry) : e.SameStanding (chargeMisses e l) := by
  induction l generalizing e with
  | nil => exact .refl e
  | cons r l rest => exact (chargeMiss_standing e _).trans (rest _)

theorem evictTimedOut_standing (now : Time) (limit : Nat) (e : Entry) : e.SameStanding (evictTimedOut now limit e) := by
  obtain ⟨addr, cls, state, path1, path2⟩ := chargeMisses_standing (timedOutTwins now limit e.twins) e
  exact ⟨addr, cls, state, path1, path2⟩

theorem evictTimedOut_windowOk (now : Time) (limit : Nat) {e : Entry} (ok : e.windowOk) :
    (evictTimedOut now limit e).windowOk :=
  windowOk_of_sublist (evictTimedOut_kept now limit e).window (List.dropWhile_sublist _) ok

theorem Entry.hold_windowOk {e : Entry} (ok : e.windowOk) (now : Time) : (e.hold now).windowOk := by
  rw [windowOk_iff] at ok ⊢
  have same : (e.hold now).twinSeqs = e.twinSeqs := by simp [twinSeqs, hold]
  rw [same]
  exact ok.retimed fun w => holdTime now w.lastAccept

/-! ### The Table Scanner's visit (R57) -/

section
variable {strict : Prop} {s : State} {i : Nat}

theorem entryOf_putEntry_self (i : Nat) (e : Entry) (s : State) : entryOf (putEntry i e s) i = some { e with check := 0 } :=
  (entryOf_putEntry i i e s).trans (if_pos rfl)

theorem raise_sameTables (k : EventKind) (w : Nat) (c : Option TClass) (d : Nat) (a : Address) (s : State) :
    SameTables s (raise k w c d a s) := .of_eq rfl rfl

theorem visitWay_keeps (s : State) (i : Nat) : KeepsTables strict s (visitWay s i) := by
  unfold visitWay
  split
  · exact .refl s
  · next e held =>
    split
    · exact entryCheckFails_keeps held _ _
    · dsimp only
      have standing := evictTimedOut_standing s.stationTime s.settings.twinTimeout e
      have fits := evictTimedOut_windowOk s.stationTime s.settings.twinTimeout (e := e)
      generalize evictTimedOut s.stationTime s.settings.twinTimeout e = e' at standing fits ⊢
      have written := entryOf_putEntry_self i e' s
      have evicted : KeepsTables strict s
          ((putEntry i e' s).onFilter fun f => f.onCounters fun c =>
            { c with twinTimeouts := c.twinTimeouts +
                BitVec.ofNat 32 (timedOutTwins s.stationTime s.settings.twinTimeout e.twins).length }) :=
        (rewrite_keeps held standing fits).then_same ⟨rfl, rfl, rfl, rfl⟩
      split
      · split
        · exact (evicted.trans (freeEntry_keeps i _)).then_same ⟨rfl, rfl, rfl, rfl⟩
        · exact evicted.trans (rewrite_keeps (d := e'.hold _) written ⟨rfl, rfl, rfl, rfl, rfl⟩
            fun ok => Entry.hold_windowOk (e := e') ok _)
      · split
        · exact (evicted.then_same (raise_sameTables .sourceSilent 0 (some e'.cls) (i * 256) e'.addr _)).trans
            (rewrite_keeps (d := e'.setSilent.hold _) written ⟨rfl, rfl, rfl, rfl, rfl⟩
              fun ok => Entry.hold_windowOk (e := e'.setSilent) ok _)
        · exact evicted.trans (rewrite_keeps (d := e'.hold _) written ⟨rfl, rfl, rfl, rfl, rfl⟩
            fun ok => Entry.hold_windowOk (e := e') ok _)

theorem visitBucket_keeps (s : State) : KeepsTables strict s (visitBucket s) :=
  (KeepsTables.foldl visitWay_keeps _ s).then_same ⟨rfl, rfl, rfl, rfl⟩

end

/-! ### A record appended (R68, R78) -/

theorem chargeMiss_window (e : Entry) (q : Uplink) : (chargeMiss e q).window = e.window := (e.setPath_kept q _).window

theorem appendTwin_window (t : Twin) (x : Screening) : (appendTwin t x).entry.window = x.entry.window := by
  unfold appendTwin
  split
  · split
    · exact chargeMiss_window _ _
    · rfl
  · rfl

theorem appendTwin_seqs (t : Twin) (x : Screening) : (appendTwin t x).entry.twinSeqs =
    (if x.entry.twinSeqs.length < 4 then x.entry.twinSeqs else x.entry.twinSeqs.tail) ++ [t.seq] := by
  unfold appendTwin Entry.twinSeqs
  split
  · next h rest twins =>
    rw [List.length_map, twins]
    split
    · next full =>
      rw [if_neg (by omega)]
      simp
    · next room =>
      rw [if_pos (by omega)]
      simp
  · next twins => simp [twins]

theorem appendTwin_standing (t : Twin) (x : Screening) : x.entry.SameStanding (appendTwin t x).entry := by
  unfold appendTwin
  split
  · split
    · obtain ⟨addr, cls, state, path1, path2⟩ := chargeMiss_standing x.entry (other (Twin.firstPath _))
      exact ⟨addr, cls, state, path1, path2⟩
    · exact ⟨rfl, rfl, rfl, rfl, rfl⟩
  · exact ⟨rfl, rfl, rfl, rfl, rfl⟩

theorem acceptCommon_standing (now : Time) (t : Tag) (x : Screening) :
    x.entry.SameStanding (acceptCommon now t x).entry :=
  (appendTwin_standing _ x).trans ⟨rfl, rfl, rfl, rfl, rfl⟩

/-- An accepted sequence that no record has, within the window and seen, is appended to fit (R68, R78). -/
theorem acceptCommon_windowOk {now : Time} {t : Tag} {x : Screening} {w : Window} (window : x.entry.window = some w)
    (fits : WindowFits (some w) x.entry.twinSeqs) (near : (w.head - t.seq).toNat ≤ 63)
    (seen : w.seen.getLsbD (w.head - t.seq).toNat = true) (fresh : t.seq ∉ x.entry.twinSeqs) :
    (acceptCommon now t x).entry.windowOk := by
  rw [windowOk_iff]
  have seqs := appendTwin_seqs { seq := t.seq, firstPath := t.path, firstTime := now } x
  have shut := appendTwin_window { seq := t.seq, firstPath := t.path, firstTime := now } x
  have kept : WindowFits (some w) (appendTwin { seq := t.seq, firstPath := t.path, firstTime := now } x).entry.twinSeqs := by
    rw [seqs]
    have sub : (if x.entry.twinSeqs.length < 4 then x.entry.twinSeqs else x.entry.twinSeqs.tail).Sublist
        x.entry.twinSeqs := by
      split
      · exact List.Sublist.refl _
      · exact List.tail_sublist _
    have room : (if x.entry.twinSeqs.length < 4 then x.entry.twinSeqs else x.entry.twinSeqs.tail).length ≤ 3 := by
      have length := fits.2.1
      split
      · omega
      · rw [List.length_tail]
        omega
    obtain ⟨head, _, distinct, all⟩ := fits.sublist sub
    refine ⟨head, by rw [List.length_append]; exact Nat.succ_le_succ room, ?_, fun q mem => ?_⟩
    · refine List.nodup_append.mpr ⟨distinct, List.nodup_singleton _, fun q mem r last => ?_⟩
      rw [List.mem_singleton.mp last]
      exact fun same => fresh ((show q = t.seq from same) ▸ sub.subset mem)
    · rcases List.mem_append.mp mem with old | last
      · exact all q old
      · rw [List.mem_singleton.mp last]
        exact ⟨near, seen⟩
  rw [← window, ← shut] at kept
  exact kept.retimed fun _ => now

/-! ### Each verdict (R69 to R74) -/

theorem seqDiff_of_ahead {a b : BitVec 16} (low : 1 ≤ seqDiff a b) : (seqDiff a b).toNat = (a - b).toNat := by
  unfold seqDiff at *
  rw [BitVec.toInt_eq_toNat_cond] at *
  split at low <;> split <;> omega

theorem seqDiff_of_behind {a b : BitVec 16} (low : -63 ≤ seqDiff a b) (high : seqDiff a b ≤ -1) :
    (-(seqDiff a b)).toNat = (b - a).toNat := by
  unfold seqDiff at *
  have ha := a.isLt
  have hb := b.isLt
  simp only [BitVec.toInt_eq_toNat_cond, BitVec.toNat_sub] at *
  split at low <;> omega

/-- Differences add up where they do not wrap. -/
theorem toNat_sub_add {a b q : BitVec 16} (far : (a - b).toNat < 32768) (near : (b - q).toNat ≤ 63) :
    (a - q).toNat = (a - b).toNat + (b - q).toNat := by
  bv_omega

section
variable {now : Time} {t : Tag} {x : Screening} {w : Window}

theorem initialised_windowOk {e : Option (BitVec 3)} {p : BitVec 3} (twins : x.entry.twins = [])
    (window : x.entry.window = some (initWindow now t p e)) : (acceptCommon now t x).entry.windowOk := by
  have none : x.entry.twinSeqs = [] := by rw [Entry.twinSeqs, twins]; rfl
  have zero : (initWindow now t p e).head - t.seq = 0 := BitVec.sub_self _
  have seen : (initWindow now t p e).seen.getLsbD 0 = true := by simp [initWindow]
  refine acceptCommon_windowOk window ?_ (by rw [zero]; decide) (by rw [zero]; exact seen) (by simp [none])
  rw [none]
  exact ⟨seen, by simp, List.nodup_nil, by simp⟩

theorem firstEffect_windowOk (expired : Bool) : (firstEffect now t expired x).entry.windowOk :=
  initialised_windowOk rfl rfl

theorem jumpEffect_windowOk (epochJump : Bool) : (jumpEffect now t epochJump w x).entry.windowOk := by
  cases epochJump
  · exact initialised_windowOk (e := w.prevEpoch) (p := w.epoch) rfl rfl
  · exact initialised_windowOk (e := some w.epoch) (p := t.epoch) rfl rfl

theorem aheadEffect_windowOk (ok : x.entry.windowOk) (window : x.entry.window = some w)
    (ahead : 1 ≤ seqDiff t.seq w.head) : (aheadEffect now t w x).entry.windowOk := by
  rw [windowOk_iff, window] at ok
  obtain ⟨_, length, distinct, seen⟩ := ok
  have slide := seqDiff_of_ahead ahead
  have small : (seqDiff t.seq w.head).toNat < 32768 := by
    have := BitVec.toInt_lt (x := t.seq - w.head)
    unfold seqDiff
    omega
  have inList : ∀ q, q ∈ (x.entry.twins.filter fun r => !Twin.slidOut t.seq r).map Twin.seq →
      q ∈ x.entry.twinSeqs ∧ (t.seq - q).toNat ≤ 63 := fun q mem => by
    obtain ⟨r, stays, rfl⟩ := List.mem_map.mp mem
    obtain ⟨old, near⟩ := List.mem_filter.mp stays
    exact ⟨List.mem_map_of_mem old, by simpa [Twin.slidOut] using near⟩
  have moved : ∀ q, (w.head - q).toNat ≤ 63 → (t.seq - q).toNat = (t.seq - w.head).toNat + (w.head - q).toNat :=
    fun q near => toNat_sub_add (slide ▸ small) near
  have sub : ((x.entry.twins.filter fun r => !Twin.slidOut t.seq r).map Twin.seq).Sublist x.entry.twinSeqs :=
    (List.filter_sublist).map _
  refine acceptCommon_windowOk rfl (⟨by simp, sub.length_le.trans length, distinct.sublist sub, fun q mem => ?_⟩ :
    WindowFits (some _) _) (by simp) (by simp) fun mem => ?_
  · obtain ⟨old, near⟩ := inList q mem
    obtain ⟨before, bit⟩ := seen q old
    refine ⟨near, ?_⟩
    have offset := moved q before
    dsimp only at near ⊢
    rw [offset] at near ⊢
    rw [BitVec.getLsbD_or, BitVec.getLsbD_shiftLeft, slide]
    simp only [Nat.add_sub_cancel_left, bit, Bool.and_true, Bool.or_eq_true, Bool.and_eq_true, decide_eq_true_eq,
      Bool.not_eq_true', decide_eq_false_iff_not]
    omega
  · obtain ⟨old, _⟩ := inList _ mem
    have offset := moved t.seq (seen _ old).1
    rw [BitVec.sub_self, BitVec.toNat_zero] at offset
    omega

theorem lateEffect_windowOk (ok : x.entry.windowOk) (window : x.entry.window = some w)
    (low : -63 ≤ seqDiff t.seq w.head) (high : seqDiff t.seq w.head ≤ -1)
    (unseen : w.seen.getLsbD (-(seqDiff t.seq w.head)).toNat = false) : (lateEffect now t w x).entry.windowOk := by
  rw [windowOk_iff, window] at ok
  obtain ⟨head, length, distinct, seen⟩ := ok
  have offset := seqDiff_of_behind low high
  have near : (w.head - t.seq).toNat ≤ 63 := by omega
  refine acceptCommon_windowOk rfl (show WindowFits (some _) x.entry.twinSeqs from
    ⟨?_, length, distinct, fun q mem => ⟨(seen q mem).1, ?_⟩⟩) near ?_ fun mem => ?_
  · rw [BitVec.getLsbD_or, head, Bool.true_or]
  · rw [BitVec.getLsbD_or, (seen q mem).2, Bool.true_or]
  · dsimp only
    rw [offset, BitVec.getLsbD_or, BitVec.natCast_eq_ofNat, BitVec.getLsbD_ofNat, Nat.one_shiftLeft, Nat.testBit_two_pow_self]
    simp only [Bool.and_true, Bool.or_eq_true, decide_eq_true_eq]
    omega
  · have bit := (seen t.seq mem).2
    rw [← offset, unseen] at bit
    cases bit

theorem repeatEffect_windowOk (limit : Nat) (ok : x.entry.windowOk) :
    (repeatEffect now limit t x).1.entry.windowOk := by
  have window := (repeatEffect_kept now limit t x).window
  refine windowOk_of_sublist window ?_ ok
  unfold repeatEffect
  dsimp only
  split
  · exact List.Sublist.refl _
  · split
    · exact List.Sublist.refl _
    · exact List.erase_sublist

end

end Sys2Proof.Machine

/-! SUPPORT. An arrival keeps the Source Table: its verdict, its effects on the entry, and path health (R64 to R74, R91
to R93). -/

namespace Sys2Proof.Machine

/-! ### The verdict's effects on windows and on what levels count -/

theorem seqDiff_of_ahead_verdict {n : Nat} {w : Window} {q : BitVec 16} (ahead : sequenceVerdict n w q = .ahead) :
    1 ≤ seqDiff q w.head := by
  unfold sequenceVerdict at ahead
  split at ahead
  · cases ahead
  · split at ahead
    · next band => exact band.1
    · split at ahead
      · split at ahead <;> cases ahead
      · split at ahead <;> cases ahead

theorem seqDiff_of_late_verdict {n : Nat} {w : Window} {q : BitVec 16} (late : sequenceVerdict n w q = .late) :
    -63 ≤ seqDiff q w.head ∧ seqDiff q w.head ≤ -1 ∧ w.seen.getLsbD (-(seqDiff q w.head)).toNat = false := by
  unfold sequenceVerdict at late
  split at late
  · cases late
  · split at late
    · cases late
    · split at late
      · next band =>
        split at late
        · cases late
        · next unseen => exact ⟨band.1, band.2, by simpa using unseen⟩
      · split at late <;> cases late

/-- A verdict by the band of the difference is `sequenceVerdict`'s (R66 test 4). -/
theorem verdictOf_sequence {st : Settings} {now : Time} {q : BitVec 16} {p : BitVec 3} {w : Window} {v : Verdict}
    (verdict : verdictOf st now q p (some w) = v) (band : v = .ahead ∨ v = .late) :
    sequenceVerdict st.jumpLimit w q = v := by
  unfold verdictOf at verdict
  dsimp only at verdict
  split at verdict
  · subst verdict
    simp at band
  · split at verdict
    · subst verdict
      simp at band
    · split at verdict
      · subst verdict
        simp at band
      · exact verdict

section
variable {st : Settings} {now : Time} {t : Tag} {x : Screening}

theorem verdictEffect_windowOk {v : Verdict} (ok : x.entry.windowOk)
    (verdict : verdictOf st now t.seq t.epoch x.entry.window = v) : (verdictEffect st now t v x).1.entry.windowOk := by
  unfold verdictEffect
  split
  · exact firstEffect_windowOk _
  · exact jumpEffect_windowOk true
  · exact jumpEffect_windowOk false
  · next w window =>
    rw [window] at verdict
    exact aheadEffect_windowOk ok window (seqDiff_of_ahead_verdict (verdictOf_sequence verdict (.inl rfl)))
  · next w window =>
    rw [window] at verdict
    obtain ⟨low, high, unseen⟩ := seqDiff_of_late_verdict (verdictOf_sequence verdict (.inr rfl))
    exact lateEffect_windowOk ok window low high unseen
  · exact repeatEffect_windowOk _ ok
  · exact ok
  · exact ok
  · exact ok

theorem acceptCommon_standing_of {e : Entry} {y : Screening} (same : e.SameStanding y.entry) :
    e.SameStanding (acceptCommon now t y).entry := same.trans (acceptCommon_standing now t y)

theorem aheadEffect_standing (w : Window) : x.entry.SameStanding (aheadEffect now t w x).entry := by
  obtain ⟨addr, cls, state, path1, path2⟩ :=
    chargeMisses_standing (x.entry.twins.filter (Twin.slidOut t.seq)) x.entry
  exact acceptCommon_standing_of ⟨addr, cls, state, path1, path2⟩

theorem repeatEffect_standing (limit : Nat) : x.entry.SameStanding (repeatEffect now limit t x).1.entry := by
  unfold repeatEffect
  dsimp only
  split
  · exact ⟨rfl, rfl, rfl, rfl, rfl⟩
  · split
    · exact ⟨rfl, rfl, rfl, rfl, rfl⟩
    · unfold skewEffect
      cases t.path <;> exact ⟨rfl, rfl, rfl, rfl, rfl⟩

theorem verdictEffect_standing (v : Verdict) : x.entry.SameStanding (verdictEffect st now t v x).1.entry := by
  unfold verdictEffect
  split
  · exact acceptCommon_standing_of ⟨rfl, rfl, rfl, rfl, rfl⟩
  · exact acceptCommon_standing_of ⟨rfl, rfl, rfl, rfl, rfl⟩
  · exact acceptCommon_standing_of ⟨rfl, rfl, rfl, rfl, rfl⟩
  · exact aheadEffect_standing _
  · exact acceptCommon_standing_of ⟨rfl, rfl, rfl, rfl, rfl⟩
  · exact repeatEffect_standing _
  · exact ⟨rfl, rfl, rfl, rfl, rfl⟩
  · exact ⟨rfl, rfl, rfl, rfl, rfl⟩
  · exact .refl _

theorem lastUseStep_standing (e : Entry) : e.SameStanding (lastUseStep now e) := by
  unfold lastUseStep Entry.clearSilent
  exact ⟨rfl, rfl, rfl, rfl, rfl⟩

theorem screenEntry_standing : x.entry.SameStanding (screenEntry st now t x).1.entry :=
  ((evictTimedOut_standing now st.twinTimeout x.entry).trans (verdictEffect_standing (x := timeoutStep st now x) _)).trans
    (lastUseStep_standing _)

theorem screenEntry_windowOk (ok : x.entry.windowOk) : (screenEntry st now t x).1.entry.windowOk :=
  verdictEffect_windowOk (x := timeoutStep st now x) (evictTimedOut_windowOk now st.twinTimeout ok) rfl

end

/-! ### Path health (R91 to R93) -/

theorem Entry.PathsOnly.windowOk {e d : Entry} (only : e.PathsOnly d) (ok : e.windowOk) : d.windowOk := by
  unfold PathsOnly at only
  rw [only]
  exact ok

section
variable {e : Entry} {p : Uplink} {r : PathRecord}

/-- What an entry counts once a path of it is not LOST, or no longer. -/
theorem weight_setPath_present (present : r.state ≠ .lost) :
    (e.setPath p r).weight + (if e.isLost p then lostWeight p else 0) = e.weight := by
  cases p <;> cases before : e.isLost _ <;>
    simp_all [Entry.weight, Entry.isLost, Entry.path, Entry.setPath, lostWeight, beq_eq_decide]

theorem weight_setPath_lost (lost : r.state = .lost) (before : e.isLost p = false) :
    (e.setPath p r).weight = e.weight + lostWeight p := by
  cases p <;> simp_all [Entry.weight, Entry.isLost, Entry.path, Entry.setPath, lostWeight]

end

theorem arrivingPath_levels {i : Nat} {s : State} {e : Entry} (p : Uplink) (held : entryOf s i = some e) :
    (arrivingPath i p s).filter.levels = s.filter.levels - (if e.isLost p then lostWeight p else 0) := by
  unfold arrivingPath
  rw [held]
  dsimp only
  split
  · next unseen => simp [Entry.isLost, unseen, putEntry, Filter.levels]
  · next present => simp [Entry.isLost, present, putEntry, Filter.levels]
  · next lost =>
    rw [lowerLost_levels]
    simp [Entry.isLost, lost, putEntry, Filter.levels, Filter.onCounters]

theorem arrivingPath_keeps {strict : Prop} (i : Nat) (p : Uplink) (s : State) :
    KeepsTables strict s (arrivingPath i p s) := by
  cases held : entryOf s i with
  | none =>
    rw [arrivingPath, held]
    exact .refl s
  | some e =>
    have only := e.arrived_pathsOnly p s.stationTime
    have kept := only.kept
    have weight : (e.arrived p s.stationTime).weight + (if e.isLost p then lostWeight p else 0) = e.weight :=
      weight_setPath_present (r := { e.path p with
        state := .present, lastArrival := some s.stationTime
        missRun := if (e.path p).state = .present then (e.path p).missRun else 0 }) (by simp)
    exact WritesEntry.keeps
      { held := held, entries := arrivingPath_entries p held, addr := kept.addr, cls := kept.cls
        room := fun pinned => .inl (kept.state ▸ pinned)
        window := only.windowOk
        levels := by
          rw [arrivingPath_levels p held, ← weight, add_comm (Entry.weight _) (ite _ _ _), add_tsub_add_eq_tsub_right]
        pairing := (arrivingPath_filter i p s).pairing }

theorem judgePath_keeps {strict : Prop} (i : Nat) (q : Uplink) (s : State) :
    KeepsTables strict s (judgePath i q s) := by
  unfold judgePath
  split
  · exact .refl s
  · next e held =>
    split
    · next falls =>
      exact WritesEntry.keeps (e := e) (d := { e.setPath q { e.path q with state := .lost } with check := 0 })
        { held := held
          entries := raiseLost_entries _ q
          addr := (e.setPath_kept q _).addr
          cls := (e.setPath_kept q _).cls
          room := fun pinned => .inl ((e.setPath_kept q _).state ▸ pinned)
          window := fun ok => by cases q <;> exact ok
          levels := by
            rw [raiseLost_levels,
              show ({ e.setPath q { e.path q with state := .lost } with check := 0 } : Entry).weight =
                e.weight + lostWeight q from weight_setPath_lost rfl falls.1,
              add_comm e.weight, ← add_assoc, add_tsub_cancel_right]
            rfl
          pairing := (raiseLost_filter _ _).pairing }
    · exact .refl s

theorem raiseSkew_sameTables (e : Entry) (ev : Option Bool) (s : State) : SameTables s (raiseSkew e ev s) := by
  unfold raiseSkew
  split
  · exact .refl s
  · exact raise_sameTables _ _ _ _ _ s

/-- Steps 2 to 10 of R64 keep the tables. -/
theorem screenAt_keeps {strict : Prop} (i : Nat) (t : Tag) (s : State) : KeepsTables strict s (screenAt i t s).2 := by
  cases held : entryOf s i with
  | none =>
    rw [screenAt, held]
    exact .refl s
  | some e =>
    rw [screenAt_eq held]
    have written : KeepsTables strict s (screenedAt i t e s) := by
      unfold screenedAt
      refine .then_same ?_ (raiseSkew_sameTables _ _ _)
      exact (rewrite_keeps held (screenEntry_standing (x := screeningOf e s))
        (screenEntry_windowOk (x := screeningOf e s))).then_same ⟨rfl, rfl, rfl, rfl⟩
    exact (written.trans (arrivingPath_keeps i t.path _)).trans (judgePath_keeps i (other t.path) _)

theorem screen_keeps {strict : Prop} (t : Tag) (a : Address) (s : State) : KeepsTables strict s (screen t a s).2.2 := by
  have found := entryForArrival_keeps (strict := strict) (uplinkPort t.path) a t.cls s
  unfold screen
  split
  next i s' e =>
  rw [e] at found
  have screened := screenAt_keeps (strict := strict) i t s'
  split
  next e' =>
  rw [e'] at screened
  exact found.trans screened

theorem readPresenceBody_keeps {strict : Prop} (i : Nat) (w : Walk) (f : List Octet) (s : State) :
    KeepsTables strict s (readPresenceBody i w f s) := by
  unfold readPresenceBody
  split
  · split
    · next held => exact rewrite_keeps held ⟨rfl, rfl, rfl, rfl, rfl⟩ id
    · exact .refl s
  · exact SameTables.keeps ⟨rfl, rfl, rfl, rfl⟩

end Sys2Proof.Machine

/-! SUPPORT. The Pairing Unit keeps the levels of the Origin Table true counts (R113 to R131). -/

namespace Sys2Proof.Machine

/-! ### One Origin entry changed -/

section
variable {strict : Prop} {i : Nat} {e d : OriginEntry} {s t : State}

/-- Where the Duplicate Filter is the same, the Origin Table alone is in question. -/
theorem KeepsTables.of_origins (filter : t.filter = s.filter) (origins : strict → OriginSound s → OriginSound t) :
    KeepsTables strict s t where
  form form := form.of_entries (by rw [filter])
  windows windows := by simpa only [WindowInv, entryOf, filter] using windows
  levels _ levels := by simpa only [levelInv_iff, filter] using levels
  origins := origins

theorem originSound_of_put (sound : OriginSound s) (entries : t.pairing.entries = Tbl.put s.pairing.entries i d)
    (zero : i = 0 → d.state = .pinned)
    (levels : t.pairing.levels = Tbl.weigh OriginEntry.weight (Tbl.put s.pairing.entries i d)) : OriginSound t := by
  obtain ⟨wf, pinned, _⟩ := sound
  refine ⟨entries ▸ Tbl.wf_put _ _ _ wf, fun g there => ?_, (originLevelInv_iff t).mpr (entries ▸ levels)⟩
  rw [originOf, entries, Tbl.look_put] at there
  split at there
  · next same => exact Option.some.inj there ▸ zero same.symm
  · exact pinned g there

theorem originSound_of_write (sound : OriginSound s) (held : originOf s i = some e)
    (entries : t.pairing.entries = Tbl.put s.pairing.entries i d) (zero : i = 0 → e.state = .pinned → d.state = .pinned)
    (levels : t.pairing.levels = s.pairing.levels + d.weight - e.weight) : OriginSound t := by
  have counted := (originLevelInv_iff s).mp sound.2.2
  refine originSound_of_put sound entries (fun same => zero same (sound.2.1 e (same ▸ held))) ?_
  rw [levels, counted, ← Tbl.weigh_put_of_held OriginEntry.weight sound.1 held]
  exact add_tsub_cancel_right _ _

theorem originSound_of_make (sound : OriginSound s) (free : originOf s i = none)
    (entries : t.pairing.entries = Tbl.put s.pairing.entries i d) (zero : i = 0 → d.state = .pinned)
    (levels : t.pairing.levels = s.pairing.levels + d.weight) : OriginSound t := by
  refine originSound_of_put sound entries zero ?_
  rw [levels, (originLevelInv_iff s).mp sound.2.2, Tbl.weigh_put_of_free _ free]

theorem originSound_of_del (sound : OriginSound s) (entries : t.pairing.entries = Tbl.del s.pairing.entries i)
    (levels : t.pairing.levels = Tbl.weigh OriginEntry.weight (Tbl.del s.pairing.entries i)) : OriginSound t := by
  obtain ⟨wf, pinned, _⟩ := sound
  refine ⟨entries ▸ Tbl.wf_del _ _ wf, fun g there => ?_, (originLevelInv_iff t).mpr (entries ▸ levels)⟩
  rw [originOf, entries, Tbl.look_del] at there
  split at there
  · cases there
  · exact pinned g there

/-! ### The operations -/

/-- A write that leaves the State as it was. -/
theorem putOrigin_keeps (held : originOf s i = some e) (same : d.state = e.state) :
    KeepsTables strict s (putOrigin i d s) :=
  .of_origins rfl fun _ sound => originSound_of_write sound held (d := { d with check := 0 }) rfl
    (fun _ pinned => same.trans pinned) (by
      rw [show ({ d with check := 0 } : OriginEntry).weight = e.weight by simp only [OriginEntry.weight, same]]
      exact (add_tsub_cancel_right _ _).symm)

theorem createOrigin_keeps {a : Address} {st : OriginState} (free : strict → OriginSound s → originOf s i = none)
    (zero : i = 0 → st = .pinned) : KeepsTables strict s (createOrigin i st a s) :=
  .of_origins rfl fun on sound => originSound_of_make sound (free on sound)
    (d := newOrigin st a s.pairing.epochCounter s.stationTime) rfl zero (by cases st <;> rfl)

/-- The index that a new sender takes is FREE, and is not 0 (R114). -/
theorem freeOrigin_free (found : freeOrigin s = some i) : originOf s i = none ∧ 1 ≤ i := by
  obtain ⟨free, low, -⟩ := Tbl.lowestFree_spec _ _ _ _ _ (List.mem_of_mem_head? (Option.mem_def.mpr found))
  exact ⟨free, low⟩

theorem createFree_keeps {a : Address} {st : OriginState} (found : freeOrigin s = some i) :
    KeepsTables strict s (createOrigin i st a s) := by
  obtain ⟨free, low⟩ := freeOrigin_free found
  exact createOrigin_keeps (fun _ _ => free) (by omega)

theorem dropOrigin_keeps (i : Nat) (s : State) : KeepsTables strict s (dropOrigin i s) := by
  unfold dropOrigin
  split
  · exact .refl s
  · next e held =>
    refine .of_origins rfl fun _ sound => originSound_of_del sound (i := i) rfl ?_
    have counted := (originLevelInv_iff s).mp sound.2.2
    rw [← Tbl.weigh_del OriginEntry.weight sound.1 held] at counted
    have gone := tsub_eq_of_eq_add counted
    rw [← gone]
    cases state : e.state <;> simp [Pairing.levels, OriginEntry.weight, state, beq_eq_decide]

/-- A freeing that counts the PINNED entries anew (R116). -/
theorem freeUntrusted_keeps (held : originOf s i = some e) : KeepsTables strict s (freeUntrusted i s) := by
  refine .of_origins rfl fun _ sound => originSound_of_del sound (i := i) rfl ?_
  have counted := (originLevelInv_iff s).mp sound.2.2
  have weighed := Tbl.weigh_del OriginEntry.weight sound.1 held
  rw [← counted] at weighed
  rw [weigh_originWeight] at weighed ⊢
  exact Prod.ext (Nat.sub_eq_of_eq_add (congrArg Prod.fst weighed).symm) rfl

/-- Entry 0 rebuilt in place (R114, R116). -/
theorem rebuildZero_keeps (held : originOf s 0 = some e) : KeepsTables strict s (rebuildZero s) :=
  .of_origins rfl fun _ sound => originSound_of_write sound held
    (d := newOrigin .pinned s.loader.stationAddress s.pairing.epochCounter s.stationTime) rfl (fun _ _ => rfl) (by
      have weight : e.weight = (1, 1) := by rw [OriginEntry.weight, sound.2.1 e held]; rfl
      rw [weight]
      exact (add_tsub_cancel_right _ _).symm)

theorem originCheckFails_keeps (held : originOf s i = some e) (p : Option Port) (c : Option TClass) :
    KeepsTables strict s (originCheckFails i p c s) := by
  have reported : KeepsTables strict s (report .originCheck i p c s) := SameTables.keeps (.of_eq rfl rfl)
  unfold originCheckFails
  split
  · next same => exact reported.trans (rebuildZero_keeps (same ▸ held))
  · exact reported.trans (freeUntrusted_keeps held)

theorem verifyOrigin_keeps (i : Nat) (p : Option Port) (c : Option TClass) (s : State) :
    KeepsTables strict s (verifyOrigin i p c s).2 := by
  unfold verifyOrigin
  split
  · exact .refl s
  · next held =>
    split
    · exact .refl s
    · exact originCheckFails_keeps held p c

theorem lookupOrigin_keeps (p : Option Port) (c : Option TClass) (a : Address) (s : State) :
    KeepsTables strict s (lookupOrigin p c a s).2 := by
  unfold lookupOrigin
  split
  · exact .refl s
  · exact verifyOrigin_keeps _ p c s

theorem touchOrigin_keeps (i : Nat) (s : State) : KeepsTables strict s (touchOrigin i s) := by
  unfold touchOrigin
  split
  · exact .refl s
  · next held => exact putOrigin_keeps held rfl

theorem senderOf_keeps (c : TClass) (a : Address) (s : State) : KeepsTables strict s (senderOf c a s).2 := by
  have looked := lookupOrigin_keeps (strict := strict) (some .b) (some c) a s
  unfold senderOf
  split
  · next e =>
    rw [e] at looked
    exact looked.trans (touchOrigin_keeps _ _)
  · next e =>
    rw [e] at looked
    split
    · next found => exact (looked.trans (createFree_keeps found)).then_same ⟨rfl, rfl, rfl, rfl⟩
    · exact looked

theorem writeHandle_sameTables (h : Nat) (f : Handle → Handle) (s : State) :
    SameTables s (writeHandle h f s) := (writeHandle_storage h f s).sameTables

theorem stamp_keeps (n : Numbering) (h : Nat) (c : TClass) (s : State) : KeepsTables strict s (stamp n h c s) := by
  unfold stamp
  split
  · split
    · exact .refl s
    · next i _ e held =>
      have written := writeHandle_storage h
        (fun r => { r with tag := some (stampFields (e.next.get c) e.epoch c s.settings) }) s
      have still : originOf (writeHandle h (fun r =>
          { r with tag := some (stampFields (e.next.get c) e.epoch c s.settings) }) s) i = some e := by
        rwa [originOf, written.pairing]
      exact written.sameTables.keeps.trans (putOrigin_keeps still rfl)
  · exact (writeHandle_sameTables h _ s).keeps.then_same ⟨rfl, rfl, rfl, rfl⟩

theorem prepareZero_keeps (p : Option Port) (c : TClass) (s : State) : KeepsTables strict s (prepareZero p c s) :=
  (verifyOrigin_keeps 0 p (some c) s).trans (touchOrigin_keeps 0 _)

theorem ageOrigin_keeps (i : Nat) (s : State) : KeepsTables strict s (ageOrigin i s) := by
  unfold ageOrigin
  split
  · exact .refl s
  · next held =>
    split
    · exact (dropOrigin_keeps i s).then_same ⟨rfl, rfl, rfl, rfl⟩
    · exact putOrigin_keeps held rfl

theorem visitOrigin_keeps (i : Nat) (s : State) : KeepsTables strict s (visitOrigin i s) := by
  have verified := verifyOrigin_keeps (strict := strict) i none none s
  unfold visitOrigin
  split
  · next e =>
    rw [e] at verified
    exact verified.trans (ageOrigin_keeps _ _)
  · next e => rwa [e] at verified

theorem pinOrigin_keeps (p : Option Port) (a : Address) (s : State) : KeepsTables strict s (pinOrigin p a s).2 := by
  have looked := lookupOrigin_keeps (strict := strict) p none a s
  unfold pinOrigin
  split
  · next e =>
    rw [e] at looked
    split
    · exact looked
    · next d held =>
      split
      · next learned =>
        refine looked.trans (.of_origins rfl fun _ sound => originSound_of_write sound held
          (d := { d with state := .pinned, check := 0 }) rfl (fun _ _ => rfl) ?_)
        simp [Pairing.levels, OriginEntry.weight, putOrigin, State.onPairing, learned, beq_eq_decide]
      · exact looked
  · next e =>
    rw [e] at looked
    split
    · next found => exact looked.trans (createFree_keeps found)
    · exact looked

theorem removeOrigin_keeps (p : Port) (a : Address) (s : State) : KeepsTables strict s (removeOrigin p a s).2 := by
  have looked := lookupOrigin_keeps (strict := strict) (some p) none a s
  unfold removeOrigin
  split
  · next e => rwa [e] at looked
  · next e =>
    rw [e] at looked
    dsimp only
    split
    · exact looked
    · exact (looked.trans (dropOrigin_keeps _ _)).then_same ⟨rfl, rfl, rfl, rfl⟩

theorem readdressZero_keeps (a : Address) (s : State) : KeepsTables strict s (readdressZero a s) := by
  unfold readdressZero
  split
  · exact .refl s
  · next held => exact putOrigin_keeps held rfl

theorem removedOrigin_keeps (s : State) (i : Nat) : KeepsTables strict s (countOriginRemoved (dropOrigin i s)) :=
  (dropOrigin_keeps i s).then_same ⟨rfl, rfl, rfl, rfl⟩

theorem changeStation_keeps (a : Address) (s : State) : KeepsTables strict s (changeStation a s) := by
  unfold changeStation
  split
  · exact .refl s
  · have moved : SameTables s (s.onLoader fun l => { l with stationAddress := a }) := .of_eq rfl rfl
    exact (moved.keeps.trans (readdressZero_keeps a _)).trans
      (.foldl removedOrigin_keeps _ _)

/-- Entry 0 is created where the table has none (R114). -/
theorem createZero_keeps (free : strict → originOf s 0 = none) : KeepsTables strict s (createZero s) :=
  (createOrigin_keeps (fun on _ => free on) fun _ => rfl).trans (.foldl (fun v i => dropOrigin_keeps i v) _ _)

theorem setUpOverflow_sameTables (s : State) : SameTables s (setUpOverflow s) := ⟨rfl, rfl, rfl, rfl⟩

end

end Sys2Proof.Machine

/-! SUPPORT. What leaves both tables as they are: storage, egresses, links, pauses, notices, and what the Pairing Unit
does with a frame once its sender is found (R28 to R37, R108, R119 to R126, R145 to R158). -/

namespace Sys2Proof.Machine

section
variable {strict : Prop}

/-! ### One part of the state -/

theorem onPort_sameTables (s : State) (p : Port) (f : PortCounters → PortCounters) : SameTables s (s.onPort p f) :=
  .of_eq (State.onPort_filter s p f) (State.onPort_pairing s p f)

theorem onUplink_sameTables (s : State) (u : Uplink) (f : UplinkEgress → UplinkEgress) :
    SameTables s (s.onUplink u f) := .of_eq (State.onUplink_filter s u f) (State.onUplink_pairing s u f)

theorem pairingCounters_sameTables (s : State) (f : PairingCounters → PairingCounters) :
    SameTables s (s.onPairing fun p => p.onCounters f) := ⟨rfl, rfl, rfl, rfl⟩

theorem filterCounters_sameTables (s : State) (f : FilterCounters → FilterCounters) :
    SameTables s (s.onFilter fun g => g.onCounters f) := ⟨rfl, rfl, rfl, rfl⟩

theorem release_sameTables (p : Option Port) (h : Nat) (s : State) : SameTables s (release p h s) :=
  (release_storage p h s).sameTables

theorem freeHandle_sameTables (h : Nat) (s : State) : SameTables s (freeHandle h s) :=
  (freeHandle_storage h s).sameTables

theorem offerUplink_sameTables (p : Option Port) (u : Uplink) (q : SlotClass) (e : QueueEntry) (s : State) :
    SameTables s (offerUplink p u q e s) := (offerUplink_egress p u q e s).sameTables

theorem finish_sameTables (s : State) : SameTables s (finish s) := (finish_egress s).sameTables

theorem SameTables.foldl {α : Type} {f : State → α → State} (each : ∀ s a, SameTables s (f s a)) (l : List α)
    (s : State) : SameTables s (l.foldl f s) := by
  induction l generalizing s with
  | nil => exact .refl s
  | cons a l rest => exact (each s a).trans (rest _)

/-! ### Links (R108, R150 to R152) -/

theorem abortCopy_sameTables (u : Uplink) (s : State) : SameTables s (abortCopy u s) := by
  unfold abortCopy releaseSent
  split
  · exact .refl s
  · refine .trans (.trans ?_ (release_sameTables _ _ _)) (onPort_sameTables _ _ _)
    exact SameTables.trans (t := s.useFree) (.of_eq rfl rfl) (onUplink_sameTables _ u _)

theorem flushQueueEntry_sameTables (u : Uplink) (s : State) (e : QueueEntry) :
    SameTables s (flushQueueEntry u s e) := by
  unfold flushQueueEntry
  split
  · exact (countQuarantineDrop_storage s).sameTables
  · exact (release_sameTables _ _ s).trans (onUplink_sameTables _ u _)

theorem flushUplink_sameTables (u : Uplink) (s : State) : SameTables s (flushUplink u s) :=
  (onUplink_sameTables s u _).trans (.foldl (flushQueueEntry_sameTables u) _ _)

theorem linkGoesDown_sameTables (u : Uplink) (s : State) : SameTables s (linkGoesDown u s) := by
  unfold linkGoesDown
  split
  · refine .trans (.trans ?_ (abortCopy_sameTables u _)) (flushUplink_sameTables u _)
    exact ((onUplink_sameTables s u _).trans (raise_sameTables _ _ _ _ _ _)).trans (onPort_sameTables _ _ _)
  · exact .refl s

theorem linkGoesUp_sameTables (u : Uplink) (s : State) : SameTables s (linkGoesUp u s) := by
  unfold linkGoesUp
  split
  · exact (onUplink_sameTables s u _).trans (raise_sameTables _ _ _ _ _ _)
  · exact .refl s

theorem followPhy_sameTables (u : Uplink) (s : State) : SameTables s (followPhy u s) := by
  unfold followPhy
  split
  · exact linkGoesUp_sameTables u s
  · exact linkGoesDown_sameTables u s

theorem portReset_sameTables (u : Uplink) (s : State) : SameTables s (portReset u s) :=
  ((linkGoesDown_sameTables u s).trans (followPhy_sameTables u _)).trans (.of_eq rfl rfl)

/-! ### Completions and pauses (R33, R149, R155 to R158) -/

theorem startPause_sameTables (s : State) : SameTables s (startPause s) := (startPause_storage s).sameTables

theorem completeCopy_sameTables (u : Uplink) (x : UplinkTx) (s : State) : SameTables s (completeCopy u x s) :=
  ((onUplink_sameTables s u _).trans (release_sameTables _ _ _)).trans (onPort_sameTables _ _ _)

theorem completeBay_sameTables (h : Nat) (w : OnWire) (s : State) : SameTables s (completeBay h w s) := by
  refine .trans (.trans (.trans ?_ (release_sameTables _ _ _)) (onPort_sameTables _ _ _)) (startPause_sameTables _)
  exact .of_eq rfl rfl

theorem completePause_sameTables (w : OnWire) (s : State) : SameTables s (completePause w s) :=
  SameTables.trans (t := s.onBay _) (.of_eq rfl rfl) (startPause_sameTables _)

theorem makePausePending_sameTables (q : BitVec 16) (s : State) : SameTables s (makePausePending q s) :=
  (makePausePending_storage q s).sameTables

theorem refreshPause_sameTables (s : State) : SameTables s (refreshPause s) :=
  SameTables.trans (t := s.onPause _) (.of_eq rfl rfl) (makePausePending_sameTables _ _)

theorem honorPause_sameTables (w : Walk) (f : List Octet) (s : State) : SameTables s (honorPause w f s) := by
  unfold honorPause
  dsimp only
  split
  · exact (onPort_sameTables _ _ _).trans (takeQuanta_storage _ _).sameTables
  · exact onPort_sameTables _ _ _

theorem ownPresence_sameTables (u f : Uplink) (s : State) : SameTables s (ownPresence u f s) := by
  unfold ownPresence
  dsimp only
  split <;> split <;> exact .of_eq rfl rfl

theorem takeOwnPresence_sameTables (u : Uplink) (t : Tag) (s : State) : SameTables s (takeOwnPresence u t s) := by
  unfold takeOwnPresence
  dsimp only
  split
  · exact onPort_sameTables s _ _
  · exact (onPort_sameTables s _ _).trans (ownPresence_sameTables _ _ _)

theorem captureReport_sameTables (r : FaultReport) (s : State) : SameTables s (captureReport r s) := by
  unfold captureReport
  dsimp only
  split <;> exact .of_eq rfl rfl

theorem announceReset_sameTables (s : State) : SameTables s (announceReset s) := by
  unfold announceReset
  split
  · exact .of_eq rfl rfl
  · exact .refl s

/-! ### Copies of a frame (R119 to R126) -/

theorem placeCopy_sameTables (p : Option Port) (h : Nat) (c : TClass) (k : Option InjectKind) (u : Uplink)
    (s : State) : SameTables s (placeCopy p h c k u s) := by
  unfold placeCopy
  split
  · split
    · exact offerUplink_sameTables p u _ _ s
    · exact (release_sameTables p h s).trans ⟨rfl, rfl, rfl, rfl⟩
    · exact (offerUplink_sameTables p u _ _ s).trans ⟨rfl, rfl, rfl, rfl⟩
    · exact (offerUplink_sameTables p u _ _ s).trans ⟨rfl, rfl, rfl, rfl⟩
  · exact (release_sameTables p h s).trans ⟨rfl, rfl, rfl, rfl⟩

theorem setRefs_sameTables (h n : Nat) (s : State) : SameTables s (setRefs h n s) := (setRefs_storage h n s).sameTables

theorem placeCopies_sameTables (p : Option Port) (h : Nat) (c : TClass) (b : Bool) (s : State) :
    SameTables s (placeCopies p h c b s) := by
  have spent : SameTables s (spendInjection (b && injectionMatches s c) s) := by
    unfold spendInjection
    split
    · exact ⟨rfl, rfl, rfl, rfl⟩
    · exact .refl s
  exact ((spent.trans (setRefs_sameTables h 2 _)).trans (placeCopy_sameTables p h c _ .u1 _)).trans
    (placeCopy_sameTables p h c _ .u2 _)

theorem noLinkDrop_sameTables (h : Nat) (s : State) : SameTables s (noLinkDrop h s) :=
  (freeHandle_sameTables h s).trans ⟨rfl, rfl, rfl, rfl⟩

theorem unpairedFrame_sameTables (h : Nat) (s : State) : SameTables s (unpairedFrame h s) := by
  have forwarded : ∀ u, SameTables s (forwardUnpaired u h s) := fun u =>
    ((setRefs_sameTables h 1 s).trans (offerUplink_sameTables (some .b) u _ _ _)).trans ⟨rfl, rfl, rfl, rfl⟩
  unfold unpairedFrame
  split
  · exact forwarded .u1
  · split
    · exact forwarded .u2
    · exact noLinkDrop_sameTables h s

theorem pairSteps_keeps (n : Numbering) (h : Nat) (c : TClass) (paired : Bool) (s : State) :
    KeepsTables strict s (pairSteps n h c paired s) := by
  unfold pairSteps
  split
  · exact (unpairedFrame_sameTables h s).keeps
  · split
    · exact ((freeHandle_sameTables h s).trans (pairingCounters_sameTables _ _)).keeps
    · split
      · exact (noLinkDrop_sameTables h s).keeps
      · exact (stamp_keeps n h c s).then_same
          ((pairingCounters_sameTables _ _).trans (placeCopies_sameTables _ h c true _))

theorem pairBayFrame_keeps (h : Nat) (a : Address) (c : TClass) (paired : Bool) (s : State) :
    KeepsTables strict s (pairBayFrame h a c paired s) :=
  (senderOf_keeps c a s).trans (pairSteps_keeps _ h c paired _)

theorem pairOwnFrame_keeps (p : Option Port) (h : Nat) (c : TClass) (b : Bool) (s : State) :
    KeepsTables strict s (pairOwnFrame p h c b s) := by
  unfold pairOwnFrame
  split
  · exact (noLinkDrop_sameTables h s).keeps
  · exact ((prepareZero_keeps p c s).trans (stamp_keeps _ h c _)).then_same (placeCopies_sameTables p h c b _)

theorem admitBuilt_sameTables (f : List Octet) (c : TClass) (s : State) : SameTables s (admitBuilt f c s).2 :=
  (admitBuilt_storage f c s).sameTables

theorem buildPresence_keeps (s : State) : KeepsTables strict s (buildPresence s) := by
  have armed : SameTables s (rearmOwn s) := .of_eq rfl rfl
  unfold buildPresence
  dsimp only
  split
  · exact (armed.trans (filterCounters_sameTables _ _)).keeps
  · have built := admitBuilt_sameTables (presenceOctets (rearmOwn s)) .presence (rearmOwn s)
    unfold storePresence
    split
    · next e =>
      rw [e] at built
      exact (armed.trans built).keeps
    · next e =>
      rw [e] at built
      exact ((armed.trans built).trans (filterCounters_sameTables _ _)).keeps.trans
        (pairOwnFrame_keeps none _ .presence true _)

/-! ### Replies (R181) -/

theorem deliver_keeps (h : Nat) (p : Port) (s : State) : KeepsTables strict s (deliver h p s) := by
  unfold deliver
  split
  · exact ((setRefs_sameTables h 1 s).trans (offerBay_egress _ _ _ _).sameTables).keeps
  · exact pairOwnFrame_keeps _ _ _ _ s

theorem sendReply_keeps (code : Octet) (r : Request) (a : Answer) (s : State) :
    KeepsTables strict s (sendReply code r a s) := by
  have counted : SameTables s (countReply s) := .of_eq rfl rfl
  have built := fun c => admitBuilt_sameTables (replyOctets code r a s) c (countReply s)
  unfold sendReply
  split
  · next e =>
    have built := built (if r.port = .b then .general else .timing)
    rw [countReply, e] at built
    exact (counted.trans built).keeps
  · next e =>
    have built := built (if r.port = .b then .general else .timing)
    rw [countReply, e] at built
    exact (counted.trans built).keeps.trans (deliver_keeps _ _ _)

end

end Sys2Proof.Machine

/-! SUPPORT. The Loader, the requests, the Intakes and each command keep both tables (R24 to R26, R170 to R192). -/

namespace Sys2Proof.Machine

/-! ### Resets (R184, R191) -/

theorem KeepsTables.of_empty {strict : Prop} {s t : State} (filter : t.filter = State.reset.filter)
    (pairing : t.pairing = State.reset.pairing) : KeepsTables strict s t := by
  have table : t.filter.entries = [] := by rw [filter]; rfl
  have origin : t.pairing.entries = [] := by rw [pairing]; rfl
  have unheld : ∀ i, entryOf t i = none := fun i => by rw [entryOf, table]; rfl
  refine ⟨fun _ => ⟨by rw [table]; rfl, by rw [table]; rfl, fun i e there => ?_, fun i j e d there => ?_, fun b => ?_⟩,
    fun _ i e there => ?_, fun _ _ => ?_, fun _ _ => ⟨by rw [origin]; rfl, fun e there => ?_, ?_⟩⟩
  · rw [unheld] at there
    cases there
  · rw [unheld] at there
    cases there
  · rw [pinnedInBucket_eq, List.countP_eq_zero.mpr fun i _ => by simp [isPinned, unheld]]
    omega
  · rw [unheld] at there
    cases there
  · rw [levelInv_iff, table, filter]
    rfl
  · rw [originOf, origin] at there
    cases there
  · rw [originLevelInv_iff, origin, pairing]
    rfl

section
variable {strict : Prop} {s : State}

/-! ### Settings written (R173, R175) -/

theorem judgeNetworks_sameTables (s : State) : SameTables s (judgeNetworks s) :=
  (judgeNetwork_sameTables s .u2).trans (judgeNetwork_sameTables _ .u1)

theorem pauseSettingWritten_sameTables (s : State) : SameTables s (pauseSettingWritten s) := by
  unfold pauseSettingWritten
  split
  · exact (pauseTest_storage s).sameTables
  · split
    · exact (releasePause_storage s).sameTables
    · exact .refl s

theorem honorPauseWritten_sameTables (s : State) : SameTables s (honorPauseWritten s) := by
  unfold honorPauseWritten
  split
  · exact .refl s
  · exact .of_eq rfl rfl

theorem epochSeedWritten_sameTables (s : State) : SameTables s (epochSeedWritten s) := ⟨rfl, rfl, rfl, rfl⟩

theorem settingAction_sameTables (n : SettingName) (s : State) : SameTables s (settingAction n s) := by
  unfold settingAction
  split
  · exact judgeNetworks_sameTables s
  · exact pauseSettingWritten_sameTables s
  · exact pauseSettingWritten_sameTables s
  · exact pauseSettingWritten_sameTables s
  · exact honorPauseWritten_sameTables s
  · exact epochSeedWritten_sameTables s
  · exact .refl s

theorem allActions_sameTables (s : State) : SameTables s (allActions s) :=
  ((judgeNetworks_sameTables s).trans (pauseSettingWritten_sameTables _)).trans
    ((honorPauseWritten_sameTables _).trans (epochSeedWritten_sameTables _))

theorem onSettings_sameTables (s : State) (f : Settings → Settings) : SameTables s (s.onSettings f) := .of_eq rfl rfl

theorem onLoader_sameTables (s : State) (f : Loader → Loader) : SameTables s (s.onLoader f) := .of_eq rfl rfl

/-! ### Each kind of request (R173 to R180) -/

variable {r : Request}

theorem shaped_keeps {objectOk shapeOk : Bool} {go : State × Option Answer} (served : KeepsTables strict s go.1) :
    KeepsTables strict s (shaped r objectOk shapeOk s go).1 := by
  unfold shaped
  split
  · exact .refl s
  · split
    · exact .refl s
    · exact served

theorem serveRead_sameTables : SameTables s (serveRead r s).1 := by
  unfold serveRead
  split
  · exact .refl s
  · split
    · exact .refl s
    · split <;> exact .refl s

theorem writeSetting_sameTables (n : SettingName) : SameTables s (writeSetting n r s).1 := by
  unfold writeSetting
  split
  · exact .refl s
  · exact (onSettings_sameTables s _).trans (settingAction_sameTables n _)

theorem writeClassifier_sameTables (k : Nat) : SameTables s (writeClassifier k r s).1 := by
  unfold writeClassifier
  split
  · dsimp only
    exact onSettings_sameTables s _
  · exact .refl s

theorem serveWrite_keeps : KeepsTables strict s (serveWrite r s).1 := by
  unfold serveWrite
  split
  · exact shaped_keeps (writeSetting_sameTables _).keeps
  · split
    · exact .refl s
    · exact shaped_keeps (writeClassifier_sameTables _).keeps

theorem serveEntryRead_keeps : KeepsTables strict s (serveEntryRead r s).1 := by
  refine shaped_keeps ?_
  split
  · unfold readEntryAt
    split
    · exact .refl s
    · split
      · exact .refl s
      · next held =>
        split
        · exact .refl s
        · exact entryCheckFails_keeps held _ _
  · unfold readEntryOf
    split
    · exact .refl s
    · next a c _ =>
      have looked := lookupKey_keeps (strict := strict) (some r.port) a c s
      split
      · next e => rwa [e] at looked
      · next e =>
        rw [e] at looked
        split <;> exact looked

theorem serveEntryPin_keeps : KeepsTables strict s (serveEntryPin r s).1 := by
  refine shaped_keeps ?_
  split
  · next a c limit _ _ _ =>
    have pinned := pinKey_keeps (strict := strict) (some r.port) a c limit s
    split <;> next e => rwa [e] at pinned
  · exact .refl s

theorem serveEntryUnpin_keeps : KeepsTables strict s (serveEntryUnpin r s).1 := by
  refine shaped_keeps ?_
  split
  · exact .refl s
  · next a c _ =>
    have unpinned := unpinKey_keeps (strict := strict) r.port a c s
    split <;> next e => rwa [e] at unpinned

theorem serveEntryRemove_keeps : KeepsTables strict s (serveEntryRemove r s).1 := by
  refine shaped_keeps ?_
  split
  · exact .refl s
  · next a c _ =>
    have removed := removeKey_keeps (strict := strict) r.port a c s
    split <;> next e => rwa [e] at removed

theorem serveOriginRead_keeps : KeepsTables strict s (serveOriginRead r s).1 := by
  refine shaped_keeps ?_
  split
  · unfold readOriginAt
    split
    · exact .refl s
    · exact verifyOrigin_keeps _ _ _ s
  · unfold readOriginOf
    split
    · exact .refl s
    · next a _ =>
      have looked := lookupOrigin_keeps (strict := strict) (some r.port) none a s
      split <;> next e => rwa [e] at looked

theorem serveOriginPin_keeps : KeepsTables strict s (serveOriginPin r s).1 := by
  refine shaped_keeps ?_
  split
  · exact .refl s
  · next a _ =>
    have pinned := pinOrigin_keeps (strict := strict) (some r.port) a s
    split <;> next e => rwa [e] at pinned

theorem serveOriginRemove_keeps : KeepsTables strict s (serveOriginRemove r s).1 := by
  refine shaped_keeps ?_
  split
  · exact .refl s
  · next a _ =>
    have removed := removeOrigin_keeps (strict := strict) r.port a s
    split
    · next e => rwa [e] at removed
    · next e =>
      rw [e] at removed
      split <;> exact removed

theorem stageSlots_sameTables (u : Uplink) (c : SlotCounts) (s : State) : SameTables s (stageSlots u c s) :=
  onUplink_sameTables s u _

theorem serveSlotStage_keeps : KeepsTables strict s (serveSlotStage r s).1 := by
  refine shaped_keeps ?_
  split
  · exact .refl s
  · split
    · exact .refl s
    · split
      · exact .refl s
      · exact (stageSlots_sameTables _ _ s).keeps

theorem serveSlotApply_keeps : KeepsTables strict s (serveSlotApply r s).1 := by
  refine shaped_keeps ?_
  split
  · exact .refl s
  · next u _ =>
    dsimp only
    exact (onUplink_sameTables s u _).keeps

theorem serveInject_keeps : KeepsTables strict s (serveInject r s).1 := by
  refine shaped_keeps ?_
  split
  · exact .refl s
  · exact SameTables.keeps ⟨rfl, rfl, rfl, rfl⟩

theorem acknowledge_sameTables (s : State) : SameTables s (acknowledge s).2 := by
  unfold acknowledge
  split
  · exact .refl s
  · exact .of_eq rfl rfl
  · exact .of_eq rfl rfl

theorem serveFaultAck_keeps : KeepsTables strict s (serveFaultAck r s).1 := by
  refine shaped_keeps ?_
  have acked := acknowledge_sameTables s
  split <;> next e => exact (e ▸ acked).keeps

/-- Clearing the counters of every entry leaves keys, States, paths and windows (R62). -/
theorem clearFilter_keeps (s : State) : KeepsTables strict s (clearFilter s) := by
  have entry : ∀ i, entryOf (clearFilter s) i = (entryOf s i).map Entry.clearCounts := fun i => Tbl.look_mapAll _ _ _
  have thins : ThinsEntries s (clearFilter s) :=
    { wf := fun h => (Tbl.wf_mapAll _ _).trans h
      below := fun h => (Tbl.below_mapAll _ _).trans h
      kept := fun i d there => by
        rw [entry] at there
        obtain ⟨e, held, rfl⟩ := Option.map_eq_some_iff.mp there
        exact ⟨e, held, rfl, rfl, rfl, id⟩
      pairing := rfl }
  refine thins.keeps fun _ levels => ?_
  rw [levelInv_iff] at levels ⊢
  refine levels.trans ?_
  simp only [Tbl.weigh, clearFilter, State.onFilter, Tbl.mapAll, List.map_map]
  rfl

theorem clearGroup_keeps {g : Nat} {f : State → State} (found : clearGroup g = some f) (s : State) :
    KeepsTables strict s (f s) := by
  unfold clearGroup at found
  split at found
  · obtain rfl := Option.some.inj found
    exact SameTables.keeps (.of_eq rfl rfl)
  · obtain rfl := Option.some.inj found
    exact SameTables.keeps (.of_eq rfl rfl)
  · obtain rfl := Option.some.inj found
    exact clearFilter_keeps s
  · obtain rfl := Option.some.inj found
    exact SameTables.keeps ⟨rfl, rfl, rfl, rfl⟩
  · obtain rfl := Option.some.inj found
    exact SameTables.keeps (.of_eq rfl rfl)
  · exact absurd found (by simp)

theorem serveClearCounters_keeps : KeepsTables strict s (serveClearCounters r s).1 := by
  refine shaped_keeps ?_
  split
  · exact .refl s
  · next f found => exact clearGroup_keeps found s

theorem serveReload_keeps : KeepsTables strict s (serveReload r s).1 := by
  refine shaped_keeps ?_
  split
  · exact .refl s
  · dsimp only
    exact (onLoader_sameTables s _).keeps

theorem engineReset_keeps (s : State) : KeepsTables strict s (engineReset s) := .of_empty rfl rfl

theorem serveReset_keeps : KeepsTables strict s (serveReset r s).1 := by
  refine shaped_keeps ?_
  split
  · exact (portReset_sameTables .u1 s).keeps
  · exact (portReset_sameTables .u2 s).keeps
  · exact engineReset_keeps s
  · exact .refl s

theorem serveKind_keeps (k : ReqKind) (r : Request) (s : State) : KeepsTables strict s (serveKind k r s).1 := by
  cases k with
  | read => exact serveRead_sameTables.keeps
  | write => exact serveWrite_keeps
  | entryRead => exact serveEntryRead_keeps
  | entryPin => exact serveEntryPin_keeps
  | entryUnpin => exact serveEntryUnpin_keeps
  | entryRemove => exact serveEntryRemove_keeps
  | originRead => exact serveOriginRead_keeps
  | originPin => exact serveOriginPin_keeps
  | originRemove => exact serveOriginRemove_keeps
  | slotStage => exact serveSlotStage_keeps
  | slotApply => exact serveSlotApply_keeps
  | inject => exact serveInject_keeps
  | faultAck => exact serveFaultAck_keeps
  | clearCounters => exact serveClearCounters_keeps
  | flushTable => exact shaped_keeps (flushTable_keeps s)
  | reload => exact serveReload_keeps
  | reset => exact serveReset_keeps

/-! ### A request served (R170, R181) -/

theorem judgeRequest_keeps (k : ReqKind) (r : Request) (s : State) : KeepsTables strict s (judgeRequest k r s).1 := by
  unfold judgeRequest
  split
  · exact .refl s
  · split
    · dsimp only
      exact (onPort_sameTables s _ _).keeps
    · exact .refl s
    · split
      · exact .refl s
      · exact serveKind_keeps k r s

theorem serve_keeps (k : ReqKind) (r : Request) (s : State) : KeepsTables strict s (serve k r s) := by
  have judged := judgeRequest_keeps (strict := strict) k r s
  unfold serve
  split
  · next e => rwa [e] at judged
  · next e =>
    rw [e] at judged
    exact judged.trans (sendReply_keeps _ r _ _)

theorem serveBody_keeps (p : Port) (a : Address) (body : List Octet) (s : State) :
    KeepsTables strict s (serveBody p a body s) := by
  unfold serveBody
  split
  · exact (onPort_sameTables s _ _).keeps
  · split
    · exact sendReply_keeps _ _ _ s
    · exact serve_keeps _ _ s

theorem serveFrame_keeps (p : Port) (h : Nat) (w : Walk) (f : List Octet) (s : State) :
    KeepsTables strict s (serveFrame p h w f s) := by
  unfold serveFrame endRequest
  have served := serveBody_keeps (strict := strict) p (sourceOf f) (w.body f) s
  split
  · exact served
  · exact served.then_same (freeHandle_sameTables h _)

end

end Sys2Proof.Machine

/-! SUPPORT. Every step keeps both tables: the Loader, the Intakes, the clock and each command (R17 to R26, R56, R188
to R192). -/

namespace Sys2Proof.Machine

section
variable {strict : Prop} {s t : State}

/-! ### The Loader (R188 to R192) -/

theorem skipRecord_sameTables (s : State) : SameTables s (skipRecord s) := onLoader_sameTables s _

theorem settingRecord_sameTables (s : State) (r : ImageRecord) : SameTables s (settingRecord s r) := by
  unfold settingRecord applySetting
  split
  · split
    · exact skipRecord_sameTables s
    · split
      · exact skipRecord_sameTables s
      · exact onSettings_sameTables s _
  · exact .refl s

theorem applySettings_sameTables (l : List ImageRecord) (s : State) : SameTables s (applySettings l s) :=
  ((onSettings_sameTables s _).trans (.foldl settingRecord_sameTables l _)).trans (allActions_sameTables _)

theorem imageStation_sameTables (l : List ImageRecord) (s : State) : SameTables s (imageStation l s).2 := by
  have one : ∀ (p : Option Address × State) (r : ImageRecord), SameTables p.2 (stationRecord p r).2 := fun p r => by
    unfold stationRecord
    split
    · split
      · exact .refl _
      · exact skipRecord_sameTables _
    · exact .refl _
  have all : ∀ p : Option Address × State, SameTables p.2 (l.foldl stationRecord p).2 := by
    induction l with
    | nil => exact fun p => .refl _
    | cons r l rest => exact fun p => (one p r).trans (rest _)
  have read := all (none, s)
  unfold imageStation
  split <;> next e => rwa [e] at read

theorem originPinRecord_keeps (s : State) (r : ImageRecord) : KeepsTables strict s (originPinRecord s r) := by
  unfold originPinRecord
  split
  · next a =>
    have pinned := pinOrigin_keeps (strict := strict) none a s
    split
    · next e => rwa [e] at pinned
    · next e =>
      rw [e] at pinned
      exact pinned.then_same (skipRecord_sameTables _)
  · exact .refl s

theorem sourcePinRecord_keeps (s : State) (r : ImageRecord) : KeepsTables strict s (sourcePinRecord s r) := by
  unfold sourcePinRecord
  split
  · next a c limit =>
    split
    · exact (skipRecord_sameTables s).keeps
    · next k _ =>
      have pinned := pinKey_keeps (strict := strict) none a k limit s
      split
      · next e => rwa [e] at pinned
      · next e =>
        rw [e] at pinned
        exact pinned.then_same (skipRecord_sameTables _)
  · exact .refl s

theorem classifierRecord_sameTables (s : State) (r : ImageRecord) : SameTables s (classifierRecord s r) := by
  unfold classifierRecord
  split
  · split
    · exact onSettings_sameTables s _
    · exact skipRecord_sameTables s
  · exact .refl s

theorem slotsRecord_sameTables {put : Uplink → SlotCounts → State → State} (puts : ∀ u c s, SameTables s (put u c s))
    (s : State) (r : ImageRecord) : SameTables s (slotsRecord put s r) := by
  unfold slotsRecord
  split
  · split
    · exact skipRecord_sameTables s
    · exact puts _ _ s
  · exact .refl s

theorem loadSlots_sameTables (u : Uplink) (c : SlotCounts) (s : State) : SameTables s (loadSlots u c s) :=
  onUplink_sameTables s u _

/-! ### Entry 0 before it is created (R114) -/

theorem verifyOrigin_zero {i : Nat} {p : Option Port} {c : Option TClass} (free : originOf s 0 = none) :
    originOf (verifyOrigin i p c s).2 0 = none ∧ ((verifyOrigin i p c s).1 = some 0 → False) := by
  unfold verifyOrigin
  split
  · exact ⟨free, fun h => by cases h⟩
  · next e held =>
    have other : i ≠ 0 := fun same => by
      rw [same, free] at held
      cases held
    split
    · exact ⟨free, fun h => other (Option.some.inj h)⟩
    · refine ⟨?_, fun h => by simp at h⟩
      rw [originCheckFails, if_neg other]
      refine (Tbl.look_del _ _ _).trans ?_
      rw [if_neg (Ne.symm other)]
      exact free

theorem lookupOrigin_zero {p : Option Port} {c : Option TClass} {a : Address} (free : originOf s 0 = none) :
    originOf (lookupOrigin p c a s).2 0 = none ∧ ((lookupOrigin p c a s).1 = some 0 → False) := by
  unfold lookupOrigin
  split
  · exact ⟨free, fun h => by cases h⟩
  · exact verifyOrigin_zero free

/-- A pin leaves entry 0 FREE where it is (R114, R128). -/
theorem pinOrigin_zero {p : Option Port} {a : Address} (free : originOf s 0 = none) :
    originOf (pinOrigin p a s).2 0 = none := by
  obtain ⟨looked, other⟩ := lookupOrigin_zero (p := p) (c := none) (a := a) free
  unfold pinOrigin
  split
  · next e =>
    rw [e] at looked other
    split
    · exact looked
    · split
      · exact (Tbl.look_put_ne _ _ fun same => other (congrArg some same.symm)).trans looked
      · exact looked
  · next e =>
    rw [e] at looked
    split
    · next found => exact (Tbl.look_put_ne _ _ (Nat.ne_of_lt (freeOrigin_free found).2)).trans looked
    · exact looked

theorem originPinRecord_zero (r : ImageRecord) (free : originOf s 0 = none) : originOf (originPinRecord s r) 0 = none := by
  unfold originPinRecord
  split
  · next a =>
    have pinned := pinOrigin_zero (p := none) (a := a) free
    split <;> next e => rwa [e] at pinned
  · exact free

theorem originPinRecords_zero (l : List ImageRecord) (free : originOf s 0 = none) :
    originOf (l.foldl originPinRecord s) 0 = none := by
  induction l generalizing s with
  | nil => exact free
  | cons r l rest => exact rest (originPinRecord_zero r free)

theorem SameTables.originOf_eq (same : SameTables s t) (i : Nat) : originOf t i = originOf s i := by
  rw [originOf, same.origins]
  rfl

/-! ### A load and a RELOAD -/

theorem applyImage_keeps (l : List ImageRecord) (free : strict → originOf s 0 = none) :
    KeepsTables strict s (applyImage l s) := by
  have station : SameTables s (setStation (imageStation l (applySettings l s)).1 (imageStation l (applySettings l s)).2) :=
    ((applySettings_sameTables l s).trans (imageStation_sameTables l _)).trans (onLoader_sameTables _ _)
  unfold applyImage
  dsimp only
  refine .then_same (.then_same (.trans (.then_same (.trans (.trans station.keeps
    (.foldl originPinRecord_keeps l _)) (createZero_keeps fun on => ?_)) (setUpOverflow_sameTables _))
    (.foldl sourcePinRecord_keeps l _)) (.foldl classifierRecord_sameTables l _))
    (.foldl (slotsRecord_sameTables loadSlots_sameTables) l _)
  exact originPinRecords_zero l ((station.originOf_eq 0).trans (free on))

theorem applyDefaults_keeps (free : strict → originOf s 0 = none) : KeepsTables strict s (applyDefaults s) := by
  have station : SameTables s (setStation (defaultStationAddress s.loader.straps) (allActions (defaultSettings s))) :=
    ((onSettings_sameTables s _).trans (allActions_sameTables _)).trans (onLoader_sameTables _ _)
  exact (station.keeps.trans (createZero_keeps fun on => (station.originOf_eq 0).trans (free on))).then_same
    (setUpOverflow_sameTables _)

theorem applyLoad_keeps (i : ImageOutcome) (free : strict → originOf s 0 = none) :
    KeepsTables strict s (applyLoad i s) := by
  unfold applyLoad
  split
  · exact (applyImage_keeps _ free).then_same (onLoader_sameTables _ _)
  · exact (applyDefaults_keeps free).then_same (onLoader_sameTables _ _)
  · exact ((applyDefaults_keeps free).then_same (captureReport_sameTables _ _)).then_same (onLoader_sameTables _ _)

theorem stageReload_sameTables (l : List ImageRecord) (s : State) : SameTables s (stageReload l s) :=
  (((stageSlots_sameTables .u1 _ s).trans (stageSlots_sameTables .u2 _ _)).trans
    (.foldl (slotsRecord_sameTables stageSlots_sameTables) l _)).trans (.of_eq rfl rfl)

theorem reloadImage_keeps (l : List ImageRecord) (s : State) : KeepsTables strict s (reloadImage l s) := by
  have settings := (applySettings_sameTables l s).trans (imageStation_sameTables l _)
  unfold reloadImage
  dsimp only
  exact .then_same (.then_same (.trans (.trans (.trans settings.keeps (changeStation_keeps _ _))
    (.foldl originPinRecord_keeps l _)) (.foldl sourcePinRecord_keeps l _)) (.foldl classifierRecord_sameTables l _))
    (stageReload_sameTables l _)

theorem applyReload_keeps (i : ImageOutcome) (s : State) : KeepsTables strict s (applyReload i s) := by
  have ended := onLoader_sameTables s fun l => { l with reloadRunning := false, recordsSkipped := 0 }
  have defaults : ∀ t, SameTables t (allActions (defaultSettings t)) := fun t =>
    (onSettings_sameTables t _).trans (allActions_sameTables _)
  unfold applyReload
  dsimp only
  split
  · exact (ended.keeps.trans (reloadImage_keeps _ _)).then_same (onLoader_sameTables _ _)
  · exact ((ended.trans (defaults _)).trans (onLoader_sameTables _ _)).keeps
  · exact (((ended.trans (defaults _)).trans (captureReport_sameTables _ _)).trans (onLoader_sameTables _ _)).keeps

theorem enterQuiet_sameTables (s : State) : SameTables s (enterQuiet s) := by
  have readied : SameTables s (raiseReady (s.onLoader fun l => { l with part := .quiet, ready := true })) :=
    .of_eq rfl rfl
  have timed : ∀ v, SameTables v ((v.onLoader fun l =>
      { l with quietTimer := some (v.settings.windowHold * 1000) }).onFilter fun f => { f with scanTimer := some 500 }) :=
    fun _ => ⟨rfl, rfl, rfl, rfl⟩
  exact (((readied.trans (announceReset_sameTables _)).trans (timed _)).trans (followPhy_sameTables .u1 _)).trans (followPhy_sameTables .u2 _)

theorem enterRun_keeps (s : State) : KeepsTables strict s (enterRun s) :=
  ((onLoader_sameTables s _).keeps.trans (buildPresence_keeps _)).then_same (.of_eq rfl rfl)

theorem takeReport_keeps (r : FaultReport) (s : State) : KeepsTables strict s (takeReport r s) := by
  unfold takeReport
  split
  · exact .of_empty rfl rfl
  · exact (captureReport_sameTables r s).keeps

/-! ### The Intakes (R17 to R26) -/

theorem admitReceived_sameTables {f : List Octet} {c : TClass} {g : Option TagFields} {h : Nat}
    (taken : admitReceived f c g s = some (h, t)) : SameTables s t := by
  unfold admitReceived offerStorage at taken
  split at taken
  · obtain ⟨rfl, rfl⟩ := Prod.mk.inj (Option.some.inj taken)
    exact (storeFrame_storage _ _ _ s).sameTables
  · cases taken

theorem routeVerdict_keeps (u : Uplink) (h i : Nat) (v : Verdict) (g : Tag) (w : Walk) (f : List Octet) (s : State) :
    KeepsTables strict s (routeVerdict u h i v g w f s) := by
  unfold routeVerdict
  split
  · exact (freeHandle_sameTables h s).keeps
  · split
    · exact (readPresenceBody_keeps i w f s).then_same (freeHandle_sameTables h _)
    · split
      · split
        · exact serveFrame_keeps _ h w f s
        · exact ((onPort_sameTables s _ _).trans (freeHandle_sameTables h _)).keeps
      · exact ((setRefs_sameTables h 1 s).trans (offerBay_egress _ _ _ _).sameTables).keeps

theorem routeTagged_keeps (u : Uplink) (g : Tag) (w : Walk) (f : List Octet) (s : State) :
    KeepsTables strict s (routeTagged u g w f s) := by
  unfold routeTagged
  split
  · exact (onPort_sameTables s _ _).keeps
  · next taken =>
    have stored := admitReceived_sameTables taken
    split
    next h v _ i d x e =>
    have screened := screen_keeps (strict := strict) g (sourceOf f) v
    rw [e] at screened
    exact (stored.keeps.trans screened).trans (routeVerdict_keeps u _ _ _ g w f _)

theorem routeUntagged_sameTables (u : Uplink) (w : Walk) (f : List Octet) (s : State) :
    SameTables s (routeUntagged u w f s) := by
  unfold routeUntagged
  split
  · exact onPort_sameTables s _ _
  · split
    · exact onPort_sameTables s _ _
    · split
      · exact onPort_sameTables s _ _
      · next taken =>
        exact ((admitReceived_sameTables taken).trans (setRefs_sameTables _ 1 _)).trans (offerBay_egress _ _ _ _).sameTables

theorem uplinkRouting_keeps (u : Uplink) (g : Option Tag) (w : Walk) (f : List Octet) (s : State) :
    KeepsTables strict s (uplinkRouting u g w f s) := by
  unfold uplinkRouting
  split
  · exact (onPort_sameTables s _ _).keeps
  · split
    · exact .refl s
    · split
      · exact routeTagged_keeps u _ w f s
      · exact (routeUntagged_sameTables u w f s).keeps

theorem uplinkBody_keeps (u : Uplink) (w : Walk) (f : List Octet) (s : State) :
    KeepsTables strict s (uplinkBody u w f s) := by
  unfold uplinkBody
  split
  · split
    · exact (onPort_sameTables s _ _).keeps
    · unfold uplinkTagTests
      split
      · exact (takeOwnPresence_sameTables u _ s).keeps
      · split
        · exact (onPort_sameTables s _ _).keeps
        · exact uplinkRouting_keeps u _ w f s
  · exact uplinkRouting_keeps u none w f s

theorem uplinkIntake_keeps (u : Uplink) (f : List Octet) (s : State) : KeepsTables strict s (uplinkIntake u f s) := by
  refine .trans (t := countReceived (uplinkPort u) s) (onPort_sameTables s _ _).keeps ?_
  unfold uplinkIntake uplinkTests
  dsimp only
  split
  · exact (onPort_sameTables _ _ _).keeps
  · split
    · exact (onPort_sameTables _ _ _).keeps
    · split
      · exact (onPort_sameTables _ _ _).keeps
      · exact uplinkBody_keeps u _ f _

theorem routeBay_keeps (w : Walk) (f : List Octet) (s : State) : KeepsTables strict s (routeBay w f s) := by
  unfold routeBay bayRequest bayFrame
  split
  · split
    · split
      · exact (onPort_sameTables _ _ _).keeps
      · next taken => exact (admitReceived_sameTables taken).keeps.trans (serveFrame_keeps .b _ w f _)
    · exact (onPort_sameTables _ _ _).keeps
  · split
    · exact (onPort_sameTables _ _ _).keeps
    · next taken => exact (admitReceived_sameTables taken).keeps.trans (pairBayFrame_keeps _ _ _ _ _)

theorem bayIntake_keeps (f : List Octet) (s : State) : KeepsTables strict s (bayIntake f s) := by
  refine .trans (t := countReceived .b s) (onPort_sameTables s _ _).keeps ?_
  unfold bayIntake bayTests
  split
  · exact (onPort_sameTables _ _ _).keeps
  · split
    · exact (onPort_sameTables _ _ _).keeps
    · split
      · exact (onPort_sameTables _ _ _).keeps
      · split
        · exact .refl _
        · split
          · exact (honorPause_sameTables _ f _).keeps
          · exact routeBay_keeps _ f _

/-! ### The scanner and the clock -/

theorem visitOriginCursor_keeps (s : State) : KeepsTables strict s (visitOriginCursor s) :=
  (visitOrigin_keeps _ s).then_same ⟨rfl, rfl, rfl, rfl⟩

theorem scanTables_keeps (s : State) : KeepsTables strict s (scanTables s) := by
  have armed : SameTables s (s.onFilter fun f => { f with scanTimer := some 500 }) := ⟨rfl, rfl, rfl, rfl⟩
  exact (armed.keeps.trans (visitBucket_keeps _)).trans (visitOriginCursor_keeps _)

theorem tick_sameTables (s : State) : SameTables s (tick s) := ⟨rfl, rfl, rfl, rfl⟩

theorem idle_keeps (s : State) : KeepsTables strict s (idle s) := by
  unfold idle
  split
  · exact .refl s
  · split
    · next r rest _ =>
      have taken : SameTables s { s with reports := rest } := .of_eq rfl rfl
      exact (taken.keeps.trans (takeReport_keeps r _)).then_same (finish_sameTables _)
    · exact (tick_sameTables s).keeps

/-! ### Commands -/

theorem outOfReset_keeps (kept : KeepsTables strict s t) : KeepsTables strict s (outOfReset s (finish t)) := by
  unfold outOfReset
  split
  · exact kept.then_same (finish_sameTables t)
  · exact .refl s

theorem whenServing_keeps {v : State} (idle : SameTables s t) (kept : KeepsTables strict t v) :
    KeepsTables strict s (whenServing t (finish v)) := by
  unfold whenServing
  split
  · exact (idle.keeps.trans kept).then_same (finish_sameTables v)
  · exact idle.keeps

theorem whileRunning_keeps (timer : Timer) (kept : KeepsTables strict s t) :
    KeepsTables strict s (whileRunning timer s (finish t)) := by
  unfold whileRunning
  split
  · exact outOfReset_keeps kept
  · exact .refl s

theorem request_keeps (k : ReqKind) (r : Request) : KeepsTables strict s (whenServing s (finish (serve k r s))) :=
  whenServing_keeps (.refl s) (serve_keeps k r s)

/-- Every command keeps both tables (R16, R28), where the part in LOADING has no entry 0. -/
theorem exec_keeps (free : strict → s.loader.part = .loading → originOf s 0 = none) (c : Instr)
    (next : exec c s = .next t) : KeepsTables strict s t := by
  cases c <;> obtain rfl := Host.Outcome.next.inj next
  case chipReset => exact .of_empty rfl rfl
  case chipResetRelease straps =>
    split
    · exact .refl s
    · exact SameTables.keeps (.of_eq rfl rfl)
  case uplinkArrival u f => exact outOfReset_keeps (uplinkIntake_keeps u f s)
  case bayArrival f => exact outOfReset_keeps (bayIntake_keeps f s)
  case linkStateDown u => exact whenServing_keeps (onUplink_sameTables s u _) (followPhy_sameTables u _).keeps
  case linkStateUp u => exact whenServing_keeps (onUplink_sameTables s u _) (followPhy_sameTables u _).keeps
  case pauseRefreshTimerExpiry => exact whileRunning_keeps _ (refreshPause_sameTables s).keeps
  case receivedPauseTimerExpiry => exact whileRunning_keeps _ (SameTables.keeps (.of_eq rfl rfl))
  case tableScannerTimerExpiry => exact whileRunning_keeps _ (scanTables_keeps s)
  case presenceTimerExpiry =>
    exact whileRunning_keeps _ ((buildPresence_keeps s).then_same (.of_eq rfl rfl))
  case noticeTimerExpiry => exact whileRunning_keeps _ (SameTables.keeps (.of_eq rfl rfl))
  case quietTimerExpiry => exact whileRunning_keeps _ (enterRun_keeps s)
  case loadEnd eeprom =>
    split
    · next loading =>
      exact outOfReset_keeps ((applyLoad_keeps _ fun on => free on loading).then_same (enterQuiet_sameTables _))
    · exact .refl s
  case reloadEnd eeprom =>
    split
    · exact whenServing_keeps (.refl s) (applyReload_keeps _ s)
    · exact .refl s
  case uplinkTransmissionComplete u =>
    split
    · exact outOfReset_keeps (completeCopy_sameTables u _ s).keeps
    · exact .refl s
  case bayTransmissionComplete =>
    split
    · exact outOfReset_keeps (completeBay_sameTables _ _ s).keeps
    · exact .refl s
  case pauseFrameComplete =>
    split
    · exact outOfReset_keeps (completePause_sameTables _ s).keeps
    · exact .refl s
  case faultReport r =>
    have taken : SameTables s { s with reports := s.reports.erase r } := .of_eq rfl rfl
    exact outOfReset_keeps (taken.keeps.trans (takeReport_keeps r _))
  case read r => exact request_keeps .read r
  case write r => exact request_keeps .write r
  case entryRead r => exact request_keeps .entryRead r
  case entryPin r => exact request_keeps .entryPin r
  case entryUnpin r => exact request_keeps .entryUnpin r
  case entryRemove r => exact request_keeps .entryRemove r
  case originRead r => exact request_keeps .originRead r
  case originPin r => exact request_keeps .originPin r
  case originRemove r => exact request_keeps .originRemove r
  case slotStage r => exact request_keeps .slotStage r
  case slotApply r => exact request_keeps .slotApply r
  case inject r => exact request_keeps .inject r
  case faultAck r => exact request_keeps .faultAck r
  case clearCounters r => exact request_keeps .clearCounters r
  case flushTable r => exact request_keeps .flushTable r
  case reload r => exact request_keeps .reload r
  case resetPort r => exact request_keeps .reset r
  case resetEngine r => exact request_keeps .reset r

/-- Every step keeps both tables. -/
theorem step_keeps (free : strict → s.loader.part = .loading → originOf s 0 = none) (next : step s = .next t) :
    KeepsTables strict s t := by
  unfold step at next
  split at next
  · next c rest _ =>
    have taken : SameTables s { s with pending := rest } := .of_eq rfl rfl
    exact taken.keeps.trans (exec_keeps free c next)
  · obtain rfl := Host.Outcome.next.inj next
    exact idle_keeps s

end

/-! ### The Source Table, the Origin Table and their levels -/

/-- An Origin Table in form has a PINNED entry 0 or, in LOADING, none (R114, R138). -/
theorem OriginInv.zero_pinned (form : OriginInv s) (e : OriginEntry) (zero : originOf s 0 = some e) :
    e.state = .pinned := by
  obtain ⟨_, _, _, empty, serving⟩ := form
  by_cases loading : s.loader.part = .loading
  · rw [originOf, empty loading] at zero
    cases zero
  · obtain ⟨d, there, pinned, _⟩ := serving loading
    exact Option.some.inj (there.symm.trans zero) ▸ pinned

/-- Settles O54: every step is a chain of operations, and each that changes an entry keeps the table's form and the
fit of windows and twins. -/
theorem sourceTableKeepsItsForm : Obligations.SourceTableKeepsItsForm := by
  unfold Obligations.SourceTableKeepsItsForm
  exact ⟨fun s t form next => (step_keeps (strict := False) False.elim next).form form,
    fun s t windows next => (step_keeps (strict := False) False.elim next).windows windows⟩

/-- Settles O55: each operation changes the levels by what the records it writes and frees count, or counts anew. The
Origin Table needs its form for entry 0, which is created in LOADING and rebuilt as a PINNED entry. -/
theorem levelsCountWhatTheyName : Obligations.LevelsCountWhatTheyName := by
  unfold Obligations.LevelsCountWhatTheyName
  refine ⟨fun s t form levels next => (step_keeps (strict := False) False.elim next).levels form levels,
    fun s t _ form levels next => ?_⟩
  have kept : KeepsTables True s t := step_keeps (fun _ loading => by rw [originOf, form.2.2.2.1 loading]; rfl) next
  exact (kept.origins trivial ⟨form.1, form.zero_pinned, levels⟩).2.2

end Sys2Proof.Machine

/-! SUPPORT. Requests on the Source Table answered (R170 to R172, R176), and FLUSH-TABLE (R54). -/

namespace Sys2Proof.Machine

/-! ### A request answered -/

section
variable {r : Request} {s x : State}

theorem shaped_of_fits {objectOk shapeOk : Bool} {go : State × Option Answer} (object : objectOk = true)
    (shape : shapeOk = true) : shaped r objectOk shapeOk s go = go := by
  simp [shaped, object, shape]

/-- An admissible request is answered as its kind answers it (R170, R181). -/
theorem answeredFrom_of_served {k : ReqKind} {a : Answer} (admissible : Admissible k r s)
    (served : serveKind k r s = (x, some a)) : AnsweredFrom (exec (commandOf k r) s) k.code r a x := by
  refine answeredFrom_of_eq ?_
  rw [exec_commandOf k r admissible.1, serve, judgeRequest_admissible admissible, served]

/-! ### FLUSH-TABLE -/

theorem serveFlushTable_of_fits (object : r.object = 0) (index : r.index = 0) (count : r.count = 0) :
    serveFlushTable r s = (flushTable s, some (okValues r [])) :=
  shaped_of_fits (by simp [object]) (by simp [index, count])

end

/-- Settles O34: FLUSH-TABLE flushes every entry, and sets both summary counts to 0. -/
theorem flushTableKeepsThePinnedKeys : Obligations.FlushTableKeepsThePinnedKeys := by
  unfold Obligations.FlushTableKeepsThePinnedKeys
  intro r s admissible object index count _
  have levels := flushTable_levels s
  simp only [Filter.levels, Prod.mk.injEq] at levels
  obtain ⟨-, -, single1, single2⟩ := levels
  refine ⟨flushTable s, answeredFrom_of_served admissible (serveFlushTable_of_fits object index count),
    flushTable_filter s, single1, single2, fun i e held pinned holds => ?_, fun i e held goes => ?_, fun i free => ?_⟩
  · rw [entryOf_flushTable, held, flushedAt_of_stays ⟨pinned, holds⟩, Entry.flush, holds]
    rfl
  · rw [entryOf_flushTable, held, flushedAt_of_goes]
    rintro ⟨pinned, holds⟩
    obtain active | bad := goes
    · rw [active] at pinned
      cases pinned
    · exact bad holds
  · rw [entryOf_flushTable, free]
    rfl

end Sys2Proof.Machine

/-! SUPPORT. ENTRY-UNPIN, ENTRY-REMOVE and ENTRY-READ: what each answers for a key held, failing and missing (R43, R46,
R47, R52, R53, R55, R176). -/

namespace Sys2Proof.Machine

section
variable {i : Nat} {e : Entry} {a : Address} {c : TClass} {p : Port} {o : Option Port} {r : Request} {s t : State}

/-! ### The unpin and the removal of a key -/

theorem unpinKey_of_missed (missed : lookupKey (some p) a c s = (none, t)) : unpinKey p a c s = (none, t) := by
  simp only [unpinKey, missed]

theorem unpinKey_of_pinned (found : lookupKey (some p) a c s = (some i, s)) (held : entryOf s i = some e)
    (pinned : e.state = .pinned) : unpinKey p a c s = (some i,
      (putEntry i { e with state := .active, silence := none } s).onFilter fun f =>
        { f with pinnedInUse := f.pinnedInUse - 1 }) := by
  simp only [unpinKey, found, held, pinned, if_true]

theorem unpinKey_of_active (found : lookupKey (some p) a c s = (some i, s)) (held : entryOf s i = some e)
    (active : e.state = .active) : unpinKey p a c s = (some i, s) := by
  simp [unpinKey, found, held, active]

theorem removeKey_of_missed (missed : lookupKey (some p) a c s = (none, t)) : removeKey p a c s = (none, t) := by
  simp only [removeKey, missed]

theorem removeKey_of_found (found : lookupKey (some p) a c s = (some i, s)) : removeKey p a c s = (some i,
    (freeEntry i s).onFilter fun f => f.onCounters fun c => { c with removed := c.removed + 1 }) := by
  simp only [removeKey, found]

@[simp] theorem lowerCounts_counters (e : Entry) (s : State) :
    (lowerCounts e s).filter.counters = s.filter.counters := by
  unfold lowerCounts
  dsimp only
  split <;> split <;> simp

@[simp] theorem freeEntry_counters (i : Nat) (s : State) : (freeEntry i s).filter.counters = s.filter.counters := by
  unfold freeEntry
  split
  · exact lowerCounts_counters _ s
  · rfl

theorem freeEntry_entriesInUse (held : entryOf s i = some e) :
    (freeEntry i s).filter.entriesInUse = s.filter.entriesInUse - 1 :=
  congrArg Prod.fst (freeEntry_levels s held)

/-! ### The answers -/

theorem serveEntryUnpin_of_missed (object : r.object = 0) (count : r.count = 3)
    (key : keyOfValues (carried r) = some (a, c)) (missed : lookupKey (some r.port) a c s = (none, t)) :
    serveEntryUnpin r s = (t, some (refuse r .notFound)) := by
  rw [serveEntryUnpin, shaped_of_fits (by simp [object]) (by simp [count])]
  simp only [key, unpinKey_of_missed missed]

theorem serveEntryUnpin_of_unpinned (object : r.object = 0) (count : r.count = 3)
    (key : keyOfValues (carried r) = some (a, c)) (unpinned : unpinKey r.port a c s = (some i, t)) :
    serveEntryUnpin r s = (t, some (okIndex i [])) := by
  rw [serveEntryUnpin, shaped_of_fits (by simp [object]) (by simp [count])]
  simp only [key, unpinned]

theorem serveEntryRemove_of_missed (object : r.object = 0) (count : r.count = 3)
    (key : keyOfValues (carried r) = some (a, c)) (missed : lookupKey (some r.port) a c s = (none, t)) :
    serveEntryRemove r s = (t, some (refuse r .notFound)) := by
  rw [serveEntryRemove, shaped_of_fits (by simp [object]) (by simp [count])]
  simp only [key, removeKey_of_missed missed]

theorem serveEntryRemove_of_removed (object : r.object = 0) (count : r.count = 3)
    (key : keyOfValues (carried r) = some (a, c)) (removed : removeKey r.port a c s = (some i, t)) :
    serveEntryRemove r s = (t, some (okIndex i [])) := by
  rw [serveEntryRemove, shaped_of_fits (by simp [object]) (by simp [count])]
  simp only [key, removed]

/-! ### ENTRY-UNPIN and ENTRY-REMOVE -/

/-- An unpin of a held key (R52). -/
theorem entryUnpin_of_held (admissible : Admissible .entryUnpin r s) (object : r.object = 0) (count : r.count = 3)
    (key : keyOfValues (carried r) = some (a, c)) (found : lookupKey (some r.port) a c s = (some i, s))
    (held : entryOf s i = some e) (holds : e.check = 0) : ∃ x,
    AnsweredFrom (exec (.entryUnpin r) s) 0x05 r (okIndex i []) x ∧ OnlyFilter s x ∧
    (e.state = .pinned → entryOf x i = some { e with state := .active, silence := none } ∧
      x.filter.pinnedInUse = s.filter.pinnedInUse - 1) ∧
    (e.state = .active → x = s) ∧ ∀ j, j ≠ i → entryOf x j = entryOf s j := by
  cases state : e.state with
  | pinned =>
    refine ⟨_, answeredFrom_of_served (k := .entryUnpin) admissible (serveEntryUnpin_of_unpinned object count key
      (unpinKey_of_pinned found held state)), (putEntry_filter _ _ s).trans (onFilter_filter _ _),
      fun _ => ⟨?_, rfl⟩, nofun, fun j differ => ?_⟩
    · refine (entryOf_putEntry_self i _ s).trans ?_
      rw [← holds]
    · exact (entryOf_putEntry i j _ s).trans (if_neg differ)
  | active =>
    exact ⟨s, answeredFrom_of_served (k := .entryUnpin) admissible (serveEntryUnpin_of_unpinned object count key
      (unpinKey_of_active found held state)), .refl s, nofun, fun _ => rfl, fun _ _ => rfl⟩

/-- A removal of a held key (R53). -/
theorem entryRemove_of_held (admissible : Admissible .entryRemove r s) (object : r.object = 0) (count : r.count = 3)
    (key : keyOfValues (carried r) = some (a, c)) (found : lookupKey (some r.port) a c s = (some i, s))
    (held : entryOf s i = some e) : ∃ x,
    AnsweredFrom (exec (.entryRemove r) s) 0x06 r (okIndex i []) x ∧ OnlyFilter s x ∧
    entryOf x i = none ∧ (∀ j, j ≠ i → entryOf x j = entryOf s j) ∧
    x.filter.entriesInUse = s.filter.entriesInUse - 1 ∧
    x.filter.counters = { s.filter.counters with removed := s.filter.counters.removed + 1 } := by
  have entry := entryOf_freeEntry s i
  have counters := freeEntry_counters i s
  refine ⟨_, answeredFrom_of_served (k := .entryRemove) admissible (serveEntryRemove_of_removed object count key
    (removeKey_of_found found)), (freeEntry_filter i s).trans (onFilter_filter _ _), (entry i).trans (if_pos rfl),
    fun j differ => (entry j).trans (if_neg differ), freeEntry_entriesInUse held, ?_⟩
  rw [← counters]
  rfl

end

/-- Settles O33: both requests look the key up, and go on with the entry found, or end as the lookup has left it. -/
theorem entryUnpinAndRemove : Obligations.EntryUnpinAndRemove := by
  unfold Obligations.EntryUnpinAndRemove
  intro r s object count form
  refine ⟨fun i e key held holds => ?_, fun a c key unheld => ?_, fun i e key held bad => ?_⟩
  · have found := lookupKey_of_held (p := some r.port) form held rfl rfl holds
    exact ⟨fun admissible => entryUnpin_of_held admissible object count key found held holds,
      fun admissible => entryRemove_of_held admissible object count key found held⟩
  · have missed := lookupKey_of_unheld (p := some r.port) unheld
    exact ⟨fun admissible => answeredFrom_of_served (k := .entryUnpin) admissible
        (serveEntryUnpin_of_missed object count key missed),
      fun admissible => answeredFrom_of_served (k := .entryRemove) admissible
        (serveEntryRemove_of_missed object count key missed)⟩
  · have missed := lookupKey_of_failing (p := some r.port) form held rfl rfl bad
    exact ⟨_, entryFreed_entryCheckFails i (some r.port) (some e.cls) s,
      fun admissible => answeredFrom_of_served (k := .entryUnpin) admissible
        (serveEntryUnpin_of_missed object count key missed),
      fun admissible => answeredFrom_of_served (k := .entryRemove) admissible
        (serveEntryRemove_of_missed object count key missed)⟩

/-! ### ENTRY-READ -/

section
variable {i : Nat} {e : Entry} {a : Address} {c : TClass} {r : Request} {s t : State}

theorem twinListVals_length (now : Time) (l : List Twin) : (twinListVals now l).length = 12 := by
  have three : ∀ t ∈ l.take 4, (twinVals now t).length = 3 := fun _ _ => rfl
  have short : (l.take 4).length ≤ 4 := List.length_take_le _ _
  rw [twinListVals, List.length_append, List.length_flatMap, List.map_congr_left three, List.map_const', List.sum_replicate,
    List.length_replicate, smul_eq_mul]
  omega

theorem peerVals_length (v : Option (BitVec 64)) : (peerVals v).length = 2 := by cases v <;> rfl

theorem entryPart_length (r : Request) (e : Entry) (now : Time) :
    (entryPart r e now).length = if r.object = 0 then 32 else 21 := by
  unfold entryPart
  split
  · rfl
  · simp [entryPartB, twinListVals_length, peerVals_length, addrVals]

theorem readable_of_le (object : r.object.toNat ≤ 1) : (r.object == 0 || r.object == 1) = true := by
  have either : r.object = 0 ∨ r.object = 1 := by
    have zero : (0 : Octet).toNat = 0 := rfl
    have one : (1 : Octet).toNat = 1 := rfl
    rcases Nat.le_one_iff_eq_zero_or_eq_one.mp object with low | high
    · exact .inl (BitVec.eq_of_toNat_eq (low.trans zero.symm))
    · exact .inr (BitVec.eq_of_toNat_eq (high.trans one.symm))
  rcases either with same | same <;> rw [same] <;> rfl

/-- A read by index (R55). -/
theorem serveEntryRead_at (object : r.object.toNat ≤ 1) (count : r.count = 0) :
    serveEntryRead r s = readEntryAt r s := by
  rw [serveEntryRead, shaped_of_fits (readable_of_le object) (by simp [count]), if_pos count]

/-- A read by key (R55). -/
theorem serveEntryRead_of (object : r.object.toNat ≤ 1) (count : r.count = 3) :
    serveEntryRead r s = readEntryOf r s := by
  rw [serveEntryRead, shaped_of_fits (readable_of_le object) (by simp [count]), if_neg (by simp [count])]

theorem readEntryAt_of_beyond (beyond : 511 < r.index.toNat) : readEntryAt r s = (s, some (refuse r .outOfRange)) :=
  if_pos beyond

theorem readEntryAt_of_free (within : r.index.toNat ≤ 511) (free : entryOf s r.index.toNat = none) :
    readEntryAt r s = (s, some (okValues r [0])) := by
  rw [readEntryAt, if_neg (by omega), free]

theorem readEntryAt_of_held (within : r.index.toNat ≤ 511) (held : entryOf s r.index.toNat = some e)
    (holds : e.check = 0) : readEntryAt r s = (s, some (okValues r (entryPart r e s.stationTime))) := by
  rw [readEntryAt, if_neg (by omega), held]
  exact if_pos holds

theorem readEntryAt_of_failing (within : r.index.toNat ≤ 511) (held : entryOf s r.index.toNat = some e)
    (bad : e.check ≠ 0) :
    readEntryAt r s = (entryCheckFails r.index.toNat (some r.port) none s, some (okValues r [0])) := by
  rw [readEntryAt, if_neg (by omega), held]
  exact if_neg bad

theorem readEntryOf_of_no_key (key : keyOfValues (carried r) = none) :
    readEntryOf r s = (s, some (refuse r .outOfRange)) := by
  simp only [readEntryOf, key]

theorem readEntryOf_of_missed (key : keyOfValues (carried r) = some (a, c))
    (missed : lookupKey (some r.port) a c s = (none, t)) : readEntryOf r s = (t, some (refuse r .notFound)) := by
  simp only [readEntryOf, key, missed]

theorem readEntryOf_of_found (key : keyOfValues (carried r) = some (a, c))
    (found : lookupKey (some r.port) a c s = (some i, s)) (held : entryOf s i = some e) :
    readEntryOf r s = (s, some (okIndex i (entryPart r e s.stationTime))) := by
  simp only [readEntryOf, key, found, held]

/-- A key that no entry of its bucket holds is missed (R43). -/
theorem lookupKey_of_unheld_in_bucket {p : Option Port}
    (unheld : ∀ j d, j / 4 = bucketOf a c → entryOf s j = some d → ¬ (d.addr = a ∧ d.cls = c)) :
    lookupKey p a c s = (none, s) := by
  have none : findKey s a c = none := List.find?_eq_none.mpr fun j mem holds => by
    obtain ⟨d, entry, key⟩ := holdsKey_iff.mp holds
    exact unheld j d (mem_waysOf.mp mem) entry key
  simp only [lookupKey, none]

end

/-- Settles O31: a read by index answers from the entry there, a read by key from the entry its lookup finds; a failing
entry is freed and read as FREE. -/
theorem entryReadReturnsTheEntry : Obligations.EntryReadReturnsTheEntry := by
  unfold Obligations.EntryReadReturnsTheEntry
  intro r s admissible object
  have at_index {x : State} {a : Answer} (count : r.count = 0) (read : readEntryAt r s = (x, some a)) :
      AnsweredFrom (exec (.entryRead r) s) 0x03 r a x :=
    answeredFrom_of_served (k := .entryRead) admissible ((serveEntryRead_at object count).trans read)
  have of_key {x : State} {a : Answer} (count : r.count = 3) (read : readEntryOf r s = (x, some a)) :
      AnsweredFrom (exec (.entryRead r) s) 0x03 r a x :=
    answeredFrom_of_served (k := .entryRead) admissible ((serveEntryRead_of object count).trans read)
  refine ⟨entryPart_length r, fun count beyond => at_index count (readEntryAt_of_beyond beyond),
    fun count within free => at_index count (readEntryAt_of_free within free),
    fun e count within held holds => at_index count (readEntryAt_of_held within held holds),
    fun e count within held bad => ⟨_, entryFreed_entryCheckFails _ _ none s,
      at_index count (readEntryAt_of_failing within held bad)⟩,
    fun count key => of_key count (readEntryOf_of_no_key key),
    fun a c count key unheld => of_key count (readEntryOf_of_missed key (lookupKey_of_unheld_in_bucket unheld)),
    fun i e count key form held holds => of_key count (readEntryOf_of_found key
      (lookupKey_of_held form held rfl rfl holds) held),
    fun i e count key form held bad => ⟨_, entryFreed_entryCheckFails i _ (some e.cls) s,
      of_key count (readEntryOf_of_missed key (lookupKey_of_failing form held rfl rfl bad))⟩⟩

end Sys2Proof.Machine

/-! SUPPORT. ENTRY-PIN (R45, R48 to R50, R176): the way that a pinned key takes, what a pin makes of the entry of its
key, and the statement. -/

namespace Sys2Proof.Machine

/-! ### The entry that a pin replaces is ACTIVE (R45, R48) -/

/-- Whether way `i` holds an ACTIVE entry. -/
def ActiveAt (s : State) (i : Nat) : Prop := ∃ e, entryOf s i = some e ∧ e.state = .active

section
variable {i b : Nat} {s : State} {best : Option (Nat × Nat)}

theorem olderWay_active (before : ∀ j a, best = some (j, a) → ActiveAt s j) (j a : Nat)
    (chosen : olderWay s best i = some (j, a)) : ActiveAt s j := by
  unfold olderWay at chosen
  split at chosen
  · exact before j a chosen
  · next e held =>
    split at chosen
    · next active =>
      split at chosen
      · exact (Prod.mk.inj (Option.some.inj chosen)).1 ▸ ⟨e, held, active⟩
      · split at chosen
        · exact (Prod.mk.inj (Option.some.inj chosen)).1 ▸ ⟨e, held, active⟩
        · exact before j a chosen
    · exact before j a chosen

theorem olderWay_isSome (one : best.isSome = true ∨ ActiveAt s i) : (olderWay s best i).isSome = true := by
  unfold olderWay
  split
  · next free =>
    refine one.resolve_right ?_
    rintro ⟨e, held, _⟩
    rw [free] at held
    cases held
  · next e held =>
    split
    · split
      · rfl
      · split <;> rfl
    · next inactive =>
      refine one.resolve_right ?_
      rintro ⟨d, there, active⟩
      rw [held] at there
      cases there
      exact inactive active

theorem foldl_olderWay_active (l : List Nat) (before : ∀ j a, best = some (j, a) → ActiveAt s j)
    (one : best.isSome = true ∨ ∃ j ∈ l, ActiveAt s j) : ∃ j a, l.foldl (olderWay s) best = some (j, a) ∧ ActiveAt s j := by
  induction l generalizing best with
  | nil =>
    obtain ⟨⟨j, a⟩, chosen⟩ := Option.isSome_iff_exists.mp (one.resolve_right (by simp))
    exact ⟨j, a, chosen, before j a chosen⟩
  | cons i l rest =>
    refine rest (fun j a => olderWay_active before j a) ?_
    obtain already | ⟨j, mem, active⟩ := one
    · exact .inl (olderWay_isSome (.inl already))
    · obtain rfl | later := List.mem_cons.mp mem
      · exact .inl (olderWay_isSome (.inr active))
      · exact .inr ⟨j, later, active⟩

/-- A bucket without a FREE way and with fewer than 3 PINNED entries has an ACTIVE one. -/
theorem active_of_full (full : ∀ j ∈ waysOf b, (entryOf s j).isSome = true) (room : pinnedInBucket s b < 3) :
    ∃ j ∈ waysOf b, ActiveAt s j := by
  by_contra none
  have all : ∀ j ∈ waysOf b, isPinned s j = true := fun j mem => by
    obtain ⟨e, held⟩ := Option.isSome_iff_exists.mp (full j mem)
    rw [isPinned_of_some held]
    cases state : e.state with
    | pinned => rfl
    | active => exact absurd ⟨j, mem, e, held, state⟩ none
  rw [pinnedInBucket_eq, List.countP_eq_length.mpr all] at room
  exact absurd room (by simp [waysOf])

theorem victimWay_active (one : ∃ j ∈ waysOf b, ActiveAt s j) : ActiveAt s (victimWay s b) := by
  obtain ⟨j, a, chosen, active⟩ := foldl_olderWay_active (best := none) (waysOf b) (by simp) (.inr one)
  rw [victimWay, chosen]
  exact active

/-- Taking a way where a pin has room frees no PINNED entry (R45, R48). -/
theorem takeWay_pinnedInUse (p : Option Port) (holds : ∀ i e, i / 4 = b → entryOf s i = some e → e.check = 0)
    (room : pinnedInBucket s b < 3) : (takeWay p b s).2.filter.pinnedInUse = s.filter.pinnedInUse := by
  unfold takeWay
  split
  · rfl
  · next none =>
    have full : ∀ j ∈ waysOf b, (entryOf s j).isSome = true := fun j mem => by
      have filled := List.find?_eq_none.mp none j mem
      cases held : entryOf s j with
      | none => exact absurd (by rw [Tbl.free, ← entryOf, held]; rfl) filled
      | some e => rfl
    obtain ⟨e, held, active⟩ := victimWay_active (active_of_full full room)
    have levels := freeEntry_levels s held
    have pinned : (freeEntry (victimWay s b) s).filter.pinnedInUse = s.filter.pinnedInUse - (e.state == .pinned).toNat :=
      congrArg (fun l => l.2.1) levels
    simp only [replaceEntry, held, holds _ e (victimWay_bucket s b) held, if_true]
    refine pinned.trans ?_
    rw [active]
    rfl

end

/-! ### What a pin makes of its key's entry (R49, R50) -/

section
variable {i : Nat} {e : Entry} {a : Address} {c : TClass} {limit : Nat} {p : Option Port} {s t : State}

theorem pinMatch_of_pinned (held : entryOf s i = some e) (pinned : e.state = .pinned) :
    pinMatch i limit s = (some i, putEntry i { e with silence := pinSilence limit } s) := by
  simp only [pinMatch, held, pinned, if_true]

theorem pinMatch_of_active (held : entryOf s i = some e) (active : e.state = .active)
    (room : pinnedInBucket s (i / 4) < 3) : pinMatch i limit s = (some i,
      (putEntry i { e with state := .pinned, silence := pinSilence limit } s).onFilter fun f =>
        { f with pinnedInUse := f.pinnedInUse + 1 }) := by
  simp only [pinMatch, held, active, room, reduceCtorEq, if_false, if_true]

theorem pinMatch_of_full (held : entryOf s i = some e) (active : e.state = .active)
    (full : ¬ pinnedInBucket s (i / 4) < 3) : pinMatch i limit s = (none, s) := by
  simp only [pinMatch, held, active, full, reduceCtorEq, if_false]

theorem pinKey_of_found (found : lookupKey p a c s = (some i, s)) : pinKey p a c limit s = pinMatch i limit s := by
  simp only [pinKey, found]

theorem pinKey_of_missed (missed : lookupKey p a c s = (none, t)) : pinKey p a c limit s = pinMiss p a c limit t := by
  simp only [pinKey, missed]

/-- What a pin leaves at the entry that it answers with, where the bucket has room (R49, R50). -/
structure Pins (s : State) (a : Address) (c : TClass) (limit i : Nat) (x : State) (e : Entry) : Prop where
  bucket  : i / 4 = bucketOf a c
  entry   : entryOf x i = some e
  addr    : e.addr = a
  cls     : e.cls = c
  state   : e.state = .pinned
  check   : e.check = 0
  silence : e.silence = pinSilence limit
  others  : ∀ j, j ≠ i → entryOf x j = entryOf s j
  only    : OnlyFilter s x
  level   : x.filter.pinnedInUse = s.filter.pinnedInUse +
    (if ((entryOf s i).any fun d => d.addr == a && d.cls == c && d.state == .pinned) then 0 else 1)

theorem pins_pinned (bucket : i / 4 = bucketOf e.addr e.cls) (held : entryOf s i = some e) (pinned : e.state = .pinned) :
    Pins s e.addr e.cls limit i (putEntry i { e with silence := pinSilence limit } s)
      { e with silence := pinSilence limit, check := 0 } where
  bucket := bucket
  entry := entryOf_putEntry_self i _ s
  addr := rfl
  cls := rfl
  state := pinned
  check := rfl
  silence := rfl
  others j differ := (entryOf_putEntry i j _ s).trans (if_neg differ)
  only := putEntry_filter _ _ s
  level := by
    rw [held]
    simp [pinned, putEntry]

theorem pins_active (bucket : i / 4 = bucketOf e.addr e.cls) (held : entryOf s i = some e) (active : e.state = .active) :
    Pins s e.addr e.cls limit i
      ((putEntry i { e with state := .pinned, silence := pinSilence limit } s).onFilter fun f =>
        { f with pinnedInUse := f.pinnedInUse + 1 })
      { e with state := .pinned, silence := pinSilence limit, check := 0 } where
  bucket := bucket
  entry := entryOf_putEntry_self i _ s
  addr := rfl
  cls := rfl
  state := rfl
  check := rfl
  silence := rfl
  others j differ := (entryOf_putEntry i j _ s).trans (if_neg differ)
  only := (putEntry_filter _ _ s).trans (onFilter_filter _ _)
  level := by
    rw [held]
    simp [active, putEntry]

theorem pins_created (p : Option Port) (unheld : ∀ j d, entryOf s j = some d → ¬ (d.addr = a ∧ d.cls = c))
    (holds : ∀ j d, j / 4 = bucketOf a c → entryOf s j = some d → d.check = 0)
    (room : pinnedInBucket s (bucketOf a c) < 3) :
    Pins s a c limit (takeWay p (bucketOf a c) s).1
      (createEntry (takeWay p (bucketOf a c) s).1 a c .pinned (pinSilence limit) (takeWay p (bucketOf a c) s).2)
      (newEntry a c .pinned (pinSilence limit) s.stationTime) := by
  obtain ⟨bucket, others⟩ := takeWay_of_holding (p := p) holds
  have only := takeWay_filter p (bucketOf a c) s
  have pinned := takeWay_pinnedInUse p holds room
  generalize takeWay p (bucketOf a c) s = w at *
  obtain ⟨i, t⟩ := w
  dsimp only at *
  exact
    { bucket := bucket
      entry := by
        rw [← only.stationTime]
        exact Tbl.look_put_self _ _ _
      addr := rfl
      cls := rfl
      state := rfl
      check := rfl
      silence := rfl
      others := fun j differ => (Tbl.look_put_ne _ _ differ).trans (others j differ)
      only := only.trans (createEntry_filter _ _ _ _ _ t)
      level := by
        have other : (entryOf s i).any (fun d => d.addr == a && d.cls == c && d.state == .pinned) = false := by
          cases held : entryOf s i with
          | none => rfl
          | some d =>
            have differs := unheld i d held
            simp only [Option.any_some, Bool.and_eq_false_iff, beq_eq_false_iff_ne]
            by_cases addr : d.addr = a
            · exact .inl (.inr fun cls => differs ⟨addr, cls⟩)
            · exact .inl (.inl addr)
        rw [other, ← pinned]
        rfl }

/-- A pin where the bucket has room (R49, R50). -/
theorem pinKey_pins (p : Option Port) (form : TableInv s)
    (holds : ∀ j d, j / 4 = bucketOf a c → entryOf s j = some d → d.check = 0)
    (room : pinnedInBucket s (bucketOf a c) < 3) :
    ∃ i x e, pinKey p a c limit s = (some i, x) ∧ Pins s a c limit i x e := by
  by_cases key : ∃ i d, entryOf s i = some d ∧ d.addr = a ∧ d.cls = c
  · obtain ⟨i, d, held, rfl, rfl⟩ := key
    have bucket := form.2.2.1 i d held
    have found := lookupKey_of_held (p := p) form held rfl rfl (holds i d bucket held)
    cases state : d.state with
    | pinned =>
      exact ⟨i, _, _, (pinKey_of_found found).trans (pinMatch_of_pinned held state), pins_pinned bucket held state⟩
    | active =>
      exact ⟨i, _, _, (pinKey_of_found found).trans (pinMatch_of_active held state (bucket ▸ room)),
        pins_active bucket held state⟩
  · have unheld : ∀ j d, entryOf s j = some d → ¬ (d.addr = a ∧ d.cls = c) := fun j d held same => key ⟨j, d, held, same⟩
    refine ⟨_, _, _, (pinKey_of_missed (lookupKey_of_unheld unheld)).trans ?_, pins_created p unheld holds room⟩
    simp only [pinMiss, room, if_true]

/-- A pin where the bucket has none (R48). -/
theorem pinKey_refused (p : Option Port) (form : TableInv s)
    (holds : ∀ j d, j / 4 = bucketOf a c → entryOf s j = some d → d.check = 0)
    (full : ¬ pinnedInBucket s (bucketOf a c) < 3)
    (active : ∀ i d, entryOf s i = some d → d.addr = a → d.cls = c → d.state = .active) :
    pinKey p a c limit s = (none, s) := by
  by_cases key : ∃ i d, entryOf s i = some d ∧ d.addr = a ∧ d.cls = c
  · obtain ⟨i, d, held, rfl, rfl⟩ := key
    have bucket := form.2.2.1 i d held
    have found := lookupKey_of_held (p := p) form held rfl rfl (holds i d bucket held)
    exact (pinKey_of_found found).trans (pinMatch_of_full held (active i d held rfl rfl) (bucket ▸ full))
  · have missed := lookupKey_of_unheld (p := p) fun j d held same => key ⟨j, d, held, same⟩
    refine (pinKey_of_missed missed).trans ?_
    simp only [pinMiss, full, if_false]

/-! ### A pin that meets a failing entry (R45, R47) -/

/-- Where the entry of the key fails, the pin goes on as after the freeing. -/
theorem pinKey_of_failing (form : TableInv s) (held : entryOf s i = some e) (addr : e.addr = a) (cls : e.cls = c)
    (bad : e.check ≠ 0) : pinKey p a c limit s = pinKey p a c limit (entryCheckFails i p (some c) s) := by
  have missed := lookupKey_of_failing (p := p) form held addr cls bad
  rw [pinKey_of_missed missed, pinKey_of_missed (lookupKey_of_unheld (lookupKey_missed missed form))]

/-- A failing entry that replacement takes is freed, and its way is the FREE one of its bucket then. -/
theorem takeWay_of_failing_victim {b : Nat} (replaced : Replaced i b s) (held : entryOf s i = some e) (bad : e.check ≠ 0) :
    takeWay p b s = takeWay p b (entryCheckFails i p none s) := by
  have victim := victimWay_of_replaced replaced
  obtain ⟨bucket, filled, _⟩ := replaced
  have free : ∀ v j, Tbl.free v.filter.entries j = (entryOf v j).isNone := fun _ _ => rfl
  have full : (waysOf b).find? (Tbl.free s.filter.entries) = none :=
    List.find?_eq_none.mpr fun j mem => by
      rw [free, Option.isNone_iff_eq_none]
      exact Option.isSome_iff_ne_none.mp (filled j (mem_waysOf.mp mem))
  have one : (waysOf b).find? (Tbl.free (entryCheckFails i p none s).filter.entries) = some i := by
    refine find?_of_unique (mem_waysOf.mpr bucket) ?_ fun j mem empty => ?_
    · rw [free, entryOf_entryCheckFails, if_pos rfl]
      rfl
    · by_contra differ
      rw [free, entryOf_entryCheckFails, if_neg differ, Option.isNone_iff_eq_none] at empty
      exact Option.isSome_iff_ne_none.mp (filled j (mem_waysOf.mp mem)) empty
  simp only [takeWay, full, one, victim, replaceEntry, held, if_neg bad]

/-- Where the entry that replacement takes fails, likewise. -/
theorem pinKey_of_failing_victim (unheld : ∀ j d, entryOf s j = some d → ¬ (d.addr = a ∧ d.cls = c))
    (replaced : Replaced i (bucketOf a c) s) (held : entryOf s i = some e) (bad : e.check ≠ 0)
    (room : pinnedInBucket s (bucketOf a c) < 3) :
    pinKey p a c limit s = pinKey p a c limit (entryCheckFails i p none s) := by
  have entry := entryOf_entryCheckFails i p none s
  have unheld' : ∀ j d, entryOf (entryCheckFails i p none s) j = some d → ¬ (d.addr = a ∧ d.cls = c) := fun j d there => by
    rw [entry] at there
    split at there
    · cases there
    · exact unheld j d there
  have room' : pinnedInBucket (entryCheckFails i p none s) (bucketOf a c) < 3 := by
    refine Nat.lt_of_le_of_lt (pinnedInBucket_mono fun j _ now => ?_) room
    rw [isPinned, entry] at now
    split at now
    · cases now
    · exact now
  rw [pinKey_of_missed (lookupKey_of_unheld unheld), pinKey_of_missed (lookupKey_of_unheld unheld')]
  simp only [pinMiss, room, room', if_true, takeWay_of_failing_victim replaced held bad]

end

/-! ### The answers -/

section
variable {i limit : Nat} {clamped : Bool} {a : Address} {c : TClass} {r : Request} {s t : State}

/-- What ENTRY-PIN judges its Silence Limit with (R174, R176). -/
def pinJudged (r : Request) : Option (Nat × Bool) := (SettingKind.numeric 0 65535).judge (clampFlag r) (pinLimit r)

theorem pinJudged_of_fits (fits : pinLimit r ≤ 65535) : pinJudged r = some (pinLimit r, false) := by
  simp [pinJudged, SettingKind.judge, fits]

theorem pinJudged_of_clamped (beyond : 65535 < pinLimit r) (clamp : clampFlag r = true) :
    pinJudged r = some (65535, true) := by
  simp [pinJudged, SettingKind.judge, clamp, Nat.not_le.mpr beyond]

theorem pinJudged_of_refused (beyond : 65535 < pinLimit r) (clamp : clampFlag r = false) : pinJudged r = none := by
  simp [pinJudged, SettingKind.judge, clamp, Nat.not_le.mpr beyond]

/-- The limit and the status that the statement names are those of the judgement. -/
theorem pinJudged_of_cases {st : Status} (either : (pinLimit r ≤ 65535 ∧ limit = pinLimit r ∧ st = .ok) ∨
    (65535 < pinLimit r ∧ clampFlag r = true ∧ limit = 65535 ∧ st = .okClamped)) :
    ∃ clamped : Bool, pinJudged r = some (limit, clamped) ∧ st = if clamped then .okClamped else .ok := by
  obtain ⟨fits, rfl, rfl⟩ | ⟨beyond, clamp, rfl, rfl⟩ := either
  · exact ⟨false, pinJudged_of_fits fits, rfl⟩
  · exact ⟨true, pinJudged_of_clamped beyond clamp, rfl⟩

/-- ENTRY-PIN's answer to what its pin has come to (R176). -/
def pinAnswer (r : Request) (clamped : Bool) : Option Nat × State → State × Option Answer
  | (none, t) => (t, some (refuse r .tableFull))
  | (some i, t) => (t, some { okIndex i [] with status := if clamped then .okClamped else .ok })

theorem serveEntryPin_of_judged (object : r.object = 0) (count : r.count = 3 ∨ r.count = 4)
    (key : keyOfValues (carried r) = some (a, c)) (judged : pinJudged r = some (limit, clamped)) :
    serveEntryPin r s = pinAnswer r clamped (pinKey (some r.port) a c limit s) := by
  rw [pinJudged] at judged
  rw [serveEntryPin, shaped_of_fits (by simp [object]) (by obtain three | four := count <;> simp [*])]
  simp only [key, judged]
  rcases pinKey (some r.port) a c limit s with ⟨_ | i, t⟩ <;> rfl

theorem serveEntryPin_of_unjudged (object : r.object = 0) (count : r.count = 3 ∨ r.count = 4)
    (refused : keyOfValues (carried r) = none ∨ pinJudged r = none) :
    serveEntryPin r s = (s, some (refuse r .outOfRange)) := by
  rw [serveEntryPin, shaped_of_fits (by simp [object]) (by obtain three | four := count <;> simp [*])]
  obtain key | judged := refused
  · simp only [key]
  · rw [pinJudged] at judged
    cases keyOfValues (carried r) <;> simp only [judged]

/-- Admissibility does not read the Source Table (R170 to R172). -/
theorem Admissible.of_only {k : ReqKind} (admissible : Admissible k r s) (only : OnlyFilter s t) : Admissible k r t := by
  obtain ⟨serves, form, line, state⟩ := admissible
  refine ⟨?_, form, by rwa [only.settings], by rwa [only.loader]⟩
  rwa [State.serving, only.resetN, only.loader]

theorem exec_eq_of_served {k : ReqKind} (here : Admissible k r s) (there : Admissible k r t)
    (served : serveKind k r s = serveKind k r t) : exec (commandOf k r) s = exec (commandOf k r) t := by
  rw [exec_commandOf k r here.1, exec_commandOf k r there.1, serve, serve, judgeRequest_admissible here,
    judgeRequest_admissible there, served]

/-- Two states that a pin makes the same of answer it the same. -/
theorem exec_entryPin_eq (admissible : Admissible .entryPin r s) (only : OnlyFilter s t) (object : r.object = 0)
    (count : r.count = 3 ∨ r.count = 4) (key : keyOfValues (carried r) = some (a, c))
    (judged : pinJudged r = some (limit, clamped))
    (pins : pinKey (some r.port) a c limit s = pinKey (some r.port) a c limit t) :
    exec (.entryPin r) s = exec (.entryPin r) t := by
  refine exec_eq_of_served (k := .entryPin) admissible (admissible.of_only only) ?_
  refine (serveEntryPin_of_judged object count key judged).trans ?_
  rw [pins]
  exact (serveEntryPin_of_judged object count key judged).symm

/-- The answer to a pin that is made (R176). -/
theorem entryPin_answered (admissible : Admissible .entryPin r s) (object : r.object = 0)
    (count : r.count = 3 ∨ r.count = 4) (key : keyOfValues (carried r) = some (a, c))
    (judged : pinJudged r = some (limit, clamped)) (pinned : pinKey (some r.port) a c limit s = (some i, t)) :
    AnsweredFrom (exec (.entryPin r) s) 0x04 r
      { status := if clamped then .okClamped else .ok, index := BitVec.ofNat 16 i, values := [] } t := by
  refine answeredFrom_of_served (k := .entryPin) admissible ((serveEntryPin_of_judged object count key judged).trans ?_)
  rw [pinned, pinAnswer]
  rfl

theorem entryPin_refused (admissible : Admissible .entryPin r s) (object : r.object = 0)
    (count : r.count = 3 ∨ r.count = 4) (key : keyOfValues (carried r) = some (a, c))
    (judged : pinJudged r = some (limit, clamped)) (refused : pinKey (some r.port) a c limit s = (none, t)) :
    AnsweredFrom (exec (.entryPin r) s) 0x04 r (refuse r .tableFull) t := by
  refine answeredFrom_of_served (k := .entryPin) admissible ((serveEntryPin_of_judged object count key judged).trans ?_)
  rw [refused, pinAnswer]

end

/-- Settles O32: the Values are judged, then the key is looked up and pinned where its bucket has room; a failing entry
that the lookup or the replacement meets is freed, and the pin goes on as from there. -/
theorem entryPinPinsTheKey : Obligations.EntryPinPinsTheKey := by
  unfold Obligations.EntryPinPinsTheKey
  refine ⟨⟨fun a c limit st r s admissible object count key either form holds => ?_,
    fun a c i e r s admissible object count key fits form held bad => ?_⟩, fun r s admissible object count refused => ?_⟩
  · obtain ⟨clamped, judged, rfl⟩ := pinJudged_of_cases either
    refine ⟨fun i d held addr cls pinned => ?_, fun room => ?_, fun full active => ?_⟩
    · subst addr cls
      have check := holds i d (form.2.2.1 i d held) held
      have found := lookupKey_of_held (p := some r.port) form held rfl rfl check
      refine ⟨_, entryPin_answered admissible object count key judged
        ((pinKey_of_found found).trans (pinMatch_of_pinned held pinned)), ?_, fun j differ => ?_, rfl⟩
      · rw [entryOf_putEntry_self, ← check]
      · exact (entryOf_putEntry i j _ s).trans (if_neg differ)
    · obtain ⟨i, x, e, made, pins⟩ := pinKey_pins (limit := limit) (some r.port) form holds room
      exact ⟨i, e, x, entryPin_answered admissible object count key judged made, pins.bucket, pins.entry, pins.addr,
        pins.cls, pins.state, pins.check, pins.silence, pins.others, pins.only, pins.level⟩
    · exact entryPin_refused admissible object count key judged
        (pinKey_refused (some r.port) form holds (by omega) active)
  · obtain ⟨limit, clamped, judged⟩ : ∃ limit clamped, pinJudged r = some (limit, clamped) := by
      by_cases low : pinLimit r ≤ 65535
      · exact ⟨_, _, pinJudged_of_fits low⟩
      · exact ⟨_, _, pinJudged_of_clamped (by omega) (fits.resolve_left low)⟩
    refine ⟨fun addr cls => ?_, fun unheld replaced room => ?_⟩
    · have freed := entryFreed_entryCheckFails i (some r.port) (some c) s
      exact ⟨_, freed, exec_entryPin_eq admissible freed.1 object count key judged
        (pinKey_of_failing form held addr cls bad)⟩
    · have freed := entryFreed_entryCheckFails i (some r.port) none s
      exact ⟨_, freed, exec_entryPin_eq admissible freed.1 object count key judged
        (pinKey_of_failing_victim unheld replaced held bad room)⟩
  · refine answeredFrom_of_served (k := .entryPin) admissible (serveEntryPin_of_unjudged object count ?_)
    exact refused.imp id fun ⟨beyond, clamp⟩ => pinJudged_of_refused beyond clamp

end Sys2Proof.Machine

/-! SUPPORT. The Table Scanner at one way (R57 to R61, R81): the entry it leaves, what it counts and raises, and what it
reports. -/

namespace Sys2Proof.Machine

/-! ### Misses charged (R81) -/

theorem satInc_toNat {w : Nat} (x : BitVec w) : (satInc x).toNat = min (2 ^ w - 1) (x.toNat + 1) := by
  have bound := x.isLt
  unfold satInc
  split
  · next full => rw [full, BitVec.toNat_allOnes, min_eq_left (Nat.le_succ _)]
  · next room =>
    have below : x.toNat ≠ 2 ^ w - 1 := fun same => room (BitVec.eq_of_toNat_eq (same.trans (BitVec.toNat_allOnes).symm))
    have one : 1 < 2 ^ w := by
      by_contra small
      omega
    rw [BitVec.toNat_add, BitVec.ofNat_eq_ofNat, BitVec.toNat_ofNat, Nat.mod_eq_of_lt one, Nat.mod_eq_of_lt (by omega)]
    omega

/-- A saturating count of a given number of steps. -/
theorem ofNat_min_satInc {w : Nat} (x : BitVec w) (n : Nat) :
    BitVec.ofNat w (min (2 ^ w - 1) ((satInc x).toNat + n)) = BitVec.ofNat w (min (2 ^ w - 1) (x.toNat + (n + 1))) := by
  rw [satInc_toNat]
  congr 1
  omega

theorem ofNat_min_toNat {w : Nat} (x : BitVec w) : BitVec.ofNat w (min (2 ^ w - 1) x.toNat) = x := by
  have bound := x.isLt
  rw [min_eq_right (by omega), BitVec.ofNat_toNat, BitVec.setWidth_eq]

theorem Entry.missed_nil (e : Entry) (q : Uplink) : e.missed q [] = e.path q := by
  have run := ofNat_min_toNat (e.path q).missRun
  have missing := ofNat_min_toNat (e.path q).missing
  simp only [missed, List.countP_nil, Nat.add_zero]
  exact congrArg₂ (fun a b => ({ e.path q with missRun := a, missing := b } : PathRecord)) run missing

theorem Entry.missed_cons (e : Entry) (q : Uplink) (r : Twin) (l : List Twin) :
    (chargeMiss e (other r.firstPath)).missed q l = e.missed q (r :: l) := by
  have run := ofNat_min_satInc (e.path q).missRun (l.countP fun r => r.firstPath == other q)
  have missing := ofNat_min_satInc (e.path q).missing (l.countP fun r => r.firstPath == other q)
  unfold missed
  by_cases here : r.firstPath = other q
  · have there : other r.firstPath = q := by rw [here]; cases q <;> rfl
    rw [there, chargeMiss, e.path_setPath, List.countP_cons_of_pos (by simpa using here)]
    exact congrArg₂ (fun a b => ({ e.path q with missRun := a, missing := b } : PathRecord)) run missing
  · have there : other r.firstPath = other q := by
      revert here
      cases r.firstPath <;> cases q <;> decide
    rw [there, chargeMiss, e.path_setPath_other, List.countP_cons_of_neg (by simpa using here)]

theorem chargeMiss_paths (e : Entry) (q : Uplink) (a b : PathRecord) :
    { chargeMiss e q with path1 := a, path2 := b } = { e with path1 := a, path2 := b } := by cases q <;> rfl

theorem chargeMisses_eq (l : List Twin) (e : Entry) :
    chargeMisses e l = { e with path1 := e.missed .u1 l, path2 := e.missed .u2 l } := by
  induction l generalizing e with
  | nil => rw [e.missed_nil, e.missed_nil]; rfl
  | cons r l rest =>
    have step : chargeMisses e (r :: l) = chargeMisses (chargeMiss e (other r.firstPath)) l := rfl
    rw [step, rest, e.missed_cons, e.missed_cons, chargeMiss_paths]

/-! ### The entry that a visit leaves (R57) -/

/-- An entry that stays after a visit: twins evicted and charged, silence judged, stored times held (R58 to R61). -/
def Entry.scanned (e : Entry) (now : Time) (timeout : Nat) : Entry :=
  { e with
    created := holdTime now e.created, lastUse := holdTime now e.lastUse
    window := e.window.map fun w => { w with lastAccept := holdTime now w.lastAccept }
    path1 := { e.missed .u1 (timedOutTwins now timeout e.twins) with
      lastArrival := e.path1.lastArrival.map (holdTime now) }
    path2 := { e.missed .u2 (timedOutTwins now timeout e.twins) with
      lastArrival := e.path2.lastArrival.map (holdTime now) }
    twins := (freshTwins now timeout e.twins).map fun r => { r with firstTime := holdTime now r.firstTime }
    silence := e.silence.map fun l => { l with silent := l.silent || e.newlySilent now } }

section
variable {now : Time} {timeout : Nat} {e : Entry}

theorem evictTimedOut_eq : evictTimedOut now timeout e =
    { e with
      path1 := e.missed .u1 (timedOutTwins now timeout e.twins)
      path2 := e.missed .u2 (timedOutTwins now timeout e.twins)
      twins := freshTwins now timeout e.twins } := by
  rw [evictTimedOut, chargeMisses_eq]

theorem evictTimedOut_fallsSilent : (evictTimedOut now timeout e).fallsSilent now = e.fallsSilent now := by
  rw [evictTimedOut_eq]
  rfl

theorem newlySilent_of_active (active : e.state = .active) : e.newlySilent now = false := by
  rw [Entry.newlySilent, active]
  rfl

theorem newlySilent_of_pinned (pinned : e.state = .pinned) : e.newlySilent now = e.fallsSilent now := by
  rw [Entry.newlySilent, pinned, Entry.fallsSilent]
  cases e.silence <;> rfl

theorem hold_eq_scanned (holds : e.check = 0) (loud : e.newlySilent now = false) :
    { (evictTimedOut now timeout e).hold now with check := 0 } = e.scanned now timeout := by
  have kept : (e.silence.map fun l => ({ l with silent := l.silent || false } : Silence)) = e.silence := by
    cases e.silence <;> simp
  rw [evictTimedOut_eq, Entry.scanned, loud, kept, ← holds]
  rfl

theorem setSilent_hold_eq_scanned (holds : e.check = 0) (silent : e.newlySilent now = true) :
    { (evictTimedOut now timeout e).setSilent.hold now with check := 0 } = e.scanned now timeout := by
  have set : (e.silence.map fun l => ({ l with silent := l.silent || true } : Silence)) =
      e.silence.map fun l => { l with silent := true } := by
    cases e.silence <;> simp
  rw [evictTimedOut_eq, Entry.scanned, silent, set, ← holds]
  rfl

end

/-! ### What a visit does at one way (R47, R57 to R60) -/

/-- An ACTIVE entry older than Source Age (R59). -/
def Entry.outlived (e : Entry) (s : State) : Bool := e.state == .active && e.aged s.stationTime s.settings.sourceAge

/-- What a visit leaves where it has found `o`. -/
def scanEntry (s : State) (o : Option Entry) : Option Entry :=
  o.bind fun e =>
    if e.check = 0 ∧ e.outlived s = false then some (e.scanned s.stationTime s.settings.twinTimeout) else none

/-- The twin records that a visit to way `i` evicts. -/
def scanOut (s : State) (i : Nat) : List Twin :=
  (entryOf s i).elim [] fun e => timedOutTwins s.stationTime s.settings.twinTimeout e.twins

/-- Whether a visit frees the entry of way `i`. -/
def scanFrees (s : State) (i : Nat) : Bool := (entryOf s i).isSome && (scanEntry s (entryOf s i)).isNone

/-- Whether the entry of way `i` fails its Check. -/
def scanFails (s : State) (i : Nat) : Bool := (entryOf s i).any fun e => e.check != 0

/-- What a visit to way `i` adds to the Notice Queue where it frees no entry. -/
def scanNotice (s : State) (n : Notices) (i : Nat) : Notices :=
  match entryOf s i with
  | some e =>
    if e.newlySilent s.stationTime = true then
      n.add { kind := .sourceSilent, whr := 0, cls := classOctet (some e.cls)
              detail := BitVec.ofNat 24 (i * 256), addr := e.addr, time := s.stationTime }
    else n
  | none => n

/-- The report of an entry that a visit finds failing. -/
def scanReport (i : Nat) : FaultReport := { kind := .entryCheck, location := i, port := none, cls := none }

/-- The counters after visits that have evicted and freed so many. -/
def FilterCounters.scanned (c : FilterCounters) (out freed : Nat) : FilterCounters :=
  { c with twinTimeouts := c.twinTimeouts + BitVec.ofNat 32 out, agedOut := c.agedOut + BitVec.ofNat 32 freed }

/-- The scanner's cursors and its timer. -/
def Filter.cursors (f : Filter) : Fin 128 × Fin 64 × Timer := (f.bucketCursor, f.originCursor, f.scanTimer)

theorem FilterCounters.scanned_zero (c : FilterCounters) : c.scanned 0 0 = c := by
  simp [scanned]

theorem FilterCounters.scanned_scanned (c : FilterCounters) (a b m n : Nat) :
    (c.scanned a b).scanned m n = c.scanned (a + m) (b + n) := by
  simp [scanned, BitVec.ofNat_add, BitVec.add_assoc]

/-- From `s` to `t` the ways of `l` have been visited. -/
structure WaysVisited (l : List Nat) (s t : State) : Prop where
  only     : OnlyFilter s t
  entry    : ∀ j, entryOf t j = if j ∈ l then scanEntry s (entryOf s j) else entryOf s j
  cursors  : t.filter.cursors = s.filter.cursors
  reports  : t.reports = s.reports ++ (l.filter (scanFails s)).map scanReport
  counters : (∀ i ∈ l, scanFails s i = false) →
    t.filter.counters = s.filter.counters.scanned (l.map fun i => (scanOut s i).length).sum (l.countP (scanFrees s))
  notices  : (∀ i ∈ l, scanFails s i = false) → (∀ i ∈ l, scanFrees s i = false) →
    t.notices = l.foldl (scanNotice s) s.notices

section
variable {i : Nat} {e : Entry} {s : State}

theorem lowerCounts_cursors (e : Entry) (s : State) : (lowerCounts e s).filter.cursors = s.filter.cursors := by
  have one : ∀ n v, (lowerLost n v).filter.cursors = v.filter.cursors := fun n v => by
    rw [lowerLost, judgeNetwork_eq]
    cases n <;> rfl
  unfold lowerCounts
  dsimp only
  split <;> split <;> simp only [one]

theorem lowerCounts_reports (e : Entry) (s : State) : (lowerCounts e s).reports = s.reports := by
  have one : ∀ n v, (lowerLost n v).reports = v.reports := fun n v => by
    rw [lowerLost, judgeNetwork_eq]
    rfl
  unfold lowerCounts
  dsimp only
  split <;> split <;> simp only [one]

theorem freeEntry_cursors (i : Nat) (s : State) : (freeEntry i s).filter.cursors = s.filter.cursors := by
  unfold freeEntry
  split
  · exact lowerCounts_cursors _ s
  · rfl

theorem freeEntry_reports (i : Nat) (s : State) : (freeEntry i s).reports = s.reports := by
  unfold freeEntry
  split
  · exact lowerCounts_reports _ s
  · rfl

/-- The state once the twins of entry `i` have been evicted and counted (R58). -/
def evictedAt (i : Nat) (e : Entry) (s : State) : State :=
  (putEntry i (evictTimedOut s.stationTime s.settings.twinTimeout e) s).onFilter fun f => f.onCounters fun c =>
    { c with twinTimeouts := c.twinTimeouts +
        BitVec.ofNat 32 (timedOutTwins s.stationTime s.settings.twinTimeout e.twins).length }

theorem entryOf_evictedAt (i : Nat) (e : Entry) (s : State) (j : Nat) : entryOf (evictedAt i e s) j =
    if j = i then some { evictTimedOut s.stationTime s.settings.twinTimeout e with check := 0 } else entryOf s j :=
  entryOf_putEntry i j _ s

theorem evictedAt_only (i : Nat) (e : Entry) (s : State) : OnlyFilter s (evictedAt i e s) :=
  (putEntry_filter _ _ s).trans (onFilter_filter _ _)

theorem visitWay_of_free (free : entryOf s i = none) : visitWay s i = s := by
  simp only [visitWay, free]

theorem visitWay_of_failing (held : entryOf s i = some e) (bad : e.check ≠ 0) :
    visitWay s i = entryCheckFails i none none s := by
  simp only [visitWay, held, bad, ne_eq, not_false_eq_true, if_true]

theorem visitWay_of_holding (held : entryOf s i = some e) (holds : e.check = 0) : visitWay s i =
    if e.outlived s = true then
      (freeEntry i (evictedAt i e s)).onFilter fun f => f.onCounters fun c => { c with agedOut := c.agedOut + 1 }
    else if e.newlySilent s.stationTime = true then
      putEntry i ((evictTimedOut s.stationTime s.settings.twinTimeout e).setSilent.hold s.stationTime)
        (raise .sourceSilent 0 (some e.cls) (i * 256) e.addr (evictedAt i e s))
    else putEntry i ((evictTimedOut s.stationTime s.settings.twinTimeout e).hold s.stationTime) (evictedAt i e s) := by
  have silent := evictTimedOut_fallsSilent (now := s.stationTime) (timeout := s.settings.twinTimeout) (e := e)
  have kept := evictTimedOut_kept s.stationTime s.settings.twinTimeout e
  have aged : (evictTimedOut s.stationTime s.settings.twinTimeout e).aged s.stationTime s.settings.sourceAge =
      e.aged s.stationTime s.settings.sourceAge := by rw [Entry.aged, Entry.aged, kept.lastUse]
  unfold visitWay
  rw [held]
  dsimp only
  rw [if_neg (not_not.mpr holds), ← evictedAt, (evictedAt_only i e s).stationTime,
    (evictedAt_only i e s).settings, silent, kept.state, kept.addr, kept.cls, aged]
  cases state : e.state with
  | active => simp [Entry.outlived, state, newlySilent_of_active state]
  | pinned => simp [Entry.outlived, state, newlySilent_of_pinned state]

end

end Sys2Proof.Machine

/-! SUPPORT. The Table Scanner's visit to a bucket (R56 to R61): one way after the other, each in its own entry. -/

namespace Sys2Proof.Machine

section
variable {i : Nat} {e : Entry} {s t v : State}

/-! ### One way -/

theorem scanEntry_of_stays (holds : e.check = 0) (stays : e.outlived s = false) :
    scanEntry s (some e) = some (e.scanned s.stationTime s.settings.twinTimeout) := if_pos ⟨holds, stays⟩

theorem scanEntry_of_outlived (outlived : e.outlived s = true) : scanEntry s (some e) = none :=
  if_neg fun h => by simp [outlived] at h

theorem scanEntry_of_failing (bad : e.check ≠ 0) : scanEntry s (some e) = none := if_neg fun h => bad h.1

theorem scanFails_of_held (held : entryOf s i = some e) : scanFails s i = (e.check != 0) := by
  rw [scanFails, held]
  rfl

theorem scanOut_of_held (held : entryOf s i = some e) :
    scanOut s i = timedOutTwins s.stationTime s.settings.twinTimeout e.twins := by
  rw [scanOut, held]
  rfl

theorem scanFrees_of_held (held : entryOf s i = some e) : scanFrees s i = (scanEntry s (some e)).isNone := by
  rw [scanFrees, held]
  rfl

theorem waysVisited_of_free (free : entryOf s i = none) : WaysVisited [i] s s where
  only := .refl s
  entry j := by
    by_cases here : j = i
    · subst here
      simp [free, scanEntry]
    · simp [here]
  cursors := rfl
  reports := by simp [scanFails, free]
  counters _ := by simp [scanOut, scanFrees, free, FilterCounters.scanned_zero]
  notices _ _ := by simp [scanNotice, free]

theorem waysVisited_of_failing (held : entryOf s i = some e) (bad : e.check ≠ 0) :
    WaysVisited [i] s (entryCheckFails i none none s) := by
  obtain ⟨only, gone, others, reports, filter, -⟩ := entryFreed_entryCheckFails i none none s
  have fails : scanFails s i = true := by rw [scanFails_of_held held]; simpa using bad
  exact
    { only := only
      entry := fun j => by
        by_cases here : j = i
        · subst here
          simp [gone, held, scanEntry_of_failing bad]
        · simp [here, others j here]
      cursors := by rw [filter]; rfl
      reports := by simpa [fails, scanReport] using reports
      counters := fun holds => by simp [holds i (by simp)] at fails
      notices := fun holds _ => by simp [holds i (by simp)] at fails }

theorem waysVisited_of_outlived (held : entryOf s i = some e) (holds : e.check = 0) (outlived : e.outlived s = true) :
    WaysVisited [i] s ((freeEntry i (evictedAt i e s)).onFilter fun f => f.onCounters fun c =>
      { c with agedOut := c.agedOut + 1 }) := by
  have fine : scanFails s i = false := by rw [scanFails_of_held held]; simp [holds]
  have frees : scanFrees s i = true := by rw [scanFrees_of_held held, scanEntry_of_outlived outlived]; rfl
  have entry := entryOf_freeEntry (evictedAt i e s) i
  have counters := freeEntry_counters i (evictedAt i e s)
  exact
    { only := ((evictedAt_only i e s).trans (freeEntry_filter i _)).trans (onFilter_filter _ _)
      entry := fun j => (entry j).trans (by
        by_cases here : j = i
        · subst here
          simp [held, scanEntry_of_outlived outlived]
        · simp [here, entryOf_evictedAt])
      cursors := freeEntry_cursors i (evictedAt i e s)
      reports := by
        simp only [List.filter_cons, fine, List.filter_nil, Bool.false_eq_true, if_false, List.map_nil, List.append_nil]
        exact freeEntry_reports i (evictedAt i e s)
      counters := fun _ => by
        simp only [List.map_cons, List.map_nil, List.sum_cons, List.sum_nil, List.countP_cons, List.countP_nil, frees,
          if_true, Nat.add_zero, Nat.zero_add, scanOut_of_held held]
        exact congrArg (fun c : FilterCounters => { c with agedOut := c.agedOut + 1 }) counters
      notices := fun _ none => by simp [none i (by simp)] at frees }

/-- An entry that stays, written after what its visit raises. -/
theorem waysVisited_of_stays {d : Entry} (held : entryOf s i = some e) (holds : e.check = 0)
    (stays : e.outlived s = false) (raised : t.filter = (evictedAt i e s).filter) (only : OnlyFilter (evictedAt i e s) t)
    (reports : t.reports = s.reports) (notices : t.notices = scanNotice s s.notices i)
    (written : { d with check := 0 } = e.scanned s.stationTime s.settings.twinTimeout) :
    WaysVisited [i] s (putEntry i d t) := by
  have fine : scanFails s i = false := by rw [scanFails_of_held held]; simp [holds]
  have keeps : scanFrees s i = false := by rw [scanFrees_of_held held, scanEntry_of_stays holds stays]; rfl
  exact
    { only := ((evictedAt_only i e s).trans only).trans (putEntry_filter _ _ t)
      entry := fun j => (entryOf_putEntry i j d t).trans (by
        by_cases here : j = i
        · subst here
          simpa [held, scanEntry_of_stays holds stays] using written
        · have before : entryOf t j = entryOf s j := by
            rw [entryOf, raised]
            exact (entryOf_evictedAt i e s j).trans (if_neg here)
          simp [here, before])
      cursors := show t.filter.cursors = s.filter.cursors by rw [raised]; rfl
      reports := by simpa [fine] using show (putEntry i d t).reports = s.reports from reports
      counters := fun _ => by
        simp only [List.map_cons, List.map_nil, List.sum_cons, List.sum_nil, List.countP_cons, List.countP_nil, keeps,
          Bool.false_eq_true, if_false, Nat.add_zero, scanOut_of_held held]
        refine (congrArg Filter.counters raised).trans ?_
        simp [FilterCounters.scanned, evictedAt, Filter.onCounters, putEntry]
      notices := fun _ _ => notices }

theorem visitWay_visited (s : State) (i : Nat) : WaysVisited [i] s (visitWay s i) := by
  cases held : entryOf s i with
  | none =>
    rw [visitWay_of_free held]
    exact waysVisited_of_free held
  | some e =>
    by_cases holds : e.check = 0
    · rw [visitWay_of_holding held holds]
      split
      · next outlived => exact waysVisited_of_outlived held holds outlived
      · next stays =>
        split
        · next silent =>
          exact waysVisited_of_stays held holds (by simpa using stays) rfl (raise_filter _ _ _ _ _ _) rfl
            (by simp only [scanNotice, held, silent, if_true]; rfl) (setSilent_hold_eq_scanned holds silent)
        · next loud =>
          exact waysVisited_of_stays held holds (by simpa using stays) rfl (.refl _) rfl
            (by simp only [scanNotice, held, loud]; rfl) (hold_eq_scanned holds (by simpa using loud))
    · rw [visitWay_of_failing held holds]
      exact waysVisited_of_failing held holds

/-! ### One way after the other -/

theorem WaysVisited.refl (s : State) : WaysVisited [] s s where
  only := .refl s
  entry _ := by simp
  cursors := rfl
  reports := by simp
  counters _ := by simp [FilterCounters.scanned_zero]
  notices _ _ := rfl

/-- Ways visited, and then others. -/
theorem WaysVisited.append {l m : List Nat} (a : WaysVisited l s t) (b : WaysVisited m t v)
    (apart : ∀ j ∈ m, j ∉ l) : WaysVisited (l ++ m) s v := by
  have same : ∀ j ∈ m, entryOf t j = entryOf s j := fun j mem => (a.entry j).trans (if_neg (apart j mem))
  have time := a.only.stationTime
  have settings := a.only.settings
  have outlived : ∀ e, Entry.outlived e t = e.outlived s := fun e => by rw [Entry.outlived, Entry.outlived, time, settings]
  have entries : ∀ o, scanEntry t o = scanEntry s o := fun o =>
    congrArg (Option.bind o) (funext fun e => by rw [outlived, time, settings])
  have fails : ∀ j ∈ m, scanFails t j = scanFails s j := fun j mem => by rw [scanFails, scanFails, same j mem]
  have frees : ∀ j ∈ m, scanFrees t j = scanFrees s j := fun j mem => by rw [scanFrees, scanFrees, same j mem, entries]
  have out : ∀ j ∈ m, (scanOut t j).length = (scanOut s j).length := fun j mem => by
    rw [scanOut, scanOut, same j mem, time, settings]
  have notice : ∀ n, ∀ j ∈ m, scanNotice t n j = scanNotice s n j := fun n j mem => by
    rw [scanNotice, scanNotice, same j mem, time]
  refine ⟨a.only.trans b.only, fun j => ?_, b.cursors.trans a.cursors, ?_, fun holds => ?_, fun holds none => ?_⟩
  · rw [b.entry, entries]
    by_cases later : j ∈ m
    · rw [if_pos later, if_pos (List.mem_append_right l later), same j later]
    · rw [if_neg later, a.entry]
      by_cases before : j ∈ l
      · rw [if_pos before, if_pos (List.mem_append_left m before)]
      · rw [if_neg before, if_neg (by simp [before, later])]
  · rw [b.reports, a.reports, List.filter_append, List.map_append, List.append_assoc, List.filter_congr fails]
  · have first := a.counters fun j mem => holds j (List.mem_append_left m mem)
    have second := b.counters fun j mem => (fails j mem).trans (holds j (List.mem_append_right l mem))
    have freed : m.countP (scanFrees t) = m.countP (scanFrees s) := List.countP_congr fun j mem => by rw [frees j mem]
    rw [second, first, FilterCounters.scanned_scanned, List.map_congr_left out, freed, List.map_append, List.sum_append,
      List.countP_append]
  · have first := a.notices (fun j mem => holds j (List.mem_append_left m mem)) fun j mem =>
      none j (List.mem_append_left m mem)
    have second := b.notices (fun j mem => (fails j mem).trans (holds j (List.mem_append_right l mem))) fun j mem =>
      (frees j mem).trans (none j (List.mem_append_right l mem))
    rw [second, first, List.foldl_append]
    exact List.foldl_ext _ _ _ notice

theorem foldl_visitWay_visited (l : List Nat) (distinct : l.Nodup) (s : State) :
    WaysVisited l s (l.foldl visitWay s) := by
  induction l generalizing s with
  | nil => exact .refl s
  | cons i l rest =>
    obtain ⟨out, distinct⟩ := List.nodup_cons.mp distinct
    exact (visitWay_visited s i).append (rest distinct _) fun j mem same => out (List.mem_singleton.mp same ▸ mem)

end

end Sys2Proof.Machine

/-! SUPPORT. The Table Scanner's visit to an Origin entry, and the whole visit (R56, R57, R116, R127). -/

namespace Sys2Proof.Machine

/-! ### The Origin entry at the cursor (R127) -/

/-- From `s` to `t` Origin entry `i` has been visited, in the terms of the statement. -/
structure OriginVisited (i : Nat) (s t : State) : Prop where
  others : ∀ j, j ≠ i → originOf t j = originOf s j
  free   : originOf s i = none → t.pairing = s.pairing
  aged   : ∀ o, originOf s i = some o → o.check = 0 → o.state = .learned →
    s.settings.originAge * 1000000 < age s.stationTime o.lastSeen → originOf t i = none ∧
    t.pairing = { s.pairing with
      entries := t.pairing.entries, originInUse := s.pairing.originInUse - 1
      counters := { s.pairing.counters with originAged := s.pairing.counters.originAged + 1 } }
  stays  : ∀ o, originOf s i = some o → o.check = 0 →
    o.state = .pinned ∨ age s.stationTime o.lastSeen ≤ s.settings.originAge * 1000000 →
    originOf t i = some { o with lastSeen := holdTime s.stationTime o.lastSeen } ∧
    t.pairing = { s.pairing with entries := t.pairing.entries }
  mended : ∀ o, originOf s i = some o → o.check ≠ 0 → OriginMended i s t

/-- What a visit to Origin entry `i` reports. -/
def originReports (i : Nat) (s : State) : List FaultReport :=
  if (originOf s i).any fun o => o.check != 0 then
    [{ kind := .originCheck, location := i, port := none, cls := none }]
  else []

section
variable {i : Nat} {o : OriginEntry} {s t : State}

theorem OriginVisited.of_same {u v : State} (visited : OriginVisited i t u) (before : t.pairing = s.pairing)
    (after : v.pairing = u.pairing) (time : t.stationTime = s.stationTime) (settings : t.settings = s.settings)
    (loader : t.loader = s.loader) : OriginVisited i s v := by
  obtain ⟨others, free, aged, stays, mended⟩ := visited
  simp only [originOf, OriginMended, before, ← after, time, settings, loader] at others free aged stays mended
  exact ⟨others, free, aged, stays, mended⟩

theorem visitOrigin_of_free (free : originOf s i = none) : visitOrigin i s = s := by
  simp only [visitOrigin, verifyOrigin, free]

theorem visitOrigin_of_holding (held : originOf s i = some o) (holds : o.check = 0) :
    visitOrigin i s = ageOrigin i s := by
  simp only [visitOrigin, verifyOrigin, held, holds, if_true]

theorem visitOrigin_of_failing (held : originOf s i = some o) (bad : o.check ≠ 0) : visitOrigin i s =
    if i = 0 then ageOrigin 0 (originCheckFails 0 none none s) else originCheckFails i none none s := by
  by_cases zero : i = 0
  · subst zero
    simp only [visitOrigin, verifyOrigin, held, bad, if_true, if_false]
  · simp only [visitOrigin, verifyOrigin, held, bad, zero, if_false]

theorem ageOrigin_of_aged (held : originOf s i = some o) (aged : o.aged s.stationTime s.settings.originAge = true) :
    ageOrigin i s = (dropOrigin i s).onPairing fun p => p.onCounters fun c => { c with originAged := c.originAged + 1 } := by
  simp only [ageOrigin, held, aged, if_true]

theorem ageOrigin_of_stays (held : originOf s i = some o) (stays : o.aged s.stationTime s.settings.originAge = false) :
    ageOrigin i s = putOrigin i { o with lastSeen := holdTime s.stationTime o.lastSeen } s := by
  simp only [ageOrigin, held, stays, Bool.false_eq_true, if_false]

theorem ageOrigin_others (j : Nat) (differ : j ≠ i) : originOf (ageOrigin i s) j = originOf s j := by
  unfold ageOrigin dropOrigin
  split
  · rfl
  · next held =>
    split
    · exact (Tbl.look_del _ _ _).trans (if_neg differ)
    · exact Tbl.look_put_ne _ _ differ

theorem ageOrigin_reports (i : Nat) (s : State) : (ageOrigin i s).reports = s.reports := by
  unfold ageOrigin dropOrigin
  split
  · rfl
  · split
    · split <;> rfl
    · rfl

theorem holdTime_self (now : Time) : holdTime now now = now := by
  simp [holdTime, age, holdAge]

/-- Entry 0 rebuilt is kept by the rest of the visit (R114, R116). -/
theorem originMended_zero (s : State) : OriginMended 0 s (ageOrigin 0 (originCheckFails 0 none none s)) := by
  obtain ⟨only, ⟨others, -, rebuilt⟩, -⟩ := originFails_originCheckFails 0 none none s
  obtain ⟨entry, -⟩ := rebuilt rfl
  have stays := ageOrigin_of_stays (s := originCheckFails 0 none none s) entry rfl
  have young := holdTime_self s.stationTime
  refine ⟨fun j differ => (ageOrigin_others j differ).trans (others j differ), fun h => absurd rfl h, fun _ => ⟨?_, ?_⟩⟩
  · rw [stays, only.stationTime, young]
    exact Tbl.look_put_self _ _ _
  · rw [stays]
    rfl

theorem visitOrigin_reports (i : Nat) (s : State) : (visitOrigin i s).reports = s.reports ++ originReports i s := by
  cases held : originOf s i with
  | none => simp [visitOrigin_of_free held, originReports, held]
  | some o =>
    by_cases holds : o.check = 0
    · simp [visitOrigin_of_holding held holds, ageOrigin_reports, originReports, held, holds]
    · have fails := (originFails_originCheckFails i none none s).2.2
      have reports : originReports i s = [{ kind := .originCheck, location := i, port := none, cls := none }] := by
        simpa [originReports, held] using holds
      rw [visitOrigin_of_failing held holds, reports, ← fails]
      split
      · next zero => rw [ageOrigin_reports, zero]
      · rfl

theorem visitOrigin_visited (i : Nat) (s : State) : OriginVisited i s (visitOrigin i s) := by
  refine ⟨fun j differ => ?_, fun free => by rw [visitOrigin_of_free free], fun o held holds learned old => ?_,
    fun o held holds stays => ?_, fun o held bad => ?_⟩
  · cases held : originOf s i with
    | none => rw [visitOrigin_of_free held]
    | some o =>
      by_cases holds : o.check = 0
      · rw [visitOrigin_of_holding held holds]
        exact ageOrigin_others j differ
      · have others := (originFails_originCheckFails i none none s).2.1.1
        rw [visitOrigin_of_failing held holds]
        split
        · next zero =>
          subst zero
          exact (ageOrigin_others j differ).trans (others j differ)
        · exact others j differ
  · have aged : o.aged s.stationTime s.settings.originAge = true := by simp [OriginEntry.aged, learned, old]
    rw [visitOrigin_of_holding held holds, ageOrigin_of_aged held aged]
    simp only [dropOrigin, held, learned, reduceCtorEq, if_false]
    exact ⟨(Tbl.look_del _ _ _).trans (if_pos rfl), rfl⟩
  · have young : o.aged s.stationTime s.settings.originAge = false := by
      obtain pinned | young := stays
      · simp [OriginEntry.aged, pinned]
      · simp [OriginEntry.aged, Nat.not_lt.mpr young]
    rw [visitOrigin_of_holding held holds, ageOrigin_of_stays held young]
    refine ⟨(Tbl.look_put_self _ _ _).trans ?_, rfl⟩
    rw [holds]
  · rw [visitOrigin_of_failing held bad]
    split
    · next zero =>
      subst zero
      exact originMended_zero s
    · exact (originFails_originCheckFails i none none s).2.1

end

/-! ### The whole visit (R56) -/

/-- What a visit leaves whose bucket has the ways `l`. -/
structure TablesScanned (l : List Nat) (s x : State) : Prop where
  entry    : ∀ j, entryOf x j = if j ∈ l then scanEntry s (entryOf s j) else entryOf s j
  cursors  : x.filter.cursors = (s.filter.bucketCursor + 1, s.filter.originCursor + 1, some 500)
  counters : (∀ i ∈ l, scanFails s i = false) →
    x.filter.counters = s.filter.counters.scanned (l.map fun i => (scanOut s i).length).sum (l.countP (scanFrees s))
  notices  : (∀ i ∈ l, scanFails s i = false) → (∀ i ∈ l, scanFrees s i = false) →
    x.notices = l.foldl (scanNotice s) s.notices
  origin   : OriginVisited s.filter.originCursor.val s x
  reports  : x.reports = s.reports ++ (l.filter (scanFails s)).map scanReport ++
    originReports s.filter.originCursor.val s
  frame    : x.store = s.store ∧ x.portU1 = s.portU1 ∧ x.portU2 = s.portU2 ∧ x.portB = s.portB ∧
    x.pause = s.pause ∧ x.u1 = s.u1 ∧ x.u2 = s.u2 ∧ x.bay = s.bay ∧ x.presence = s.presence ∧
    x.settings = s.settings ∧ x.loader = s.loader ∧ x.faults = s.faults

/-- The state in which the bucket is visited, its timer running anew. -/
def rearmed (s : State) : State := s.onFilter fun f => { f with scanTimer := some 500 }

/-- The bucket cursor advanced. -/
def nextBucket (s : State) : State := s.onFilter fun f => { f with bucketCursor := f.bucketCursor + 1 }

/-- After the ways of its bucket the scanner visits the Origin entry at its cursor. -/
theorem tablesScanned_of_ways {l : List Nat} {s t : State} (ways : WaysVisited l (rearmed s) t) :
    TablesScanned l s (visitOriginCursor (nextBucket t)) := by
  obtain ⟨only, entry, cursors, reports, counters, notices⟩ := ways
  have kept : OnlyFilter s (nextBucket t) := ((onFilter_filter _ s).trans only).trans (onFilter_filter _ t)
  have advanced : (nextBucket t).filter.cursors = (s.filter.bucketCursor + 1, s.filter.originCursor, some 500) :=
    congrArg (fun c : Fin 128 × Fin 64 × Timer => (c.1 + 1, c.2)) cursors
  have cursor : (nextBucket t).filter.originCursor = s.filter.originCursor := congrArg (fun c => c.2.1) advanced
  have visited := visitOrigin_pairing s.filter.originCursor.val (nextBucket t)
  have origins := visitOrigin_visited s.filter.originCursor.val (nextBucket t)
  have noted := visitOrigin_reports s.filter.originCursor.val (nextBucket t)
  rw [visitOriginCursor, cursor]
  generalize visitOrigin s.filter.originCursor.val (nextBucket t) = z at *
  have filter : z.filter = (nextBucket t).filter := visited.filter
  exact
    { entry := fun j => by
        rw [entryOf, State.onFilter, filter]
        exact entry j
      cursors := by
        rw [State.onFilter, filter]
        exact congrArg (fun c : Fin 128 × Fin 64 × Timer => (c.1, c.2.1 + 1, c.2.2)) advanced
      counters := fun holds => by
        rw [State.onFilter, filter]
        exact counters holds
      notices := fun holds none => visited.notices.trans (notices holds none)
      origin := origins.of_same kept.pairing rfl kept.stationTime kept.settings kept.loader
      reports := by
        have same : originReports s.filter.originCursor.val (nextBucket t) =
            originReports s.filter.originCursor.val s := by rw [originReports, originOf, kept.pairing]; rfl
        have before : (nextBucket t).reports = s.reports ++ (l.filter (scanFails s)).map scanReport := reports
        rw [State.onFilter, noted, before, same]
      frame := ⟨visited.store.trans kept.store, visited.portU1.trans kept.portU1, visited.portU2.trans kept.portU2,
        visited.portB.trans kept.portB, visited.pause.trans kept.pause, visited.u1.trans kept.u1,
        visited.u2.trans kept.u2, visited.bay.trans kept.bay, visited.presence.trans kept.presence,
        visited.settings.trans kept.settings, visited.loader.trans kept.loader, visited.faults.trans kept.faults⟩ }

theorem scanTables_scanned (s : State) : TablesScanned (waysOf s.filter.bucketCursor.val) s (scanTables s) :=
  tablesScanned_of_ways (foldl_visitWay_visited _ ((waysOf_sorted _).imp fun lt => Nat.ne_of_lt lt) _)

/-! ### The statement's terms -/

section
variable {s : State} {e d : Entry} {o : Option Entry}

theorem outlived_iff : e.outlived s = true ↔
    e.state = .active ∧ s.settings.sourceAge * 1000000 < age s.stationTime e.lastUse := by
  simp [Entry.outlived, Entry.aged]

theorem scanEntry_eq_some (there : scanEntry s o = some d) :
    ∃ e, o = some e ∧ e.check = 0 ∧ d = e.scanned s.stationTime s.settings.twinTimeout := by
  obtain ⟨e, rfl, made⟩ := Option.bind_eq_some_iff.mp there
  split at made
  · next stays => exact ⟨e, rfl, stays.1, (Option.some.inj made).symm⟩
  · cases made

theorem scanEntry_eq_none (holds : e.check = 0) : scanEntry s (some e) = none ↔
    e.state = .active ∧ s.settings.sourceAge * 1000000 < age s.stationTime e.lastUse := by
  rw [← outlived_iff]
  cases outlived : e.outlived s with
  | true => simp [scanEntry_of_outlived outlived]
  | false => simp [scanEntry_of_stays holds outlived]

/-- The first record that stays has not timed out (R58). -/
theorem freshTwins_head {now : Time} {timeout : Nat} {l : List Twin} {r : Twin}
    (first : (freshTwins now timeout l).head? = some r) : age now r.firstTime ≤ timeout * 1000 := by
  have young := List.head?_dropWhile_not (Twin.timedOut now timeout) l
  rw [← freshTwins, first] at young
  simpa [Twin.timedOut] using young

theorem timedOutTwins_old {now : Time} {timeout : Nat} {l : List Twin} {r : Twin} (mem : r ∈ timedOutTwins now timeout l) :
    timeout * 1000 < age now r.firstTime := by
  simpa [Twin.timedOut] using List.mem_takeWhile_imp mem

end

/-- Settles O12: the scanner visits the ways of one bucket one after the other, each in its own entry, then one Origin
entry. -/
theorem scannerVisitsOneBucketAndOneOrigin : Obligations.ScannerVisitsOneBucketAndOneOrigin := by
  unfold Obligations.ScannerVisitsOneBucketAndOneOrigin
  intro s
  refine ⟨fun stopped => by simp [exec, execTableScannerTimerExpiry, whileRunning, stopped], fun out runs => ?_⟩
  obtain ⟨entry, cursors, counters, notices, ⟨others, free, aged, stays, mended⟩, reports, frame⟩ := scanTables_scanned s
  obtain ⟨bucketCursor, originCursor, timer⟩ : (scanTables s).filter.bucketCursor = s.filter.bucketCursor + 1 ∧
      (scanTables s).filter.originCursor = s.filter.originCursor + 1 ∧ (scanTables s).filter.scanTimer = some 500 := by
    simpa [Filter.cursors] using cursors
  have handled := handledTo_of_eq (exec_tableScannerTimerExpiry out runs)
  generalize scanTables s = x at *
  have inside : ∀ i, i / 4 = s.filter.bucketCursor.val → entryOf x i = scanEntry s (entryOf s i) := fun i bucket =>
    (entry i).trans (if_pos (mem_waysOf.mpr bucket))
  have outside : ∀ i, i / 4 ≠ s.filter.bucketCursor.val → entryOf x i = entryOf s i := fun i other =>
    (entry i).trans (if_neg fun mem => other (mem_waysOf.mp mem))
  have holding : (∀ i e, i / 4 = s.filter.bucketCursor.val → entryOf s i = some e → e.check = 0) →
      ∀ i ∈ waysOf s.filter.bucketCursor.val, scanFails s i = false := fun holds i mem => by
    cases held : entryOf s i with
    | none => rw [scanFails, held]; rfl
    | some e => rw [scanFails_of_held held, holds i e (mem_waysOf.mp mem) held]; rfl
  refine ⟨x, handled, timer, bucketCursor, originCursor, outside, fun i e there => ?_, fun i e bucket held holds => ?_,
    ⟨holdTime s.stationTime, scanOut s, fun a => rfl, fun i _ free => by rw [scanOut, free]; rfl,
      fun i e bucket held holds => ⟨freshTwins s.stationTime s.settings.twinTimeout e.twins, ?_, fun r mem => ?_,
        fun r => freshTwins_head, fun d there => ?_⟩, fun holds => ⟨?_, fun none => ?_⟩⟩,
    others, free, fun o held => ⟨aged o held, stays o held, mended o held⟩, fun i e bucket held bad => ?_, ?_, frame⟩
  · by_cases bucket : i / 4 = s.filter.bucketCursor.val
    · rw [inside i bucket] at there
      obtain ⟨d, held, -, rfl⟩ := scanEntry_eq_some there
      exact ⟨d, held, rfl, rfl, rfl, (Option.isSome_map ..).symm, rfl, rfl, rfl⟩
    · exact ⟨e, (outside i bucket).symm.trans there, rfl, rfl, rfl, rfl, rfl, rfl, rfl⟩
  · rw [inside i bucket, held]
    exact scanEntry_eq_none holds
  · rw [scanOut_of_held held]
    exact List.takeWhile_append_dropWhile.symm
  · rw [scanOut_of_held held] at mem
    exact timedOutTwins_old mem
  · rw [inside i bucket] at there
    obtain ⟨d, same, -, rfl⟩ := scanEntry_eq_some there
    obtain rfl := Option.some.inj (held.symm.trans same)
    rw [scanOut_of_held held]
    rfl
  · have freed : (waysOf s.filter.bucketCursor.val).countP (scanFrees s) = (waysOf s.filter.bucketCursor.val).countP
        fun i => (entryOf s i).isSome && (entryOf x i).isNone :=
      List.countP_congr fun i mem => by rw [scanFrees, inside i (mem_waysOf.mp mem)]
    rw [counters (holding holds), freed]
    rfl
  · have kept : ∀ i ∈ waysOf s.filter.bucketCursor.val, scanFrees s i = false := fun i mem => by
      rw [scanFrees, ← inside i (mem_waysOf.mp mem)]
      cases held : entryOf s i with
      | none => rfl
      | some e =>
        obtain ⟨d, there⟩ := Option.isSome_iff_exists.mp (none i (mem_waysOf.mp mem) (by rw [held]; rfl))
        rw [there]
        rfl
    exact notices (holding holds) kept
  · rw [inside i bucket, held]
    exact scanEntry_of_failing bad
  · exact reports

end Sys2Proof.Machine

/-! SUPPORT. The sequence bands (R65) and the verdict that each of them gives (R66). -/

namespace Sys2Proof.Machine

/-! ### The sequence difference (R65) -/

theorem seqDiff_bounds (s head : BitVec 16) : -32768 ≤ seqDiff s head ∧ seqDiff s head ≤ 32767 := by
  have low := BitVec.le_toInt (s - head)
  have high := BitVec.toInt_lt (x := s - head)
  unfold seqDiff
  omega

theorem seqDiff_dvd (s head : BitVec 16) :
    (65536 : Int) ∣ seqDiff s head - ((s.toNat : Int) - (head.toNat : Int)) := by
  unfold seqDiff
  have hs := s.isLt
  have hh := head.isLt
  rw [BitVec.toInt_eq_toNat_cond, BitVec.toNat_sub]
  split <;> omega

theorem seqDiff_self (s : BitVec 16) : seqDiff s s = 0 := by
  rw [seqDiff, BitVec.sub_self]
  rfl

/-- The five bands of R65 share no difference and leave none out. -/
theorem bands_exclusive {j : Nat} (big : 64 ≤ j) (d : Int) :
    [decide (d = 0), decide (1 ≤ d ∧ d ≤ j), decide (-63 ≤ d ∧ d ≤ -1),
      decide (-(j : Int) ≤ d ∧ d ≤ -64), decide (d < -(j : Int) ∨ (j : Int) < d)].count true = 1 := by
  simp only [List.count_cons, List.count_nil, beq_true, decide_eq_true_eq]
  split_ifs <;> omega

/-! ### The verdict of each band (R66 test 4) -/

section
variable {j : Nat} {w : Window} {s : BitVec 16}

theorem sequenceVerdict_of_equal (equal : seqDiff s w.head = 0) : sequenceVerdict j w s = .repeated := by
  rw [sequenceVerdict, if_pos equal]

theorem sequenceVerdict_of_ahead (low : 1 ≤ seqDiff s w.head) (high : seqDiff s w.head ≤ j) :
    sequenceVerdict j w s = .ahead := by
  rw [sequenceVerdict, if_neg (by omega), if_pos ⟨low, high⟩]

theorem sequenceVerdict_of_behind (low : -63 ≤ seqDiff s w.head) (high : seqDiff s w.head ≤ -1) :
    sequenceVerdict j w s = if w.seen.getLsbD (-(seqDiff s w.head)).toNat then .repeated else .late := by
  rw [sequenceVerdict, if_neg (by omega), if_neg (by omega), if_pos ⟨low, high⟩]

theorem sequenceVerdict_of_beyond (low : -(j : Int) ≤ seqDiff s w.head) (high : seqDiff s w.head ≤ -64) :
    sequenceVerdict j w s = .stale := by
  rw [sequenceVerdict, if_neg (by omega), if_neg (by omega), if_neg (by omega), if_pos ⟨low, high⟩]

theorem sequenceVerdict_of_jump (big : 64 ≤ j)
    (far : seqDiff s w.head < -(j : Int) ∨ (j : Int) < seqDiff s w.head) : sequenceVerdict j w s = .sequenceJump := by
  rw [sequenceVerdict, if_neg (by omega), if_neg (by omega), if_neg (by omega), if_neg (by omega)]

end

/-- Settles O46: the difference is the signed residue, its band is one of five, and each band has its verdict. -/
theorem sequenceBands : Obligations.SequenceBands := by
  refine ⟨fun j w s big _ => ?_, by decide, by decide, by decide⟩
  obtain ⟨low, high⟩ := seqDiff_bounds s w.head
  refine ⟨seqDiff s w.head, rfl, low, high, seqDiff_dvd s w.head, bands_exclusive big _, sequenceVerdict_of_equal,
    sequenceVerdict_of_ahead, fun behind near seen => ?_, fun behind near unseen => ?_, sequenceVerdict_of_beyond,
    sequenceVerdict_of_jump big⟩
  · rw [sequenceVerdict_of_behind behind near, if_pos seen]
  · rw [sequenceVerdict_of_behind behind near, if_neg (by simp [unseen])]

end Sys2Proof.Machine

/-! SUPPORT. The verdict of an arrival (R66), the accepted verdicts' common effects (R68, R78), and the window that each
of them leaves (R69 to R72): it has taken the sequence. -/

namespace Sys2Proof.Machine

/-! ### The tests of R66 in their order -/

section
variable {st : Settings} {now : Time} {q : BitVec 16} {p : BitVec 3} {w : Window}

theorem verdictOf_of_expired (old : st.windowHold * 1000 < age now w.lastAccept) :
    verdictOf st now q p (some w) = .first true := by
  simp [verdictOf, Window.expired, old]

section
variable (inForce : age now w.lastAccept ≤ st.windowHold * 1000)
include inForce

theorem verdictOf_of_epoch (same : p = w.epoch) : verdictOf st now q p (some w) = sequenceVerdict st.jumpLimit w q := by
  have fresh : w.expired now st.windowHold = false := by simpa [Window.expired] using inForce
  simp [verdictOf, fresh, same]

theorem verdictOf_of_prevEpoch (differ : p ≠ w.epoch) (prev : w.prevEpoch = some p) :
    verdictOf st now q p (some w) = .staleEpoch := by
  have fresh : w.expired now st.windowHold = false := by simpa [Window.expired] using inForce
  simp [verdictOf, fresh, differ, prev]

theorem verdictOf_of_newEpoch (differ : p ≠ w.epoch) (prev : w.prevEpoch ≠ some p) :
    verdictOf st now q p (some w) = .epochJump := by
  have fresh : w.expired now st.windowHold = false := by simpa [Window.expired] using inForce
  simp [verdictOf, fresh, differ, prev]

end

/-- Each verdict comes of the first test of R66 that decides. -/
theorem verdictOf_cases (st : Settings) (now : Time) (q : BitVec 16) (p : BitVec 3) (w : Window) :
    verdictOf st now q p (some w) = .first true ∨ verdictOf st now q p (some w) = .staleEpoch ∨
    verdictOf st now q p (some w) = .epochJump ∨
    (p = w.epoch ∧ verdictOf st now q p (some w) = sequenceVerdict st.jumpLimit w q) := by
  rcases Nat.lt_or_ge (st.windowHold * 1000) (age now w.lastAccept) with old | inForce
  · exact .inl (verdictOf_of_expired old)
  · by_cases same : p = w.epoch
    · exact .inr (.inr (.inr ⟨same, verdictOf_of_epoch inForce same⟩))
    · by_cases prev : w.prevEpoch = some p
      · exact .inr (.inl (verdictOf_of_prevEpoch inForce same prev))
      · exact .inr (.inr (.inl (verdictOf_of_newEpoch inForce same prev)))

theorem epoch_of_band {v : Verdict} (verdict : verdictOf st now q p (some w) = v)
    (band : v = .sequenceJump ∨ v = .ahead ∨ v = .late) : p = w.epoch := by
  obtain first | stale | jump | ⟨same, _⟩ := verdictOf_cases st now q p w
  · simp [← verdict, first] at band
  · simp [← verdict, stale] at band
  · simp [← verdict, jump] at band
  · exact same

end

/-! ### The common effects of an accepted verdict (R68, R78) -/

theorem path_chargeMisses (e : Entry) (q : Uplink) (l : List Twin) : (chargeMisses e l).path q = e.missed q l := by
  rw [chargeMisses_eq]
  cases q <;> rfl

theorem chargeMiss_eq (e : Entry) (r : Twin) : chargeMiss e (other r.firstPath) =
    { e with path1 := e.missed .u1 [r], path2 := e.missed .u2 [r] } := chargeMisses_eq [r] e

theorem Entry.missed_congr {e d : Entry} {q : Uplink} (same : d.path q = e.path q) (l : List Twin) :
    d.missed q l = e.missed q l := by
  rw [missed, missed, same]

/-- Misses are charged one list after the other (R81). -/
theorem Entry.missed_append {e d : Entry} {q : Uplink} {a : List Twin} (charged : d.path q = e.missed q a)
    (b : List Twin) : d.missed q b = e.missed q (a ++ b) := by
  rw [← path_chargeMisses] at charged
  rw [missed_congr charged, ← path_chargeMisses, ← path_chargeMisses, chargeMisses, chargeMisses, chargeMisses,
    List.foldl_append]

/-- The record that leaves a full twin list for a new one (R78). -/
def overflowing (l : List Twin) : List Twin := if l.length < 4 then [] else l.take 1

theorem appendTwin_eq (r : Twin) (x : Screening) : appendTwin r x =
    { entry :=
        { x.entry with
          twins := (if x.entry.twins.length < 4 then x.entry.twins else x.entry.twins.tail) ++ [r]
          path1 := x.entry.missed .u1 (overflowing x.entry.twins)
          path2 := x.entry.missed .u2 (overflowing x.entry.twins) }
      counters :=
        { x.counters with
          twinOverflows := x.counters.twinOverflows + if x.entry.twins.length < 4 then 0 else 1 } } := by
  have one : x.entry.missed .u1 [] = x.entry.path1 := x.entry.missed_nil .u1
  have two : x.entry.missed .u2 [] = x.entry.path2 := x.entry.missed_nil .u2
  unfold appendTwin overflowing
  split
  · next h rest twins =>
    rw [twins]
    split
    · next full =>
      have many : ¬ (h :: rest).length < 4 := by omega
      simp only [if_neg many, chargeMiss_eq, List.tail_cons, List.take_succ_cons, List.take_zero]
    · next room =>
      have few : (h :: rest).length < 4 := by omega
      simp only [if_pos few, one, two, BitVec.ofNat_eq_ofNat, BitVec.add_zero]
  · next twins =>
    rw [twins]
    simp only [List.length_nil, Nat.zero_lt_succ, if_true, one, two, List.nil_append, BitVec.ofNat_eq_ofNat,
      BitVec.add_zero]

/-- What R68 leaves, in one term. -/
theorem acceptCommon_eq (now : Time) (t : Tag) (x : Screening) : acceptCommon now t x =
    { entry :=
        { x.entry with
          window := x.entry.window.map fun w => { w with lastAccept := now }
          twins := (if x.entry.twins.length < 4 then x.entry.twins else x.entry.twins.tail) ++
            [{ seq := t.seq, firstPath := t.path, firstTime := now }]
          path1 := x.entry.missed .u1 (overflowing x.entry.twins)
          path2 := x.entry.missed .u2 (overflowing x.entry.twins)
          declaredInterval := t.interval
          accepted := satInc x.entry.accepted }
      counters :=
        FilterCounters.acceptOn
          { x.counters with
            twinOverflows := x.counters.twinOverflows + if x.entry.twins.length < 4 then 0 else 1 } t.path } := by
  rw [acceptCommon, appendTwin_eq]

theorem acceptCommon_window (now : Time) (t : Tag) (x : Screening) :
    (acceptCommon now t x).entry.window = x.entry.window.map fun w => { w with lastAccept := now } := by
  rw [acceptCommon_eq]

/-! ### The window that each accepted verdict leaves (R69 to R72) -/

section
variable (now : Time) (t : Tag) (w : Window) (x : Screening)

theorem firstEffect_window (expired : Bool) :
    (firstEffect now t expired x).entry.window = some (initWindow now t t.epoch none) := acceptCommon_window ..

theorem epochJumpEffect_window :
    (jumpEffect now t true w x).entry.window = some (initWindow now t t.epoch (some w.epoch)) := acceptCommon_window ..

theorem sequenceJumpEffect_window :
    (jumpEffect now t false w x).entry.window = some (initWindow now t w.epoch w.prevEpoch) := acceptCommon_window ..

theorem aheadEffect_window : (aheadEffect now t w x).entry.window = some
    { w with
      head := t.seq, seen := (w.seen <<< (seqDiff t.seq w.head).toNat) ||| 1, lastAccept := now } :=
  acceptCommon_window ..

theorem lateEffect_window : (lateEffect now t w x).entry.window = some
    { w with seen := w.seen ||| (1 <<< (-(seqDiff t.seq w.head)).toNat), lastAccept := now } :=
  acceptCommon_window ..

end

/-! ### The Seen flags of a slide and of a late sequence (R71, R72) -/

theorem seen_ahead (seen : BitVec 64) (n : Nat) {k : Nat} (inside : k < 64) :
    ((seen <<< n) ||| 1).getLsbD k = (k == 0 || (decide (n ≤ k) && seen.getLsbD (k - n))) := by
  rw [BitVec.getLsbD_or, BitVec.getLsbD_shiftLeft, Bool.or_comm, BitVec.ofNat_eq_ofNat, BitVec.getLsbD_one]
  by_cases zero : k = 0
  · simp [zero]
  · have first : (k == 0) = false := beq_eq_false_iff_ne.mpr zero
    rw [first, decide_eq_false zero, Bool.and_false, Bool.false_or, Bool.false_or, decide_eq_true inside, Bool.true_and,
      ← decide_not, decide_eq_decide.mpr Nat.not_lt]

theorem seen_late (seen : BitVec 64) {n : Nat} (inside : n < 64) (k : Nat) :
    (seen ||| ((1 <<< n : Nat) : BitVec 64)).getLsbD k = (k == n || seen.getLsbD k) := by
  rw [BitVec.getLsbD_or, BitVec.natCast_eq_ofNat, BitVec.getLsbD_ofNat, Nat.one_shiftLeft, Nat.testBit_two_pow,
    Bool.or_comm]
  by_cases same : n = k
  · simp [same ▸ inside, same]
  · simp [same, Ne.symm same]

/-! ### A window that has taken an arrival -/

/-- The window has taken the tag's sequence, in its Epoch, at a time: the sequence is the Head or has its flag set. -/
structure Window.Took (w : Window) (now : Time) (t : Tag) : Prop where
  epoch : t.epoch = w.epoch
  time  : w.lastAccept = now
  seen  : seqDiff t.seq w.head = 0 ∨ (-63 ≤ seqDiff t.seq w.head ∧ seqDiff t.seq w.head ≤ -1 ∧
    w.seen.getLsbD (-(seqDiff t.seq w.head)).toNat = true)

theorem initWindow_took {now : Time} {t : Tag} {p : BitVec 3} {o : Option (BitVec 3)} (epoch : t.epoch = p) :
    (initWindow now t p o).Took now t := ⟨epoch, rfl, .inl (seqDiff_self t.seq)⟩

/-- Every accepted verdict leaves a window that has taken the arrival (R69 to R72). -/
theorem verdictEffect_took {st : Settings} {now : Time} {t : Tag} {v : Verdict} {x : Screening}
    (verdict : verdictOf st now t.seq t.epoch x.entry.window = v) (accepting : v.accepting = true) :
    ∃ w, (verdictEffect st now t v x).1.entry.window = some w ∧ w.Took now t := by
  cases window : x.entry.window with
  | none =>
    rw [window] at verdict
    subst verdict
    exact ⟨_, firstEffect_window .., initWindow_took rfl⟩
  | some w =>
    rw [window] at verdict
    unfold verdictEffect
    rw [window]
    cases v with
    | first expired => exact ⟨_, firstEffect_window .., initWindow_took rfl⟩
    | epochJump => exact ⟨_, epochJumpEffect_window .., initWindow_took rfl⟩
    | sequenceJump => exact ⟨_, sequenceJumpEffect_window .., initWindow_took (epoch_of_band verdict (.inl rfl))⟩
    | ahead =>
      have epoch := epoch_of_band verdict (.inr (.inl rfl))
      exact ⟨_, aheadEffect_window .., epoch, rfl, .inl (seqDiff_self t.seq)⟩
    | late =>
      obtain ⟨low, high, _⟩ := seqDiff_of_late_verdict (verdictOf_sequence verdict (.inr rfl))
      have epoch := epoch_of_band verdict (.inr (.inr rfl))
      refine ⟨_, lateEffect_window .., epoch, rfl, .inr ⟨low, high, ?_⟩⟩
      dsimp only
      rw [seen_late _ (by omega), beq_self_eq_true, Bool.true_or]
    | repeated => cases accepting
    | staleEpoch => cases accepting
    | stale => cases accepting

/-- Settles O47: an accepted verdict leaves a window that has taken the sequence, and such a window repeats it. -/
theorem anAcceptedSequenceRepeats : Obligations.AnAcceptedSequenceRepeats := by
  intro st st' now later t x y v ev screened accepting soon
  obtain ⟨entry, verdict, _⟩ : _ ∧ _ ∧ _ := by simpa only [screenEntry, Prod.mk.injEq] using screened
  obtain ⟨w, window, took⟩ := verdictEffect_took verdict accepting
  rw [verdict] at entry
  have left : y.entry.window = some w := by
    rw [← entry]
    exact window
  rw [left]
  exact verdictOf_seen took.epoch (took.time.symm ▸ soon) took.seen

end Sys2Proof.Machine

/-! SUPPORT. What each verdict leaves of its entry and of the filter counters (R64, R68 to R74, R78 to R81, R85). -/

namespace Sys2Proof.Machine

/-! ### Twin records timed out (R80) -/

section
variable {st : Settings} {now : Time}

/-- The records in front that have timed out leave, each with a miss. -/
theorem timeoutStep_of_append {e : Entry} {c : FilterCounters} {a b : List Twin} (twins : e.twins = a ++ b)
    (old : ∀ r, r ∈ a → st.twinTimeout * 1000 < age now r.firstTime)
    (fresh : ∀ r, b.head? = some r → age now r.firstTime ≤ st.twinTimeout * 1000) :
    timeoutStep st now { entry := e, counters := c } =
      { entry := { e with twins := b, path1 := e.missed .u1 a, path2 := e.missed .u2 a }
        counters := { c with twinTimeouts := c.twinTimeouts + BitVec.ofNat 32 a.length } } := by
  have leaves : ∀ r ∈ a, Twin.timedOut now st.twinTimeout r = true := fun r mem => decide_eq_true (old r mem)
  have stays : b.takeWhile (Twin.timedOut now st.twinTimeout) = [] ∧
      b.dropWhile (Twin.timedOut now st.twinTimeout) = b := by
    cases b with
    | nil => exact ⟨rfl, rfl⟩
    | cons r l =>
      have young : Twin.timedOut now st.twinTimeout r = false := decide_eq_false (Nat.not_lt.mpr (fresh r rfl))
      exact ⟨List.takeWhile_cons_of_neg (by simp [young]), List.dropWhile_cons_of_neg (by simp [young])⟩
  have gone : timedOutTwins now st.twinTimeout e.twins = a := by
    rw [timedOutTwins, twins, List.takeWhile_append_of_pos leaves, stays.1, List.append_nil]
  have left : freshTwins now st.twinTimeout e.twins = b := by
    rw [freshTwins, twins, List.dropWhile_append_of_pos leaves, stays.2]
  rw [timeoutStep, evictTimedOut_eq, gone, left]

theorem timeoutStep_of_fresh {x : Screening}
    (fresh : ∀ r, x.entry.twins.head? = some r → age now r.firstTime ≤ st.twinTimeout * 1000) :
    timeoutStep st now x = x := by
  have one : x.entry.missed .u1 [] = x.entry.path1 := x.entry.missed_nil .u1
  have two : x.entry.missed .u2 [] = x.entry.path2 := x.entry.missed_nil .u2
  have uncounted : x.counters.twinTimeouts + BitVec.ofNat 32 ([] : List Twin).length = x.counters.twinTimeouts :=
    BitVec.add_zero _
  have step := timeoutStep_of_append (c := x.counters) (List.nil_append x.entry.twins).symm (by simp) fresh
  rw [one, two, uncounted] at step
  exact step

end

/-! ### A verdict's effects on the entry and the counters -/

/-- A screening once its Last Use is written (R40, R64 step 7). -/
def Screening.used (x : Screening) (now : Time) : Screening := { x with entry := lastUseStep now x.entry }

/-- With no record timed out the verdict and its effects are those of the entry as it stands. -/
theorem screenEntry_of_verdict {st : Settings} {now : Time} {t : Tag} {x : Screening} {v : Verdict}
    (fresh : ∀ r, x.entry.twins.head? = some r → age now r.firstTime ≤ st.twinTimeout * 1000)
    (verdict : verdictOf st now t.seq t.epoch x.entry.window = v) :
    screenEntry st now t x =
      ((verdictEffect st now t v x).1.used now, v, (verdictEffect st now t v x).2) := by
  rw [screenEntry, timeoutStep_of_fresh fresh, verdict]
  rfl

/-- Where an accepted verdict has left `kept` of the records and charged `gone`, the common effects do the rest (R68,
R78, R81). -/
theorem acceptCommon_twinsJoined {now : Time} {t : Tag} {kept gone : List Twin} {e : Entry} {c : FilterCounters}
    {x : Screening} (twins : x.entry.twins = kept) (paths : ∀ q, x.entry.path q = e.missed q gone)
    (accepted : x.entry.accepted = e.accepted)
    (counters : ∃ expiries, x.counters =
      { c with windowExpiries := expiries, twinSlides := c.twinSlides + BitVec.ofNat 32 gone.length }) :
    TwinsJoined now t kept gone e c ((acceptCommon now t x).used now) := by
  obtain ⟨expiries, counters⟩ := counters
  have charged : ∀ q, x.entry.missed q (overflowing kept) = e.missed q (gone ++ overflowing kept) := fun q =>
    Entry.missed_append (paths q) _
  rw [acceptCommon_eq, twins, counters, accepted]
  refine ⟨rfl, fun q => ?_, rfl, rfl, ?_, ?_, ?_⟩
  · cases q with
    | u1 => exact charged .u1
    | u2 => exact charged .u2
  all_goals cases t.path <;> rfl

section
variable {st : Settings} {now : Time} {t : Tag} {w : Window} {x : Screening}

theorem firstEffect_twinsJoined (expired : Bool) :
    TwinsJoined now t [] [] x.entry x.counters ((firstEffect now t expired x).used now) := by
  refine acceptCommon_twinsJoined rfl (fun q => (x.entry.missed_nil q).symm) rfl ?_
  cases expired
  · exact ⟨x.counters.windowExpiries, by simp⟩
  · exact ⟨x.counters.windowExpiries + 1, by simp⟩

theorem jumpEffect_twinsJoined (epochJump : Bool) :
    TwinsJoined now t [] [] x.entry x.counters ((jumpEffect now t epochJump w x).used now) :=
  acceptCommon_twinsJoined rfl (fun q => (x.entry.missed_nil q).symm) rfl
    ⟨x.counters.windowExpiries, by simp⟩

theorem aheadEffect_twinsJoined :
    TwinsJoined now t (x.entry.twins.filter fun r => decide ((t.seq - r.seq).toNat ≤ 63))
      (x.entry.twins.filter fun r => decide (63 < (t.seq - r.seq).toNat)) x.entry x.counters
      ((aheadEffect now t w x).used now) := by
  have stays : (fun r => !Twin.slidOut t.seq r) = fun r => decide ((t.seq - r.seq).toNat ≤ 63) := by
    funext r
    rw [Twin.slidOut, ← decide_not, decide_eq_decide, Nat.not_lt]
  refine acceptCommon_twinsJoined (congrArg (x.entry.twins.filter ·) stays) (fun q => ?_) ?_ ⟨_, rfl⟩
  · rw [← path_chargeMisses]
    cases q <;> rfl
  · exact (chargeMisses_kept _ x.entry).accepted

theorem lateEffect_twinsJoined :
    TwinsJoined now t x.entry.twins [] x.entry x.counters ((lateEffect now t w x).used now) :=
  acceptCommon_twinsJoined rfl (fun q => (x.entry.missed_nil q).symm) rfl
    ⟨x.counters.windowExpiries, by simp⟩

/-- The common effects count nothing of LATE, STALE and JUMP (R68). -/
theorem acceptCommon_counts : (acceptCommon now t x).entry.late = x.entry.late ∧
    (acceptCommon now t x).entry.stale = x.entry.stale ∧ (acceptCommon now t x).entry.resync = x.entry.resync := by
  rw [acceptCommon_eq]
  exact ⟨rfl, rfl, rfl⟩

theorem aheadEffect_counts : (aheadEffect now t w x).entry.late = x.entry.late ∧
    (aheadEffect now t w x).entry.stale = x.entry.stale ∧ (aheadEffect now t w x).entry.resync = x.entry.resync := by
  rw [aheadEffect, chargeMisses_eq]
  exact acceptCommon_counts

theorem firstEffect_expiries : (firstEffect now t true x).counters.windowExpiries = x.counters.windowExpiries + 1 := by
  rw [firstEffect, acceptCommon_eq]
  cases t.path <;> rfl

/-- STALE counts a discarded copy of its path just where it does not go on (R74). -/
theorem staleEffect_discards (pass staleEpoch : Bool) :
    ((staleEffect pass t staleEpoch x).counters.path1Discarded,
      (staleEffect pass t staleEpoch x).counters.path2Discarded) =
    (match pass, t.path with
      | true, _ => (x.counters.path1Discarded, x.counters.path2Discarded)
      | false, .u1 => (x.counters.path1Discarded + 1, x.counters.path2Discarded)
      | false, .u2 => (x.counters.path1Discarded, x.counters.path2Discarded + 1)) := by
  unfold staleEffect FilterCounters.discardOn
  cases pass with
  | true => cases staleEpoch <;> rfl
  | false => cases staleEpoch <;> cases t.path <;> rfl

theorem staleEffect_counts (pass staleEpoch : Bool) :
    (staleEffect pass t staleEpoch x).counters.staleEpochs =
      x.counters.staleEpochs + (if staleEpoch then 1 else 0) ∧
    (staleEffect pass t staleEpoch x).counters.stalePassed = x.counters.stalePassed + (if pass then 1 else 0) := by
  unfold staleEffect FilterCounters.discardOn
  cases pass with
  | true => cases staleEpoch <;> simp
  | false => cases staleEpoch <;> cases t.path <;> simp

end

/-! ### The Skew Alarm (R85) -/

section
variable {avg : Int} {limit : Nat}

theorem judgeSkew_high (on : 0 < limit) (high : 8 * limit < avg.natAbs) :
    judgeSkew false avg limit = (true, some true) := by
  simp [judgeSkew, on, high]

theorem judgeSkew_normal (low : limit = 0 ∨ avg.natAbs ≤ 4 * limit) :
    judgeSkew true avg limit = (false, some false) := by
  rcases Nat.eq_zero_or_pos limit with off | on
  · simp [judgeSkew, off]
  · have settled : avg.natAbs ≤ 4 * limit := by omega
    simp [judgeSkew, on, settled]

theorem judgeSkew_quiet (low : limit = 0 ∨ avg.natAbs ≤ 8 * limit) : judgeSkew false avg limit = (false, none) := by
  have calm : ¬ (0 < limit ∧ 8 * limit < avg.natAbs) := by omega
  simp [judgeSkew, calm]

theorem judgeSkew_standing (on : 0 < limit) (high : 4 * limit < avg.natAbs) :
    judgeSkew true avg limit = (true, none) := by
  simp [judgeSkew, on.ne', Nat.not_le.mpr high]

end

/-- A REPEAT that finds a record of the other path takes it from the list, and its sample is judged (R73, R83 to
R85). -/
theorem repeatEffect_of_match {now : Time} {limit : Nat} {t : Tag} {x : Screening} {r : Twin}
    (found : x.entry.twins.find? (fun r => r.seq == t.seq) = some r) (path : r.firstPath = other t.path) {avg : Int}
    (average : avg = nextAverage x.entry.skewAverage (signedSkew (age now r.firstTime) r.firstPath)) :
    (repeatEffect now limit t x).1.entry.skewAverage = some avg ∧
    (repeatEffect now limit t x).1.entry.twins = x.entry.twins.erase r ∧
    ((repeatEffect now limit t x).1.entry.skewAlarm, (repeatEffect now limit t x).2) =
      judgeSkew x.entry.skewAlarm avg limit := by
  have differ : r.firstPath ≠ t.path := by
    rw [path]
    cases t.path <;> decide
  subst average
  unfold repeatEffect
  dsimp only
  rw [found]
  dsimp only
  rw [if_neg differ]
  unfold skewEffect
  cases t.path <;> exact ⟨rfl, rfl, rfl⟩

/-! ### The screening of an arrival in each band (R66) -/

section
variable {st : Settings} {now : Time} {t : Tag} {e : Entry} {w : Window} {c : FilterCounters} {y : Screening}
  {v : Verdict} {ev : Option Bool}

/-- With no record timed out, a screening is the effect of its verdict. -/
theorem screened_of_effect {v' : Verdict} {r : Screening × Option Bool}
    (scr : screenEntry st now t { entry := e, counters := c } = (y, v, ev)) (window : e.window = some w)
    (fresh : ∀ r, r ∈ e.twins → age now r.firstTime ≤ st.twinTimeout * 1000)
    (verdict : verdictOf st now t.seq t.epoch (some w) = v')
    (effect : verdictEffect st now t v' { entry := e, counters := c } = r) :
    y = r.1.used now ∧ v = v' ∧ ev = r.2 := by
  rw [screenEntry_of_verdict (v := v') (fun r head => fresh r (List.mem_of_mem_head? head))
    (by rw [window]; exact verdict), effect] at scr
  obtain ⟨rfl, rfl, rfl⟩ : _ ∧ _ ∧ _ := by simpa only [Prod.mk.injEq] using scr
  exact ⟨rfl, rfl, rfl⟩

end

section
variable {st : Settings} {now : Time} {t : Tag} {x : Screening} {w : Window}

theorem verdictEffect_first (expired : Bool) :
    verdictEffect st now t (.first expired) x = (firstEffect now t expired x, none) := by
  rw [verdictEffect]

variable (window : x.entry.window = some w)
include window

theorem verdictEffect_ahead : verdictEffect st now t .ahead x = (aheadEffect now t w x, none) := by
  simp only [verdictEffect, window]

theorem verdictEffect_late : verdictEffect st now t .late x = (lateEffect now t w x, none) := by
  simp only [verdictEffect, window]

theorem verdictEffect_epochJump : verdictEffect st now t .epochJump x = (jumpEffect now t true w x, none) := by
  simp only [verdictEffect, window]

theorem verdictEffect_sequenceJump : verdictEffect st now t .sequenceJump x = (jumpEffect now t false w x, none) := by
  simp only [verdictEffect, window]

end

end Sys2Proof.Machine

/-! SUPPORT. A tagged arrival at the entry that holds its key (R25, R64, R104): what its path arrival, the reading of a
presence body and the routing of the frame leave of the entry, the filter counters and the notices. -/

namespace Sys2Proof.Machine

/-! ### The path arrival beside the entry (R91 to R93, R98) -/

theorem Entry.missing_arrived (e : Entry) (p q : Uplink) (now : Time) :
    ((e.arrived p now).path q).missing = (e.path q).missing := by
  cases p <;> cases q <;> rfl

theorem Entry.missing_judged (e : Entry) (p q : Uplink) (n : Nat) (now : Time) :
    ((e.judged p n now).path q).missing = (e.path q).missing := by
  unfold judged
  split
  · cases p <;> cases q <;> rfl
  · rfl

theorem Entry.check_judged {e : Entry} (holds : e.check = 0) (p : Uplink) (n : Nat) (now : Time) :
    (e.judged p n now).check = 0 := by
  unfold judged
  split
  · rfl
  · exact holds

/-- From `c` to `d` the counts of paths lost and restored alone may differ. -/
def FilterCounters.PathsOnly (c d : FilterCounters) : Prop :=
  d = { c with pathsLost := d.pathsLost, pathsRestored := d.pathsRestored }

section
variable {i : Nat} {s : State}

theorem arrivingPath_counters (p : Uplink) : s.filter.counters.PathsOnly (arrivingPath i p s).filter.counters := by
  unfold arrivingPath
  split
  · rfl
  · dsimp only
    split
    · rfl
    · rfl
    · rw [lowerLost_counters]
      rfl

theorem judgePath_counters (q : Uplink) : s.filter.counters.PathsOnly (judgePath i q s).filter.counters := by
  unfold judgePath
  split
  · rfl
  · split
    · rw [raiseLost_counters]
      rfl
    · rfl

theorem pathArrival_counters (p : Uplink) : s.filter.counters.PathsOnly (pathArrival i p s).filter.counters := by
  have arrived := arrivingPath_counters (i := i) (s := s) p
  have judged := judgePath_counters (i := i) (s := arrivingPath i p s) (other p)
  unfold FilterCounters.PathsOnly at *
  rw [pathArrival, judged, arrived]

/-- An arrival on a path that is PRESENT, whose other path is LOST already or does not fail, raises no event (R92,
R93). -/
theorem pathArrival_notices_of_quiet {e : Entry} {p : Uplink} (held : entryOf s i = some e)
    (present : (e.path p).state = .present)
    (quiet : e.isLost (other p) = true ∨ e.failed (other p) s.settings.missLimit s.stationTime = false) :
    (pathArrival i p s).notices = s.notices := by
  have arrived : arrivingPath i p s =
      putEntry i (e.setPath p { e.path p with lastArrival := some s.stationTime }) s := by
    simp only [arrivingPath, held, present]
  have only := putEntry_filter i (e.setPath p { e.path p with lastArrival := some s.stationTime }) s
  rw [pathArrival, arrived, judgePath, entryOf_putEntry_self]
  dsimp only
  rw [if_neg]
  · rfl
  · rw [only.settings, only.stationTime]
    rintro ⟨up, fails⟩
    have up' : e.isLost (other p) = false := by cases p <;> exact up
    have fails' : e.failed (other p) s.settings.missLimit s.stationTime = true := by cases p <;> exact fails
    rw [up', fails'] at quiet
    simp at quiet

end

/-! ### The skew event (R13, R85) -/

/-- Where of a skew event, by the average's sign. -/
theorem skewWhere_octet (a : Int) : BitVec.ofNat 8 (skewWhere a) =
    (match compare 0 a with
      | .lt => 1
      | .gt => 2
      | .eq => 0 : Octet) := by
  unfold skewWhere
  rcases lt_trichotomy 0 a with positive | zero | negative
  · rw [compare_lt_iff_lt.mpr positive, if_pos positive]
    rfl
  · subst zero
    rfl
  · rw [compare_gt_iff_gt.mpr negative, if_neg (by omega), if_pos negative]
    rfl

theorem detail24_ofNat (a : Int) : BitVec.ofNat 24 (detail24 a) = BitVec.ofInt 24 a := by
  rw [detail24, BitVec.ofNat_toNat, BitVec.setWidth_eq]

/-- The notices once a skew event is raised, if one is (R13, R85). -/
theorem raiseSkew_notices (e : Entry) (ev : Option Bool) (s : State) : (raiseSkew e ev s).notices =
    (match ev with
      | none => s.notices
      | some high => s.notices.add
        { kind := if high then .skewHigh else .skewNormal
          whr := (match compare 0 (e.skewAverage.getD 0) with
            | .lt => 1
            | .gt => 2
            | .eq => 0)
          cls := classOctet (some e.cls), detail := BitVec.ofInt 24 (e.skewAverage.getD 0)
          addr := e.addr, time := s.stationTime }) := by
  cases ev with
  | none => rfl
  | some high =>
    rw [← detail24_ofNat, ← skewWhere_octet]
    rfl

/-! ### Peer Status in the screening (R64) -/

theorem repeatEffect_peerStatus (now : Time) (limit : Nat) (t : Tag) (x : Screening) :
    (repeatEffect now limit t x).1.entry.peerStatus = x.entry.peerStatus := by
  unfold repeatEffect
  dsimp only
  split
  · rfl
  · split
    · rfl
    · unfold skewEffect
      cases t.path <;> rfl

theorem acceptCommon_peerStatus (now : Time) (t : Tag) (x : Screening) :
    (acceptCommon now t x).entry.peerStatus = x.entry.peerStatus := by
  rw [acceptCommon_eq]

/-- Steps 2 to 10 of R64 do not touch Peer Status. -/
theorem screenEntry_peerStatus (st : Settings) (now : Time) (t : Tag) (x : Screening) :
    (screenEntry st now t x).1.entry.peerStatus = x.entry.peerStatus := by
  have effect : ∀ v z, (verdictEffect st now t v z).1.entry.peerStatus = z.entry.peerStatus := fun v z => by
    unfold verdictEffect
    split
    · exact acceptCommon_peerStatus ..
    · exact acceptCommon_peerStatus ..
    · exact acceptCommon_peerStatus ..
    · rw [aheadEffect, acceptCommon_peerStatus, chargeMisses_eq]
    · exact acceptCommon_peerStatus ..
    · exact repeatEffect_peerStatus ..
    · rfl
    · rfl
    · rfl
  have timed : (timeoutStep st now x).entry.peerStatus = x.entry.peerStatus := by
    rw [timeoutStep, evictTimedOut_eq]
  exact (effect _ (timeoutStep st now x)).trans timed

/-! ### The presence body (R104) -/

section
variable {i : Nat} {w : Walk} {f : List Octet} {e : Entry} {s : State}

/-- The Status Copy that a majority of the body's three gives (R9, R104). -/
def bodyStatus (w : Walk) (f : List Octet) : Option (BitVec 64) :=
  majority (statusCopy w f 0) (statusCopy w f 1) (statusCopy w f 2)

/-- A presence body read leaves its status where it has one, and otherwise one Body Error. -/
theorem readPresenceBody_of_held (held : entryOf s i = some e) : readPresenceBody i w f s =
    match bodyStatus w f with
    | some v => putEntry i { e with peerStatus := some v } s
    | none => s.onFilter fun g => g.onCounters fun c => { c with bodyErrors := c.bodyErrors + 1 } := by
  unfold readPresenceBody bodyStatus
  cases majority (statusCopy w f 0) (statusCopy w f 1) (statusCopy w f 2) with
  | none => rfl
  | some v => simp only [held]

theorem entryOf_readPresenceBody (held : entryOf s i = some e) (holds : e.check = 0) (j : Nat) :
    entryOf (readPresenceBody i w f s) j =
      if j = i then some { e with peerStatus := (bodyStatus w f).or e.peerStatus } else entryOf s j := by
  rw [readPresenceBody_of_held held]
  cases bodyStatus w f with
  | some v =>
    have written := entryOf_putEntry i j { e with peerStatus := some v } s
    rw [← holds] at written
    exact written
  | none =>
    by_cases same : j = i
    · rw [if_pos same, same]
      exact held
    · rw [if_neg same]
      rfl

theorem readPresenceBody_counters (held : entryOf s i = some e) :
    (readPresenceBody i w f s).filter.counters =
      { s.filter.counters with
        bodyErrors := s.filter.counters.bodyErrors + if bodyStatus w f = none then 1 else 0 } := by
  rw [readPresenceBody_of_held held]
  cases bodyStatus w f with
  | some v => simp [putEntry]
  | none => rfl

theorem readPresenceBody_notices (held : entryOf s i = some e) : (readPresenceBody i w f s).notices = s.notices := by
  rw [readPresenceBody_of_held held]
  cases bodyStatus w f <;> rfl

/-- What the three copies give, by which of them are equal (R9, R104). -/
theorem bodyStatus_of_copies {a b c : BitVec 64} (copies : [0, 1, 2].map (statusCopy w f) = [a, b, c]) :
    (a = b ∨ a = c → bodyStatus w f = some a) ∧ (b = c → bodyStatus w f = some b) ∧
    (bodyStatus w f = none ↔ a ≠ b ∧ a ≠ c ∧ b ≠ c) := by
  have three : bodyStatus w f = majority a b c := by
    obtain ⟨rfl, rfl, rfl, _⟩ : _ ∧ _ ∧ _ ∧ True := by simpa using copies
    rfl
  have first : a = b ∨ a = c → majority a b c = some a := fun equal => if_pos equal
  have second : b = c → majority a b c = some b := fun equal => by
    by_cases same : a = b
    · rw [first (.inl same), same]
    · rw [majority, if_neg (by simp [← equal, same]), if_pos equal]
  rw [three]
  refine ⟨first, second, fun without => ⟨fun equal => ?_, fun equal => ?_, fun equal => ?_⟩,
    fun ⟨ab, ac, bc⟩ => ?_⟩
  · simp [first (.inl equal)] at without
  · simp [first (.inr equal)] at without
  · simp [second equal] at without
  · rw [majority, if_neg (by simp [ab, ac]), if_neg bc]

end

/-! ### The screening at the entry found (R64) -/

/-- What the screening `y`, with its skew event, of an arrival with tag `t` at entry `i` of `s`, which was `e`, leaves
with its path arrival (R64, R85, R91). -/
structure ScreenedTo (i : Nat) (t : Tag) (e : Entry) (y : Screening) (ev : Option Bool) (s z : State) : Prop where
  entry : ∃ d, entryOf z i = some d ∧ d.check = 0 ∧
    d = { y.entry with path1 := d.path1, path2 := d.path2, check := 0 } ∧
    ∀ p, (d.path p).missing = (y.entry.path p).missing
  others : ∀ j, j ≠ i → entryOf z j = entryOf s j
  counters : y.counters.PathsOnly z.filter.counters
  notices : (e.path t.path).state = .present →
    y.entry.isLost (other t.path) = true ∨
      y.entry.failed (other t.path) s.settings.missLimit s.stationTime = false →
    z.notices = (raiseSkew y.entry ev s).notices

theorem screenedTo_of_held {i : Nat} {t : Tag} {e : Entry} {y : Screening} {v : Verdict} {ev : Option Bool} {s : State}
    (scr : screenEntry s.settings s.stationTime t (screeningOf e s) = (y, v, ev)) :
    ScreenedTo i t e y ev s (pathArrival i t.path (screenedAt i t e s)) := by
  have written : screenedAt i t e s = raiseSkew y.entry ev
      ((putEntry i y.entry s).onFilter fun f => { f with counters := y.counters }) := by rw [screenedAt, scr]
  have table := entryOf_screened (i := i) (t := t) (e := e) (s := s)
  have placed := (entryOf_screenedAt (t := t) (e := e) (s := s) i).trans (if_pos rfl)
  have standing := screenEntry_standing (st := s.settings) (now := s.stationTime) (t := t) (x := screeningOf e s)
  rw [scr] at table placed standing
  have only := screenedAt_only i t e s
  refine ⟨⟨_, (table i).trans (if_pos rfl), Entry.check_judged rfl .., ?_, fun p => ?_⟩,
    fun j differ => (table j).trans (if_neg differ), ?_, fun present quiet => ?_⟩
  · have paths := (Entry.arrived_pathsOnly { y.entry with check := 0 } t.path s.stationTime).trans
      (Entry.judged_pathsOnly _ (other t.path) s.settings.missLimit s.stationTime)
    rw [Entry.PathsOnly, Entry.check_judged rfl] at paths
    exact paths
  · rw [Entry.missing_judged, Entry.missing_arrived]
    cases p <;> rfl
  · have counters := pathArrival_counters (i := i) (s := screenedAt i t e s) t.path
    rw [written, raiseSkew_filter_eq] at counters
    rw [written]
    exact counters
  · have stays : (y.entry.path t.path).state = .present := by
      rw [← present]
      cases t.path
      · exact standing.path1
      · exact standing.path2
    rw [← only.settings, ← only.stationTime] at quiet
    rw [pathArrival_notices_of_quiet placed, written]
    · unfold raiseSkew
      split <;> rfl
    · rw [← stays]
      cases t.path <;> rfl
    · exact quiet

/-! ### The routing of the frame (R25) -/

section
variable {u : Uplink} {h i : Nat} {v : Verdict} {t : Tag} {w : Walk} {f : List Octet} {s : State}

/-- The state once the body of a presence frame that goes on is read (R25, R104). -/
def bodyRead (i : Nat) (v : Verdict) (t : Tag) (w : Walk) (f : List Octet) (s : State) : State :=
  if goesOn s.settings v = true ∧ t.cls = .presence then readPresenceBody i w f s else s

theorem bodyRead_filter : OnlyFilter s (bodyRead i v t w f s) := by
  unfold bodyRead
  split
  · exact readPresenceBody_filter i w f s
  · exact .refl s

/-- A frame that does not go on, or whose body alone is read, is freed (R25). -/
theorem routeVerdict_freed (stop : goesOn s.settings v = false ∨ t.cls = .presence) :
    routeVerdict u h i v t w f s = freeHandle h (bodyRead i v t w f s) := by
  unfold routeVerdict bodyRead
  cases go : goesOn s.settings v with
  | false => rw [if_pos rfl, if_neg (by simp)]
  | true =>
    have presence : t.cls = .presence := stop.resolve_left (by simp [go])
    rw [if_neg (by simp), if_pos presence, if_pos ⟨rfl, presence⟩]

/-- Past the body the routing of a frame that is not for the station touches storage alone (R25). -/
theorem routeVerdict_storage (dest : t.cls ≠ .presence → destOf f ≠ s.loader.stationAddress) :
    OnlyStorage (bodyRead i v t w f s) (routeVerdict u h i v t w f s) := by
  by_cases stop : goesOn s.settings v = false ∨ t.cls = .presence
  · rw [routeVerdict_freed stop]
    exact freeHandle_storage h _
  · obtain ⟨go, cls⟩ := not_or.mp stop
    rw [bodyRead, if_neg fun read => cls read.2, routeVerdict_to_bay (by simpa using go) cls (dest cls)]
    exact (setRefs_storage h 1 s).trans (offerBay_storage _ _ _ _)

/-- The status that an arrival leaves, where it leaves one (R104). -/
def statusLeft (st : Settings) (v : Verdict) (t : Tag) (w : Walk) (f : List Octet) : Option (BitVec 64) :=
  if goesOn st v = true ∧ t.cls = .presence then bodyStatus w f else none

theorem statusLeft_of_stop {st : Settings} (stop : goesOn st v = false ∨ t.cls ≠ .presence) :
    statusLeft st v t w f = none := by
  refine if_neg fun ⟨go, presence⟩ => ?_
  rcases stop with halt | cls
  · rw [go] at halt
    cases halt
  · exact cls presence

theorem entryOf_bodyRead {e : Entry} (held : entryOf s i = some e) (holds : e.check = 0) (j : Nat) :
    entryOf (bodyRead i v t w f s) j =
      if j = i then some { e with peerStatus := (statusLeft s.settings v t w f).or e.peerStatus } else entryOf s j := by
  unfold bodyRead statusLeft
  split
  · exact entryOf_readPresenceBody held holds j
  · by_cases same : j = i
    · rw [if_pos same, same]
      exact held
    · rw [if_neg same]

theorem bodyRead_counters {e : Entry} (held : entryOf s i = some e) : (bodyRead i v t w f s).filter.counters =
    { s.filter.counters with
      bodyErrors := s.filter.counters.bodyErrors +
        if goesOn s.settings v = true ∧ t.cls = .presence ∧ bodyStatus w f = none then 1 else 0 } := by
  unfold bodyRead
  split
  · next read => simp only [readPresenceBody_counters held, read.1, read.2, true_and]
  · next unread =>
    rw [if_neg fun all => unread ⟨all.1, all.2.1⟩]
    simp

theorem bodyRead_notices {e : Entry} (held : entryOf s i = some e) : (bodyRead i v t w f s).notices = s.notices := by
  unfold bodyRead
  split
  · exact readPresenceBody_notices held
  · rfl

end

/-! ### UPLINK_ARRIVAL at the entry found (R16, R25, R64) -/

/-- What a tagged arrival `f`, screened to `y` with verdict `v` and its skew event at entry `i` of `s`, which was `e`,
leaves of the Source Table, the filter counters and the notices once it is routed (R64, R85, R91, R104). -/
structure RoutedTo (i : Nat) (t : Tag) (w : Walk) (f : List Octet) (e : Entry) (y : Screening) (v : Verdict)
    (ev : Option Bool) (s x : State) : Prop where
  entry : ∃ d, entryOf x i = some d ∧
    d = { y.entry with
      path1 := d.path1, path2 := d.path2, peerStatus := (statusLeft s.settings v t w f).or e.peerStatus, check := 0 } ∧
    ∀ p, (d.path p).missing = (y.entry.path p).missing
  others : ∀ j, j ≠ i → entryOf x j = entryOf s j
  counters : x.filter.counters =
    { y.counters with
      pathsLost := x.filter.counters.pathsLost, pathsRestored := x.filter.counters.pathsRestored
      bodyErrors := y.counters.bodyErrors +
        if goesOn s.settings v = true ∧ t.cls = .presence ∧ bodyStatus w f = none then 1 else 0 }
  notices : (e.path t.path).state = .present →
    y.entry.isLost (other t.path) = true ∨
      y.entry.failed (other t.path) s.settings.missLimit s.stationTime = false →
    x.notices = (raiseSkew y.entry ev s).notices

section
variable {u : Uplink} {f : List Octet} {t : Tag} {w : Walk} {i : Nat} {e : Entry} {y : Screening} {v : Verdict}
  {ev : Option Bool} {s z x : State}

theorem routedTo_of_screened (screened : ScreenedTo i t e y ev s z) (settings : z.settings = s.settings)
    (peer : y.entry.peerStatus = e.peerStatus) (storage : OnlyStorage (bodyRead i v t w f z) x) :
    RoutedTo i t w f e y v ev s x := by
  obtain ⟨⟨g, placed, sound, shape, missing⟩, others, counters, notices⟩ := screened
  have table := fun j => (entryOf_of_entries (congrArg Filter.entries storage.filter) j).trans
    (entryOf_bodyRead placed sound j)
  have counted := (congrArg Filter.counters storage.filter).trans (bodyRead_counters placed)
  have status : g.peerStatus = e.peerStatus := (congrArg Entry.peerStatus shape).trans peer
  rw [settings, status] at table
  rw [settings, show z.filter.counters = _ from counters] at counted
  refine ⟨⟨_, (table i).trans (if_pos rfl), ?_, fun p => ?_⟩, fun j differ => ?_, ?_, fun present quiet => ?_⟩
  · exact congrArg (fun d : Entry => { d with peerStatus := (statusLeft s.settings v t w f).or e.peerStatus }) shape
  · rw [← missing p]
    cases p <;> rfl
  · rw [table, if_neg differ, others j differ]
  · rw [counted]
  · exact storage.notices.trans ((bodyRead_notices placed).trans (notices present quiet))

/-- An admitted tagged frame whose key an entry holds is stored, screened at that entry, and routed (R25, R64). -/
theorem exec_held (serves : s.serving = true) (form : TableInv s) (passes : TagPasses u f t s)
    (foreign : isOwnOrigin s (sourceOf f) = false)
    (adm : admits s f.length (blockFloor s.settings t.cls) (handleFloor s.settings t.cls) = true)
    (held : entryOf s i = some e) (addr : e.addr = sourceOf f) (cls : e.cls = t.cls) (holds : e.check = 0)
    (scr : screenEntry s.settings s.stationTime t (screeningOf e s) = (y, v, ev)) :
    ∃ z, ScreenedTo i t e y ev (taggedStored u f t s) z ∧ OnlyFilter (taggedStored u f t s) z ∧
      exec (.uplinkArrival u f) s = .next (finish (routeVerdict u (lowestHandle (countReceived (uplinkPort u) s)) i v t
        (walkUplink s.settings.tagMarker f) f z)) := by
  have arrival := exec_screened serves passes foreign adm
  have only := screen_filter t (sourceOf f) (taggedStored u f t s)
  have same : screeningOf e (taggedStored u f t s) = screeningOf e s := by
    rw [screeningOf, screeningOf, taggedStored_filter]
  rw [← taggedStored_settings u f t s, ← taggedStored_stationTime u f t s, ← same] at scr
  rw [screen_of_held (tableInv_taggedStored u f t s form) ((entryOf_taggedStored u f t s i).trans held) addr cls holds]
    at arrival only
  rw [scr] at arrival
  exact ⟨_, screenedTo_of_held scr, only, arrival⟩

/-- The storing that comes before does not show in what is left (R28). -/
theorem RoutedTo.of_stored (routed : RoutedTo i t w f e y v ev (taggedStored u f t s) x) :
    RoutedTo i t w f e y v ev s x := by
  have settings := taggedStored_settings u f t s
  have notices : (raiseSkew y.entry ev (taggedStored u f t s)).notices = (raiseSkew y.entry ev s).notices := by
    rw [raiseSkew_notices, raiseSkew_notices, taggedStored_stationTime, (taggedStored_storage u f t s).notices,
      countReceived, State.onPort_notices]
  obtain ⟨entry, others, counters, raised⟩ := routed
  rw [settings] at entry counters raised
  rw [taggedStored_stationTime, notices] at raised
  exact ⟨entry, fun j differ => (others j differ).trans (entryOf_taggedStored u f t s j), counters, raised⟩

end

/-! ### The statement -/

/-- Settles O48: each verdict's effects on the entry, the timeout ahead of them, and the arrival about them: stored,
screened at its entry, and placed or freed. -/
theorem verdictsShapeTheEntry : Obligations.VerdictsShapeTheEntry := by
  refine ⟨fun st now t e w c y v ev big scr window fresh => ⟨?_, fun old => ?_, fun inForce =>
    ⟨fun epoch low high => ?_, fun epoch low high unseen => ?_, fun jump => ?_, fun stale => ?_, fun r epoch again found path => ?_⟩⟩,
    fun st now t e c a b twins old fresh => ?_,
    fun u f t i e s serves _ form passes foreign adm held addr cls holds dest => ?_⟩
  · -- Last Use
    have left : _ = y := congrArg Prod.fst scr
    rw [← left]
    rfl
  · -- FIRST
    obtain ⟨rfl, rfl, rfl⟩ := screened_of_effect scr window fresh (verdictOf_of_expired old)
      (verdictEffect_first true)
    exact ⟨rfl, firstEffect_window now t { entry := e, counters := c } true, firstEffect_twinsJoined true,
      firstEffect_expiries⟩
  · -- AHEAD
    obtain ⟨rfl, rfl, rfl⟩ := screened_of_effect scr window fresh
      ((verdictOf_of_epoch inForce epoch).trans (sequenceVerdict_of_ahead low high)) (verdictEffect_ahead window)
    refine ⟨rfl, ⟨_, aheadEffect_window .., fun k inside => ?_⟩, aheadEffect_twinsJoined, aheadEffect_counts⟩
    have reached : (seqDiff t.seq w.head).toNat ≤ k ↔ seqDiff t.seq w.head ≤ k := by omega
    rw [seen_ahead _ _ inside, decide_eq_decide.mpr reached]
  · -- LATE
    obtain ⟨rfl, rfl, rfl⟩ := screened_of_effect scr window fresh
      ((verdictOf_of_epoch inForce epoch).trans
        ((sequenceVerdict_of_behind low high).trans (if_neg (by simp [unseen]))))
      (verdictEffect_late window)
    exact ⟨rfl, ⟨_, lateEffect_window .., seen_late _ (by omega)⟩, lateEffect_twinsJoined, acceptCommon_counts⟩
  · -- JUMP
    obtain ⟨differ, prev⟩ | ⟨epoch, far⟩ := jump
    · obtain ⟨rfl, rfl, rfl⟩ := screened_of_effect scr window fresh (verdictOf_of_newEpoch inForce differ prev)
        (verdictEffect_epochJump window)
      rw [if_neg differ, if_neg differ]
      exact ⟨rfl, epochJumpEffect_window now t w { entry := e, counters := c }, jumpEffect_twinsJoined true,
        acceptCommon_counts⟩
    · obtain ⟨rfl, rfl, rfl⟩ := screened_of_effect scr window fresh
        ((verdictOf_of_epoch inForce epoch).trans (sequenceVerdict_of_jump big far)) (verdictEffect_sequenceJump window)
      rw [if_pos epoch, if_pos epoch, epoch]
      exact ⟨rfl, sequenceJumpEffect_window now t w { entry := e, counters := c }, jumpEffect_twinsJoined false,
        acceptCommon_counts⟩
  · -- STALE
    obtain ⟨differ, prev⟩ | ⟨epoch, low, high⟩ := stale
    · obtain ⟨rfl, rfl, rfl⟩ := screened_of_effect scr window fresh (verdictOf_of_prevEpoch inForce differ prev) rfl
      obtain ⟨epochs, passed⟩ := staleEffect_counts (t := t) (x := { entry := e, counters := c }) st.stalePass true
      rw [if_neg differ]
      exact ⟨rfl, rfl, rfl, rfl, epochs, passed, staleEffect_discards ..⟩
    · obtain ⟨rfl, rfl, rfl⟩ := screened_of_effect scr window fresh
        ((verdictOf_of_epoch inForce epoch).trans (sequenceVerdict_of_beyond low high)) rfl
      obtain ⟨epochs, passed⟩ := staleEffect_counts (t := t) (x := { entry := e, counters := c }) st.stalePass false
      rw [if_pos epoch]
      exact ⟨rfl, rfl, rfl, rfl, epochs, passed, staleEffect_discards ..⟩
  · -- REPEAT
    obtain ⟨rfl, rfl, rfl⟩ := screened_of_effect scr window fresh ((verdictOf_of_epoch inForce epoch).trans again) rfl
    obtain ⟨average, left, judged⟩ := repeatEffect_of_match (x := { entry := e, counters := c }) (limit := st.skewLimit)
      found path rfl
    have becomes : ∀ {b r}, e.skewAlarm = b → judgeSkew b _ st.skewLimit = r → _ := fun alarm judge =>
      Prod.mk.inj (judged.trans ((congrArg (judgeSkew · _ _) alarm).trans judge))
    exact ⟨_, rfl, rfl, average, left, fun alarm on high => becomes alarm (judgeSkew_high on high),
      fun alarm low => becomes alarm (judgeSkew_normal low), fun alarm low => becomes alarm (judgeSkew_quiet low),
      fun alarm on high => becomes alarm (judgeSkew_standing on high)⟩
  · -- records timed out
    refine ⟨_, rfl, ?_⟩
    rw [screenEntry, screenEntry, timeoutStep_of_append twins old fresh, timeoutStep_of_fresh fresh]
  · -- UPLINK_ARRIVAL
    obtain ⟨y, v, ev, scr⟩ : ∃ y v ev, screenEntry s.settings s.stationTime t (screeningOf e s) = (y, v, ev) :=
      ⟨_, _, _, rfl⟩
    obtain ⟨z, screened, only, arrival⟩ := exec_held serves form passes foreign adm held addr cls holds scr
    have path : t.path = u := passes.2.2.2.2.2.2.1
    have standing := screenEntry_standing (st := s.settings) (now := s.stationTime) (t := t) (x := screeningOf e s)
    have peer := screenEntry_peerStatus s.settings s.stationTime t (screeningOf e s)
    rw [scr] at standing peer
    have settings : z.settings = s.settings := only.settings.trans (taggedStored_settings u f t s)
    have away : t.cls ≠ .presence → destOf f ≠ z.loader.stationAddress := fun other => by
      rw [only.loader, (taggedStored_storage u f t s).loader, countReceived_loader]
      exact dest other
    obtain ⟨⟨d, placed, shape, missing⟩, others, counters, notices⟩ :=
      (routedTo_of_screened screened only.settings peer (routeVerdict_storage away)).of_stored
    have status := congrArg Entry.peerStatus shape
    have errors := congrArg FilterCounters.bodyErrors counters
    refine ⟨y, v, ev, d, _, scr, handledTo_of_eq arrival, placed, ?_, missing, others, ?_, fun present quiet => ?_,
      fun stop => ?_, fun stop => ⟨?_, ?_⟩, fun a b c presence go copies => ?_, fun other go room => ?_⟩
    · rw [status]
      exact shape
    · rw [errors]
      exact counters
    · subst path
      have raised := notices present quiet
      rw [raiseSkew_notices, standing.cls, standing.addr] at raised
      exact raised
    · obtain ⟨_, handles, queues, _⟩ := discarded_effect adm (only.trans bodyRead_filter)
        (routeVerdict_freed (settings ▸ stop))
      exact ⟨handles, queues⟩
    · exact status.trans (congrArg (Option.or · e.peerStatus) (statusLeft_of_stop stop))
    · rw [errors, if_neg]
      · exact BitVec.add_zero _
      · rintro ⟨go, presence, _⟩
        rcases stop with halt | other
        · simp [go] at halt
        · exact other presence
    · obtain ⟨first, second, neither⟩ := bodyStatus_of_copies copies
      rw [statusLeft, if_pos ⟨go, presence⟩] at status
      refine ⟨fun equal => ?_, fun equal => ?_, fun ab ac bc => ?_, ?_⟩
      · exact status.trans (congrArg (Option.or · e.peerStatus) (first equal))
      · exact status.trans (congrArg (Option.or · e.peerStatus) (second equal))
      · exact status.trans (congrArg (Option.or · e.peerStatus) (neither.mpr ⟨ab, ac, bc⟩))
      · rw [errors]
        simp only [go, presence, neither, true_and]
    · obtain ⟨_, ⟨k, free, live, octets, refs, _⟩, tail, _⟩ := firstCopy_placed adm only room
        (routeVerdict_to_bay (settings ▸ go) other (away other))
      exact ⟨_, k, free, live, octets, refs, tail⟩

end Sys2Proof.Machine

/-! SUPPORT. No operation makes an entry lose both its paths (R94): what each leaves of the Path States of the Source
Table's entries. A path is found LOST by an arrival on the other, which that arrival has made PRESENT (R92, R93). -/

namespace Sys2Proof.Machine

/-! ### The relation -/

/-- Both paths of the entry are LOST. -/
def Entry.LostBoth (e : Entry) : Prop := e.isLost .u1 = true ∧ e.isLost .u2 = true

/-- Every entry of `t` with both paths LOST stood in `s` with both paths LOST. -/
def LosesNoBoth (s t : State) : Prop :=
  ∀ i d, entryOf t i = some d → d.LostBoth → ∃ e, entryOf s i = some e ∧ e.LostBoth

section
variable {i : Nat} {d e : Entry} {s t v : State}

theorem LosesNoBoth.pathInv (kept : LosesNoBoth s t) (inv : PathInv s) : PathInv t := fun i d there both =>
  have ⟨e, held, lost⟩ := kept i d there both
  inv i e held lost

theorem LosesNoBoth.of_entries (same : t.filter.entries = s.filter.entries) : LosesNoBoth s t := fun i d there both =>
  ⟨d, (entryOf_of_entries same i).symm.trans there, both⟩

theorem LosesNoBoth.of_filter (same : t.filter = s.filter) : LosesNoBoth s t := .of_entries (by rw [same])

theorem LosesNoBoth.refl (s : State) : LosesNoBoth s s := .of_filter rfl

theorem SameTables.losesNoBoth (same : SameTables s t) : LosesNoBoth s t := .of_entries same.entries

theorem LosesNoBoth.trans (a : LosesNoBoth s t) (b : LosesNoBoth t v) : LosesNoBoth s v := fun i d there both =>
  have ⟨e, held, lost⟩ := b i d there both
  a i e held lost

theorem LosesNoBoth.then_same (a : LosesNoBoth s t) (b : SameTables t v) : LosesNoBoth s v := a.trans b.losesNoBoth

theorem LosesNoBoth.foldl {α : Type} {f : State → α → State} (each : ∀ s a, LosesNoBoth s (f s a)) (l : List α)
    (s : State) : LosesNoBoth s (l.foldl f s) := by
  induction l generalizing s with
  | nil => exact .refl s
  | cons a l rest => exact (each s a).trans (rest _)

theorem LosesNoBoth.of_freed (after : ∀ j, entryOf t j = if j = i then none else entryOf s j) : LosesNoBoth s t :=
  fun j d there both => by
    rw [after] at there
    split at there
    · cases there
    · exact ⟨d, there, both⟩

theorem LosesNoBoth.of_written (after : ∀ j, entryOf t j = if j = i then some d else entryOf s j)
    (written : d.LostBoth → ∃ e, entryOf s i = some e ∧ e.LostBoth) : LosesNoBoth s t := fun j g there both => by
  rw [after] at there
  split at there
  · next same =>
    obtain rfl := Option.some.inj there
    exact same ▸ written both
  · exact ⟨g, there, both⟩

theorem Entry.SameStanding.lostBoth (same : e.SameStanding d) (both : d.LostBoth) : e.LostBoth := by
  simpa only [LostBoth, isLost, path, same.path1, same.path2] using both

/-- An entry a path of which is not LOST. -/
theorem Entry.not_lostBoth {p : Uplink} (kept : e.isLost p = false) : ¬ e.LostBoth := fun both => by
  cases p
  · exact Bool.false_ne_true (kept.symm.trans both.1)
  · exact Bool.false_ne_true (kept.symm.trans both.2)

end

/-! ### The Source Table's operations (R43 to R61) -/

section
variable {i : Nat} {s : State}

theorem rewrite_losesNoBoth {e d : Entry} (held : entryOf s i = some e) (same : e.SameStanding d) :
    LosesNoBoth s (putEntry i d s) :=
  .of_written (fun j => entryOf_putEntry i j d s) fun both => ⟨e, held, same.lostBoth both⟩

theorem createEntry_losesNoBoth (i : Nat) (a : Address) (c : TClass) (st : EntryState) (l : Option Silence)
    (s : State) :
    LosesNoBoth s (createEntry i a c st l s) :=
  .of_written (d := newEntry a c st l s.stationTime) (fun _ => Tbl.look_put _ _ _ _)
    fun both => absurd both (Entry.not_lostBoth (p := .u1) rfl)

theorem entryCheckFails_losesNoBoth (i : Nat) (p : Option Port) (c : Option TClass) (s : State) :
    LosesNoBoth s (entryCheckFails i p c s) := .of_freed (entryOf_entryCheckFails i p c s)

theorem freeEntry_losesNoBoth (i : Nat) (s : State) : LosesNoBoth s (freeEntry i s) := .of_freed (entryOf_freeEntry s i)

theorem lookupKey_losesNoBoth (p : Option Port) (a : Address) (c : TClass) (s : State) :
    LosesNoBoth s (lookupKey p a c s).2 := by
  unfold lookupKey
  split
  · exact .refl s
  · split
    · exact .refl s
    · split
      · exact .refl s
      · exact entryCheckFails_losesNoBoth _ _ _ s

/-- An entry made in the way that is taken for it (R44, R45, R50). -/
theorem takeWay_losesNoBoth (p : Option Port) (b : Nat) (a : Address) (c : TClass) (st : EntryState)
    (l : Option Silence) (s : State) : LosesNoBoth s (createEntry (takeWay p b s).1 a c st l (takeWay p b s).2) :=
  .trans (.of_freed (entryOf_takeWay p b s).2) (createEntry_losesNoBoth _ _ _ _ _ _)

theorem entryForArrival_losesNoBoth (p : Port) (a : Address) (c : TClass) (s : State) :
    LosesNoBoth s (entryForArrival p a c s).2 := by
  have looked := lookupKey_losesNoBoth (some p) a c s
  unfold entryForArrival
  split
  · next found => rwa [found] at looked
  · next found =>
    rw [found] at looked
    exact looked.trans (takeWay_losesNoBoth _ _ _ _ _ _ _)

theorem pinMatch_losesNoBoth (i limit : Nat) (s : State) : LosesNoBoth s (pinMatch i limit s).2 := by
  unfold pinMatch
  split
  · exact .refl s
  · next held =>
    split
    · exact rewrite_losesNoBoth held ⟨rfl, rfl, rfl, rfl, rfl⟩
    · split
      · exact .of_written (fun j => entryOf_putEntry i j _ s) fun both => ⟨_, held, both⟩
      · exact .refl s

theorem pinKey_losesNoBoth (p : Option Port) (a : Address) (c : TClass) (limit : Nat) (s : State) :
    LosesNoBoth s (pinKey p a c limit s).2 := by
  have looked := lookupKey_losesNoBoth p a c s
  unfold pinKey pinMiss
  split
  · next found =>
    rw [found] at looked
    exact looked.trans (pinMatch_losesNoBoth _ _ _)
  · next found =>
    rw [found] at looked
    split
    · exact looked.trans (takeWay_losesNoBoth _ _ _ _ _ _ _)
    · exact looked

theorem unpinKey_losesNoBoth (p : Port) (a : Address) (c : TClass) (s : State) :
    LosesNoBoth s (unpinKey p a c s).2 := by
  have looked := lookupKey_losesNoBoth (some p) a c s
  unfold unpinKey
  split
  · next found => rwa [found] at looked
  · next found =>
    rw [found] at looked
    split
    · exact looked
    · next held =>
      split
      · exact looked.trans (.of_written (fun j => entryOf_putEntry _ j _ _) fun both => ⟨_, held, both⟩)
      · exact looked

theorem removeKey_losesNoBoth (p : Port) (a : Address) (c : TClass) (s : State) :
    LosesNoBoth s (removeKey p a c s).2 := by
  have looked := lookupKey_losesNoBoth (some p) a c s
  unfold removeKey
  split
  · next found => rwa [found] at looked
  · next found =>
    rw [found] at looked
    exact (looked.trans (freeEntry_losesNoBoth _ _)).then_same (filterCounters_sameTables _ _)

theorem flushTable_losesNoBoth (s : State) : LosesNoBoth s (flushTable s) := fun i d there both => by
  rw [entryOf_flushTable] at there
  obtain ⟨e, -, -, -, rfl⟩ := flushedAt_eq_some there
  exact absurd both (Entry.not_lostBoth (p := .u1) rfl)

theorem visitWay_losesNoBoth (s : State) (i : Nat) : LosesNoBoth s (visitWay s i) := by
  unfold visitWay
  split
  · exact .refl s
  · next e held =>
    split
    · exact entryCheckFails_losesNoBoth _ _ _ s
    · have standing := evictTimedOut_standing s.stationTime s.settings.twinTimeout e
      dsimp only
      generalize evictTimedOut s.stationTime s.settings.twinTimeout e = e' at standing ⊢
      have evicted := (rewrite_losesNoBoth held standing).then_same (filterCounters_sameTables _ fun c =>
        { c with twinTimeouts := c.twinTimeouts +
            BitVec.ofNat 32 (timedOutTwins s.stationTime s.settings.twinTimeout e.twins).length })
      have written := entryOf_putEntry_self i e' s
      split
      · split
        · exact (evicted.trans (freeEntry_losesNoBoth i _)).then_same (filterCounters_sameTables _ _)
        · exact evicted.trans (rewrite_losesNoBoth written ⟨rfl, rfl, rfl, rfl, rfl⟩)
      · split
        · exact (evicted.then_same (raise_sameTables .sourceSilent 0 (some e'.cls) (i * 256) e'.addr _)).trans
            (rewrite_losesNoBoth written ⟨rfl, rfl, rfl, rfl, rfl⟩)
        · exact evicted.trans (rewrite_losesNoBoth written ⟨rfl, rfl, rfl, rfl, rfl⟩)

theorem clearFilter_losesNoBoth (s : State) : LosesNoBoth s (clearFilter s) := fun i d there both => by
  have cleared : entryOf (clearFilter s) i = (entryOf s i).map Entry.clearCounts := Tbl.look_mapAll _ _ _
  rw [cleared] at there
  obtain ⟨e, held, rfl⟩ := Option.map_eq_some_iff.mp there
  exact ⟨e, held, both⟩

theorem LosesNoBoth.of_empty {t : State} (filter : t.filter = State.reset.filter) : LosesNoBoth s t :=
  fun i d there => by
    rw [entryOf, filter] at there
    cases there

/-! ### A path arrival (R91 to R94) -/

/-- The path on which a frame has arrived is not LOST, whatever is found of the other (R92). -/
theorem Entry.isLost_arrived_judged (e : Entry) (p : Uplink) (n : Nat) (now : Time) :
    ((e.arrived p now).judged (other p) n now).isLost p = false := by
  have arrived : (e.arrived p now).path p = _ := e.path_setPath p _
  rw [isLost, path_judged_other, arrived]
  rfl

theorem screen_losesNoBoth (t : Tag) (a : Address) (s : State) : LosesNoBoth s (screen t a s).2.2 := by
  have screened : ∀ i v, LosesNoBoth v (screenAt i t v).2 := fun i v => by
    cases held : entryOf v i with
    | none =>
      rw [screenAt, held]
      exact .refl v
    | some e =>
      rw [screenAt_eq held]
      exact .of_written (entryOf_screened (i := i) (t := t)) fun both =>
        absurd both (Entry.not_lostBoth (Entry.isLost_arrived_judged _ t.path _ _))
  exact (entryForArrival_losesNoBoth (uplinkPort t.path) a t.cls s).trans (screened _ _)

theorem readPresenceBody_losesNoBoth (i : Nat) (w : Walk) (f : List Octet) (s : State) :
    LosesNoBoth s (readPresenceBody i w f s) := by
  unfold readPresenceBody
  split
  · split
    · next held => exact rewrite_losesNoBoth held ⟨rfl, rfl, rfl, rfl, rfl⟩
    · exact .refl s
  · exact (filterCounters_sameTables s _).losesNoBoth

end

end Sys2Proof.Machine

/-! SUPPORT. Every step keeps the rule on lost paths (R94): the requests, the Loader, the Intakes, the clock and each
command lose no entry both its paths. -/

namespace Sys2Proof.Machine

section
variable {s t : State} {r : Request}

/-! ### The part's own frames and replies, which leave the Duplicate Filter (R101, R119, R181) -/

theorem pairSteps_losesNoBoth (n : Numbering) (h : Nat) (c : TClass) (paired : Bool) (s : State) :
    LosesNoBoth s (pairSteps n h c paired s) := by
  unfold pairSteps
  split
  · exact (unpairedFrame_sameTables h s).losesNoBoth
  · split
    · exact ((freeHandle_sameTables h s).trans (pairingCounters_sameTables _ _)).losesNoBoth
    · split
      · exact (noLinkDrop_sameTables h s).losesNoBoth
      · exact (LosesNoBoth.of_filter (stamp_reply n h c s).filter).then_same
          ((pairingCounters_sameTables _ _).trans (placeCopies_sameTables _ h c true _))

theorem pairBayFrame_losesNoBoth (h : Nat) (a : Address) (c : TClass) (paired : Bool) (s : State) :
    LosesNoBoth s (pairBayFrame h a c paired s) :=
  .trans (.of_filter (senderOf_pairing c a s).filter) (pairSteps_losesNoBoth _ h c paired _)

theorem buildPresence_losesNoBoth (s : State) : LosesNoBoth s (buildPresence s) := by
  unfold buildPresence storePresence
  dsimp only
  split
  · exact .of_entries rfl
  · have built := (admitBuilt_sameTables (presenceOctets (rearmOwn s)) .presence (rearmOwn s)).losesNoBoth
    split
    · next e => rwa [e] at built
    · next e =>
      rw [e] at built
      exact (built.then_same (filterCounters_sameTables _ _)).trans
        (.of_filter (pairOwnFrame_reply none _ .presence true _).filter)

/-! ### Requests (R170 to R180) -/

theorem shaped_losesNoBoth {objectOk shapeOk : Bool} {go : State × Option Answer} (served : LosesNoBoth s go.1) :
    LosesNoBoth s (shaped r objectOk shapeOk s go).1 := by
  unfold shaped
  split
  · exact .refl s
  · split
    · exact .refl s
    · exact served

theorem serveWrite_losesNoBoth : LosesNoBoth s (serveWrite r s).1 := by
  unfold serveWrite
  split
  · exact shaped_losesNoBoth (writeSetting_sameTables _).losesNoBoth
  · split
    · exact .refl s
    · exact shaped_losesNoBoth (writeClassifier_sameTables _).losesNoBoth

theorem serveEntryRead_losesNoBoth : LosesNoBoth s (serveEntryRead r s).1 := by
  refine shaped_losesNoBoth ?_
  split
  · unfold readEntryAt
    split
    · exact .refl s
    · split
      · exact .refl s
      · split
        · exact .refl s
        · exact entryCheckFails_losesNoBoth _ _ _ s
  · unfold readEntryOf
    split
    · exact .refl s
    · next a c _ =>
      have looked := lookupKey_losesNoBoth (some r.port) a c s
      split
      · next e => rwa [e] at looked
      · next e =>
        rw [e] at looked
        split <;> exact looked

theorem serveEntryPin_losesNoBoth : LosesNoBoth s (serveEntryPin r s).1 := by
  refine shaped_losesNoBoth ?_
  split
  · next a c limit _ _ _ =>
    have pinned := pinKey_losesNoBoth (some r.port) a c limit s
    split <;> next e => rwa [e] at pinned
  · exact .refl s

theorem serveEntryUnpin_losesNoBoth : LosesNoBoth s (serveEntryUnpin r s).1 := by
  refine shaped_losesNoBoth ?_
  split
  · exact .refl s
  · next a c _ =>
    have unpinned := unpinKey_losesNoBoth r.port a c s
    split <;> next e => rwa [e] at unpinned

theorem serveEntryRemove_losesNoBoth : LosesNoBoth s (serveEntryRemove r s).1 := by
  refine shaped_losesNoBoth ?_
  split
  · exact .refl s
  · next a c _ =>
    have removed := removeKey_losesNoBoth r.port a c s
    split <;> next e => rwa [e] at removed

theorem serveOriginRead_losesNoBoth : LosesNoBoth s (serveOriginRead r s).1 := by
  refine shaped_losesNoBoth ?_
  split
  · unfold readOriginAt
    split
    · exact .refl s
    · exact .of_filter (verifyOrigin_pairing _ _ _ s).filter
  · unfold readOriginOf
    split
    · exact .refl s
    · next a _ =>
      have looked := LosesNoBoth.of_filter (lookupOrigin_pairing (some r.port) none a s).filter
      split <;> next e => rwa [e] at looked

theorem serveOriginPin_losesNoBoth : LosesNoBoth s (serveOriginPin r s).1 := by
  refine shaped_losesNoBoth ?_
  split
  · exact .refl s
  · next a _ =>
    have pinned := LosesNoBoth.of_filter (pinOrigin_pairing (some r.port) a s).filter
    split <;> next e => rwa [e] at pinned

theorem serveOriginRemove_losesNoBoth : LosesNoBoth s (serveOriginRemove r s).1 := by
  refine shaped_losesNoBoth ?_
  split
  · exact .refl s
  · next a _ =>
    have removed := LosesNoBoth.of_filter (removeOrigin_pairing r.port a s).filter
    split
    · next e => rwa [e] at removed
    · next e =>
      rw [e] at removed
      split <;> exact removed

theorem serveSlotStage_losesNoBoth : LosesNoBoth s (serveSlotStage r s).1 := by
  refine shaped_losesNoBoth ?_
  split
  · exact .refl s
  · split
    · exact .refl s
    · split
      · exact .refl s
      · exact (stageSlots_sameTables _ _ s).losesNoBoth

theorem serveSlotApply_losesNoBoth : LosesNoBoth s (serveSlotApply r s).1 := by
  refine shaped_losesNoBoth ?_
  split
  · exact .refl s
  · next u _ => exact (onUplink_sameTables s u _).losesNoBoth

theorem serveInject_losesNoBoth : LosesNoBoth s (serveInject r s).1 := by
  refine shaped_losesNoBoth ?_
  split
  · exact .refl s
  · exact .of_filter rfl

theorem serveFaultAck_losesNoBoth : LosesNoBoth s (serveFaultAck r s).1 := by
  refine shaped_losesNoBoth ?_
  have acked := (acknowledge_sameTables s).losesNoBoth
  split <;> next e => rwa [e] at acked

theorem serveClearCounters_losesNoBoth : LosesNoBoth s (serveClearCounters r s).1 := by
  refine shaped_losesNoBoth ?_
  split
  · exact .refl s
  · next f found =>
    unfold clearGroup at found
    split at found
    · exact Option.some.inj found ▸ .of_filter rfl
    · exact Option.some.inj found ▸ .of_filter rfl
    · exact Option.some.inj found ▸ clearFilter_losesNoBoth s
    · exact Option.some.inj found ▸ .of_filter rfl
    · exact Option.some.inj found ▸ .of_filter rfl
    · cases found

theorem serveReload_losesNoBoth : LosesNoBoth s (serveReload r s).1 := by
  refine shaped_losesNoBoth ?_
  split
  · exact .refl s
  · exact .of_filter rfl

theorem serveReset_losesNoBoth : LosesNoBoth s (serveReset r s).1 := by
  refine shaped_losesNoBoth ?_
  split
  · exact (portReset_sameTables .u1 s).losesNoBoth
  · exact (portReset_sameTables .u2 s).losesNoBoth
  · exact .of_empty rfl
  · exact .refl s

theorem serveKind_losesNoBoth (k : ReqKind) (r : Request) (s : State) : LosesNoBoth s (serveKind k r s).1 := by
  cases k with
  | read => exact serveRead_sameTables.losesNoBoth
  | write => exact serveWrite_losesNoBoth
  | entryRead => exact serveEntryRead_losesNoBoth
  | entryPin => exact serveEntryPin_losesNoBoth
  | entryUnpin => exact serveEntryUnpin_losesNoBoth
  | entryRemove => exact serveEntryRemove_losesNoBoth
  | originRead => exact serveOriginRead_losesNoBoth
  | originPin => exact serveOriginPin_losesNoBoth
  | originRemove => exact serveOriginRemove_losesNoBoth
  | slotStage => exact serveSlotStage_losesNoBoth
  | slotApply => exact serveSlotApply_losesNoBoth
  | inject => exact serveInject_losesNoBoth
  | faultAck => exact serveFaultAck_losesNoBoth
  | clearCounters => exact serveClearCounters_losesNoBoth
  | flushTable => exact shaped_losesNoBoth (flushTable_losesNoBoth s)
  | reload => exact serveReload_losesNoBoth
  | reset => exact serveReset_losesNoBoth

theorem sendReply_losesNoBoth (code : Octet) (r : Request) (a : Answer) (s : State) :
    LosesNoBoth s (sendReply code r a s) := .of_filter (sendReply_reply code r a s).filter

theorem serve_losesNoBoth (k : ReqKind) (r : Request) (s : State) : LosesNoBoth s (serve k r s) := by
  have judged : LosesNoBoth s (judgeRequest k r s).1 := by
    unfold judgeRequest
    split
    · exact .refl s
    · split
      · exact (onPort_sameTables s _ _).losesNoBoth
      · exact .refl s
      · split
        · exact .refl s
        · exact serveKind_losesNoBoth k r s
  unfold serve
  split
  · next e => rwa [e] at judged
  · next e =>
    rw [e] at judged
    exact judged.trans (sendReply_losesNoBoth _ r _ _)

theorem serveFrame_losesNoBoth (p : Port) (h : Nat) (w : Walk) (f : List Octet) (s : State) :
    LosesNoBoth s (serveFrame p h w f s) := by
  have served : LosesNoBoth s (serveBody p (sourceOf f) (w.body f) s) := by
    unfold serveBody
    split
    · exact (onPort_sameTables s _ _).losesNoBoth
    · split
      · exact sendReply_losesNoBoth _ _ _ s
      · exact serve_losesNoBoth _ _ s
  unfold serveFrame endRequest
  split
  · exact served
  · exact served.then_same (freeHandle_sameTables h _)

/-! ### The Loader (R188 to R192) and the Fault Unit (R163) -/

theorem sourcePinRecord_losesNoBoth (s : State) (i : ImageRecord) : LosesNoBoth s (sourcePinRecord s i) := by
  unfold sourcePinRecord
  split
  · next a c limit =>
    split
    · exact (skipRecord_sameTables s).losesNoBoth
    · next k _ =>
      have pinned := pinKey_losesNoBoth none a k limit s
      split
      · next e => rwa [e] at pinned
      · next e =>
        rw [e] at pinned
        exact pinned.then_same (skipRecord_sameTables _)
  · exact .refl s

theorem originPinRecord_losesNoBoth (s : State) (i : ImageRecord) : LosesNoBoth s (originPinRecord s i) := by
  unfold originPinRecord
  split
  · next a =>
    have pinned := LosesNoBoth.of_filter (pinOrigin_pairing none a s).filter
    split
    · next e => rwa [e] at pinned
    · next e =>
      rw [e] at pinned
      exact pinned.then_same (skipRecord_sameTables _)
  · exact .refl s

theorem dropOrigin_losesNoBoth (s : State) (i : Nat) : LosesNoBoth s (dropOrigin i s) :=
  .of_filter (dropOrigin_pairing i s).filter

theorem createZero_losesNoBoth (s : State) : LosesNoBoth s (createZero s) :=
  .trans (t := createOrigin 0 .pinned s.loader.stationAddress s) (.of_filter rfl) (.foldl dropOrigin_losesNoBoth _ _)

theorem changeStation_losesNoBoth (a : Address) (s : State) : LosesNoBoth s (changeStation a s) := by
  unfold changeStation
  split
  · exact .refl s
  · refine .trans (t := readdressZero a (s.onLoader fun l => { l with stationAddress := a })) ?_
      (.foldl (fun v i => (dropOrigin_losesNoBoth v i).then_same (pairingCounters_sameTables _ _)) _ _)
    unfold readdressZero
    split <;> exact .of_filter rfl

theorem applyImage_losesNoBoth (l : List ImageRecord) (s : State) : LosesNoBoth s (applyImage l s) := by
  have station : SameTables s
      (setStation (imageStation l (applySettings l s)).1 (imageStation l (applySettings l s)).2) :=
    ((applySettings_sameTables l s).trans (imageStation_sameTables l _)).trans (onLoader_sameTables _ _)
  have origins := (station.losesNoBoth.trans (.foldl originPinRecord_losesNoBoth l _)).trans (createZero_losesNoBoth _)
  exact (((origins.then_same (setUpOverflow_sameTables _)).trans (.foldl sourcePinRecord_losesNoBoth l _)).then_same
    (.foldl classifierRecord_sameTables l _)).then_same (.foldl (slotsRecord_sameTables loadSlots_sameTables) l _)

theorem applyDefaults_losesNoBoth (s : State) : LosesNoBoth s (applyDefaults s) := by
  have station : SameTables s (setStation (defaultStationAddress s.loader.straps) (allActions (defaultSettings s))) :=
    ((onSettings_sameTables s _).trans (allActions_sameTables _)).trans (onLoader_sameTables _ _)
  exact (station.losesNoBoth.trans (createZero_losesNoBoth _)).then_same (setUpOverflow_sameTables _)

theorem applyLoad_losesNoBoth (i : ImageOutcome) (s : State) : LosesNoBoth s (applyLoad i s) := by
  unfold applyLoad
  split
  · exact (applyImage_losesNoBoth _ s).then_same (onLoader_sameTables _ _)
  · exact (applyDefaults_losesNoBoth s).then_same (onLoader_sameTables _ _)
  · exact ((applyDefaults_losesNoBoth s).then_same (captureReport_sameTables _ _)).then_same (onLoader_sameTables _ _)

theorem reloadImage_losesNoBoth (l : List ImageRecord) (s : State) : LosesNoBoth s (reloadImage l s) := by
  have settings := (applySettings_sameTables l s).trans (imageStation_sameTables l _)
  have origins := (settings.losesNoBoth.trans (changeStation_losesNoBoth
    ((imageStation l (applySettings l s)).1) _)).trans (.foldl originPinRecord_losesNoBoth l _)
  exact ((origins.trans (.foldl sourcePinRecord_losesNoBoth l _)).then_same
    (.foldl classifierRecord_sameTables l _)).then_same (stageReload_sameTables l _)

theorem applyReload_losesNoBoth (i : ImageOutcome) (s : State) : LosesNoBoth s (applyReload i s) := by
  have ended := onLoader_sameTables s fun l => { l with reloadRunning := false, recordsSkipped := 0 }
  have defaults : ∀ t, SameTables t (allActions (defaultSettings t)) := fun t =>
    (onSettings_sameTables t _).trans (allActions_sameTables _)
  unfold applyReload
  dsimp only
  split
  · exact (ended.losesNoBoth.trans (reloadImage_losesNoBoth _ _)).then_same (onLoader_sameTables _ _)
  · exact ((ended.trans (defaults _)).trans (onLoader_sameTables _ _)).losesNoBoth
  · exact (((ended.trans (defaults _)).trans (captureReport_sameTables _ _)).trans
      (onLoader_sameTables _ _)).losesNoBoth

theorem takeReport_losesNoBoth (f : FaultReport) (s : State) : LosesNoBoth s (takeReport f s) := by
  unfold takeReport
  split
  · exact .of_empty rfl
  · exact (captureReport_sameTables f s).losesNoBoth

/-! ### The Intakes (R17 to R26) -/

theorem routeVerdict_losesNoBoth (u : Uplink) (h i : Nat) (v : Verdict) (g : Tag) (w : Walk) (f : List Octet)
    (s : State) : LosesNoBoth s (routeVerdict u h i v g w f s) := by
  unfold routeVerdict
  split
  · exact (freeHandle_sameTables h s).losesNoBoth
  · split
    · exact (readPresenceBody_losesNoBoth i w f s).then_same (freeHandle_sameTables h _)
    · split
      · split
        · exact serveFrame_losesNoBoth _ h w f s
        · exact ((onPort_sameTables s _ _).trans (freeHandle_sameTables h _)).losesNoBoth
      · exact ((setRefs_sameTables h 1 s).trans (offerBay_egress _ _ _ _).sameTables).losesNoBoth

theorem routeTagged_losesNoBoth (u : Uplink) (g : Tag) (w : Walk) (f : List Octet) (s : State) :
    LosesNoBoth s (routeTagged u g w f s) := by
  unfold routeTagged
  split
  · exact (onPort_sameTables s _ _).losesNoBoth
  · next taken =>
    have stored := (admitReceived_sameTables taken).losesNoBoth
    split
    next h v _ i d x e =>
    have screened := screen_losesNoBoth g (sourceOf f) v
    rw [e] at screened
    exact (stored.trans screened).trans (routeVerdict_losesNoBoth u _ _ _ g w f _)

theorem uplinkRouting_losesNoBoth (u : Uplink) (g : Option Tag) (w : Walk) (f : List Octet) (s : State) :
    LosesNoBoth s (uplinkRouting u g w f s) := by
  unfold uplinkRouting
  split
  · exact (onPort_sameTables s _ _).losesNoBoth
  · split
    · exact .refl s
    · split
      · exact routeTagged_losesNoBoth u _ w f s
      · exact (routeUntagged_sameTables u w f s).losesNoBoth

theorem uplinkBody_losesNoBoth (u : Uplink) (w : Walk) (f : List Octet) (s : State) :
    LosesNoBoth s (uplinkBody u w f s) := by
  unfold uplinkBody uplinkTagTests
  split
  · split
    · exact (onPort_sameTables s _ _).losesNoBoth
    · split
      · exact (takeOwnPresence_sameTables u _ s).losesNoBoth
      · split
        · exact (onPort_sameTables s _ _).losesNoBoth
        · exact uplinkRouting_losesNoBoth u _ w f s
  · exact uplinkRouting_losesNoBoth u none w f s

theorem uplinkIntake_losesNoBoth (u : Uplink) (f : List Octet) (s : State) : LosesNoBoth s (uplinkIntake u f s) := by
  refine .trans (t := countReceived (uplinkPort u) s) (onPort_sameTables s _ _).losesNoBoth ?_
  unfold uplinkIntake uplinkTests
  dsimp only
  split
  · exact (onPort_sameTables _ _ _).losesNoBoth
  · split
    · exact (onPort_sameTables _ _ _).losesNoBoth
    · split
      · exact (onPort_sameTables _ _ _).losesNoBoth
      · exact uplinkBody_losesNoBoth u _ f _

theorem routeBay_losesNoBoth (w : Walk) (f : List Octet) (s : State) : LosesNoBoth s (routeBay w f s) := by
  unfold routeBay bayRequest bayFrame
  split
  · split
    · split
      · exact (onPort_sameTables _ _ _).losesNoBoth
      · next taken => exact (admitReceived_sameTables taken).losesNoBoth.trans (serveFrame_losesNoBoth .b _ w f _)
    · exact (onPort_sameTables _ _ _).losesNoBoth
  · split
    · exact (onPort_sameTables _ _ _).losesNoBoth
    · next taken => exact (admitReceived_sameTables taken).losesNoBoth.trans (pairBayFrame_losesNoBoth _ _ _ _ _)

theorem bayIntake_losesNoBoth (f : List Octet) (s : State) : LosesNoBoth s (bayIntake f s) := by
  refine .trans (t := countReceived .b s) (onPort_sameTables s _ _).losesNoBoth ?_
  unfold bayIntake bayTests
  split
  · exact (onPort_sameTables _ _ _).losesNoBoth
  · split
    · exact (onPort_sameTables _ _ _).losesNoBoth
    · split
      · exact (onPort_sameTables _ _ _).losesNoBoth
      · split
        · exact .refl _
        · split
          · exact (honorPause_sameTables _ f _).losesNoBoth
          · exact routeBay_losesNoBoth _ f _

/-! ### The scanner, the clock and each command -/

theorem scanTables_losesNoBoth (s : State) : LosesNoBoth s (scanTables s) := by
  have bucket : ∀ v, LosesNoBoth v (visitBucket v) := fun v =>
    (LosesNoBoth.foldl visitWay_losesNoBoth _ v).trans (.of_entries rfl)
  have origin : ∀ v, LosesNoBoth v (visitOriginCursor v) := fun v =>
    .trans (.of_filter (visitOrigin_pairing v.filter.originCursor.val v).filter) (.of_entries rfl)
  exact .trans (t := s.onFilter fun f => { f with scanTimer := some 500 }) (.of_entries rfl)
    ((bucket _).trans (origin _))

theorem idle_losesNoBoth (s : State) : LosesNoBoth s (idle s) := by
  unfold idle
  split
  · exact .refl s
  · split
    · next f rest _ =>
      exact (LosesNoBoth.trans (t := { s with reports := rest }) (.of_filter rfl)
        (takeReport_losesNoBoth f _)).then_same
        (finish_sameTables _)
    · exact (tick_sameTables s).losesNoBoth

theorem outOfReset_losesNoBoth (kept : LosesNoBoth s t) : LosesNoBoth s (outOfReset s (finish t)) := by
  unfold outOfReset
  split
  · exact kept.then_same (finish_sameTables t)
  · exact .refl s

theorem whenServing_losesNoBoth {v : State} (idle : SameTables s t) (kept : LosesNoBoth t v) :
    LosesNoBoth s (whenServing t (finish v)) := by
  unfold whenServing
  split
  · exact (idle.losesNoBoth.trans kept).then_same (finish_sameTables v)
  · exact idle.losesNoBoth

theorem whileRunning_losesNoBoth (timer : Timer) (kept : LosesNoBoth s t) :
    LosesNoBoth s (whileRunning timer s (finish t)) := by
  unfold whileRunning
  split
  · exact outOfReset_losesNoBoth kept
  · exact .refl s

theorem request_losesNoBoth (k : ReqKind) (r : Request) : LosesNoBoth s (whenServing s (finish (serve k r s))) :=
  whenServing_losesNoBoth (.refl s) (serve_losesNoBoth k r s)

theorem exec_losesNoBoth (c : Instr) (next : exec c s = .next t) : LosesNoBoth s t := by
  cases c <;> obtain rfl := Host.Outcome.next.inj next
  case chipReset => exact .of_empty rfl
  case chipResetRelease straps => split <;> exact .of_filter rfl
  case uplinkArrival u f => exact outOfReset_losesNoBoth (uplinkIntake_losesNoBoth u f s)
  case bayArrival f => exact outOfReset_losesNoBoth (bayIntake_losesNoBoth f s)
  case linkStateDown u =>
    exact whenServing_losesNoBoth (onUplink_sameTables s u _) (followPhy_sameTables u _).losesNoBoth
  case linkStateUp u =>
    exact whenServing_losesNoBoth (onUplink_sameTables s u _) (followPhy_sameTables u _).losesNoBoth
  case pauseRefreshTimerExpiry => exact whileRunning_losesNoBoth _ (refreshPause_sameTables s).losesNoBoth
  case receivedPauseTimerExpiry => exact whileRunning_losesNoBoth _ (.of_filter rfl)
  case tableScannerTimerExpiry => exact whileRunning_losesNoBoth _ (scanTables_losesNoBoth s)
  case presenceTimerExpiry =>
    exact whileRunning_losesNoBoth _ ((buildPresence_losesNoBoth s).trans (.of_filter rfl))
  case noticeTimerExpiry => exact whileRunning_losesNoBoth _ (.of_filter rfl)
  case quietTimerExpiry =>
    exact whileRunning_losesNoBoth _ (.trans (.trans (t := s.onLoader fun l =>
      { l with part := .run, quietTimer := none }) (.of_filter rfl) (buildPresence_losesNoBoth _)) (.of_filter rfl))
  case loadEnd eeprom =>
    split
    · exact outOfReset_losesNoBoth ((applyLoad_losesNoBoth _ s).then_same (enterQuiet_sameTables _))
    · exact .refl s
  case reloadEnd eeprom =>
    split
    · exact whenServing_losesNoBoth (.refl s) (applyReload_losesNoBoth _ s)
    · exact .refl s
  case uplinkTransmissionComplete u =>
    split
    · exact outOfReset_losesNoBoth (completeCopy_sameTables u _ s).losesNoBoth
    · exact .refl s
  case bayTransmissionComplete =>
    split
    · exact outOfReset_losesNoBoth (completeBay_sameTables _ _ s).losesNoBoth
    · exact .refl s
  case pauseFrameComplete =>
    split
    · exact outOfReset_losesNoBoth (completePause_sameTables _ s).losesNoBoth
    · exact .refl s
  case faultReport f =>
    exact outOfReset_losesNoBoth (.trans (t := { s with reports := s.reports.erase f }) (.of_filter rfl)
      (takeReport_losesNoBoth f _))
  case read r => exact request_losesNoBoth .read r
  case write r => exact request_losesNoBoth .write r
  case entryRead r => exact request_losesNoBoth .entryRead r
  case entryPin r => exact request_losesNoBoth .entryPin r
  case entryUnpin r => exact request_losesNoBoth .entryUnpin r
  case entryRemove r => exact request_losesNoBoth .entryRemove r
  case originRead r => exact request_losesNoBoth .originRead r
  case originPin r => exact request_losesNoBoth .originPin r
  case originRemove r => exact request_losesNoBoth .originRemove r
  case slotStage r => exact request_losesNoBoth .slotStage r
  case slotApply r => exact request_losesNoBoth .slotApply r
  case inject r => exact request_losesNoBoth .inject r
  case faultAck r => exact request_losesNoBoth .faultAck r
  case clearCounters r => exact request_losesNoBoth .clearCounters r
  case flushTable r => exact request_losesNoBoth .flushTable r
  case reload r => exact request_losesNoBoth .reload r
  case resetPort r => exact request_losesNoBoth .reset r
  case resetEngine r => exact request_losesNoBoth .reset r

theorem step_losesNoBoth (next : step s = .next t) : LosesNoBoth s t := by
  unfold step at next
  split at next
  · next c rest _ => exact .trans (t := { s with pending := rest }) (.of_filter rfl) (exec_losesNoBoth c next)
  · obtain rfl := Host.Outcome.next.inj next
    exact idle_losesNoBoth s

end

/-- Settles O53: an entry is written with the Path States it had, or made new, or its path is found LOST by an arrival
on the other, which is then PRESENT. -/
theorem noEntryLosesBothPaths : Obligations.NoEntryLosesBothPaths := by
  unfold Obligations.NoEntryLosesBothPaths
  exact fun s t inv next => (step_losesNoBoth next).pathInv inv

end Sys2Proof.Machine

/-! SUPPORT. Health of an entry (R95) and its place in ENTRY-READ (R176). -/

namespace Sys2Proof.Machine

/-- Health by the Path States of path 1 and path 2 (R95). -/
def healthOf : PathState → PathState → Nat
  | _, .lost => 2
  | .lost, _ => 3
  | .present, .present => 1
  | _, _ => 0

theorem health_eq_healthOf (e : Entry) : e.health = healthOf e.path1.state e.path2.state := by
  unfold Entry.health
  cases e.path1.state <;> cases e.path2.state <;> rfl

/-- The four values of Health exclude each other where not both paths are LOST (R95). -/
theorem healthOf_values (a b : PathState) (once : ¬ (a = .lost ∧ b = .lost)) :
    (healthOf a b = 1 ↔ a = .present ∧ b = .present) ∧ (healthOf a b = 2 ↔ b = .lost) ∧
    (healthOf a b = 3 ↔ a = .lost) ∧
    (healthOf a b = 0 ↔ a ≠ .lost ∧ b ≠ .lost ∧ (a = .unseen ∨ b = .unseen)) := by
  cases a <;> cases b <;> simp [healthOf] at once ⊢

/-- Settles O50: each pair of Path States has one value of Health, which stands fifth in part A. -/
theorem healthFollowsThePaths : Obligations.HealthFollowsThePaths := by
  unfold Obligations.HealthFollowsThePaths
  intro e now once
  obtain ⟨both, single1, single2, pending⟩ := healthOf_values _ _ once
  rw [health_eq_healthOf]
  exact ⟨both, single1, single2, pending, congrArg (fun n => some (val n)) (health_eq_healthOf e), rfl, rfl⟩

end Sys2Proof.Machine

/-! SUPPORT. A path arrival (R91 to R93) and the networks it has judged (R96 to R98): what each judgement leaves of the
summary counts, the Suspect flags and the notices. -/

namespace Sys2Proof.Machine

/-! ### A network's count changed and judged (R96, R97) -/

/-- Network `n`'s count set to `v`, and the network judged (R96, R97). -/
def countAndJudge (n : Uplink) (v : Nat) (s : State) : State := judgeNetwork n (s.onFilter fun f => f.setLostCount n v)

theorem raiseLost_eq (n : Uplink) (s : State) : raiseLost n s = countAndJudge n (s.filter.lostCount n + 1) s := rfl

theorem lowerLost_eq (n : Uplink) (s : State) : lowerLost n s = countAndJudge n (s.filter.lostCount n - 1) s := rfl

/-- From `s` to `x` network `n`'s count is set to `v` and judged, and its event raised where its flag changes. -/
structure CountJudged (n : Uplink) (v : Nat) (s x : State) : Prop where
  rest : x = { s with filter := x.filter, notices := x.notices }
  filter : x.filter = (s.filter.setLostCount n v).setSuspect n (x.filter.suspect n)
  suspect : x.filter.suspect n = suspectAfter s.settings.suspectThreshold v (s.filter.suspect n)
  notices : x.notices = (networkEvents [n] s x).foldl Notices.add s.notices

/-- The event of a network joins the Notice Queue where its flag has changed. -/
theorem foldl_networkEvents_one (n : Uplink) (s x : State) (l : Notices) :
    (networkEvents [n] s x).foldl Notices.add l = l.addIf (x.filter.suspect n != s.filter.suspect n)
      (networkEvent n (x.filter.suspect n) (x.filter.lostCount n) s.stationTime) := by
  unfold networkEvents Notices.addIf
  cases changed : x.filter.suspect n != s.filter.suspect n <;> simp [changed, networkEvent]

/-- The terms that an event reads are those of the state before and of the flags and counts after. -/
theorem networkEvents_congr {n : Uplink} {s s' x x' : State} (time : s'.stationTime = s.stationTime)
    (before : s'.filter.suspect n = s.filter.suspect n) (after : x'.filter.suspect n = x.filter.suspect n)
    (count : x'.filter.lostCount n = x.filter.lostCount n) : networkEvents [n] s' x' = networkEvents [n] s x := by
  unfold networkEvents
  simp only [List.filter_cons, List.filter_nil, before, after]
  split <;> simp [time, after, count]

theorem countJudged (n : Uplink) (v : Nat) (s : State) : CountJudged n v s (countAndJudge n v s) := by
  have whole : countAndJudge n v s = _ := judgeNetwork_eq n (s.onFilter fun f => f.setLostCount n v)
  generalize countAndJudge n v s = x at whole
  have count : (s.filter.setLostCount n v).lostCount n = v := by cases n <;> rfl
  have flag : (s.filter.setLostCount n v).suspect n = s.filter.suspect n := by cases n <;> rfl
  simp only [State.onFilter_filter, State.onFilter_settings, State.onFilter_notices, State.onFilter_stationTime, count,
    flag] at whole
  have suspect : x.filter.suspect n = suspectAfter s.settings.suspectThreshold v (s.filter.suspect n) := by
    rw [whole]
    cases n <;> rfl
  have counted : x.filter.lostCount n = v := by
    rw [whole]
    cases n <;> rfl
  refine ⟨by rw [whole]; rfl, by rw [suspect, whole], suspect, ?_⟩
  rw [foldl_networkEvents_one, suspect, counted, whole]

section
variable {n : Uplink} {v : Nat} {s x : State}

theorem CountJudged.count (judged : CountJudged n v s x) : x.filter.lostCount n = v := by
  rw [judged.filter]
  cases n <;> rfl

/-- The other network is not touched. -/
theorem CountJudged.other (judged : CountJudged n v s x) :
    x.filter.lostCount (other n) = s.filter.lostCount (other n) ∧
    x.filter.suspect (other n) = s.filter.suspect (other n) := by
  rw [judged.filter]
  cases n <;> exact ⟨rfl, rfl⟩

theorem CountJudged.entries (judged : CountJudged n v s x) : x.filter.entries = s.filter.entries := by
  rw [judged.filter]
  cases n <;> rfl

theorem CountJudged.counters (judged : CountJudged n v s x) : x.filter.counters = s.filter.counters := by
  rw [judged.filter]
  cases n <;> rfl

theorem CountJudged.notices_of_same (judged : CountJudged n v s x) (same : x.filter.suspect n = s.filter.suspect n) :
    x.notices = s.notices := by
  rw [judged.notices, foldl_networkEvents_one, same, bne_self_eq_false]
  rfl

theorem CountJudged.notices_of_changed (judged : CountJudged n v s x)
    (changed : x.filter.suspect n ≠ s.filter.suspect n) :
    x.notices = s.notices.add (networkEvent n (x.filter.suspect n) (x.filter.lostCount n) s.stationTime) := by
  rw [judged.notices, foldl_networkEvents_one, bne_iff_ne.mpr changed]
  rfl

end

/-- A written threshold has both networks judged, Network 2 first (R98, log 18). -/
theorem judgeNetworks_eq (s : State) : ∃ x, x = judgeNetworks s ∧
    x = { s with filter := x.filter, notices := x.notices } ∧
    (∀ n, x.filter.lostCount n = s.filter.lostCount n ∧
      x.filter.suspect n =
        suspectAfter s.settings.suspectThreshold (s.filter.lostCount n) (s.filter.suspect n)) ∧
    x.notices = (networkEvents [.u2, .u1] s x).foldl Notices.add s.notices := by
  refine ⟨_, rfl, ?_⟩
  rw [judgeNetworks, judgeNetwork_eq, judgeNetwork_eq, foldl_networkEvents]
  exact ⟨rfl, fun n => by cases n <;> exact ⟨rfl, rfl⟩, rfl⟩

/-! ### One path brought up to date (R92, R93) -/

/-- From `s` to `x` the path of an entry `e` of number `i` to network `n` is brought up to date. With `changed` it went
to or from LOST: the event of kind `k` with miss run `run` is raised, the filter counters become `c`, and the network's
count becomes `v` and is judged. -/
structure PathUpdated (i : Nat) (n : Uplink) (changed : Bool) (v : Nat) (k : EventKind) (run : Nat) (c : FilterCounters)
    (e : Entry) (s x : State) : Prop where
  count : x.filter.lostCount n = if changed then v else s.filter.lostCount n
  suspect : x.filter.suspect n =
    if changed then suspectAfter s.settings.suspectThreshold (x.filter.lostCount n) (s.filter.suspect n)
    else s.filter.suspect n
  otherCount : x.filter.lostCount (other n) = s.filter.lostCount (other n)
  otherSuspect : x.filter.suspect (other n) = s.filter.suspect (other n)
  counters : x.filter.counters = if changed then c else s.filter.counters
  notices : x.notices = (([(n, k, run)].filter fun _ => changed).map (pathEvent i e s.stationTime) ++
    networkEvents [n] s x).foldl Notices.add s.notices

section
variable {i : Nat} {n : Uplink} {k : EventKind} {run v : Nat} {c : FilterCounters} {e : Entry} {s : State}

theorem pathUpdated_refl : PathUpdated i n false v k run c e s s := by
  refine ⟨rfl, rfl, rfl, rfl, rfl, ?_⟩
  rw [List.foldl_append, foldl_networkEvents_one, bne_self_eq_false]
  rfl

/-- A path that stays LOST or stays not LOST raises nothing. -/
theorem pathUpdated_of_kept (d : Entry) : PathUpdated i n false v k run c e s (putEntry i d s) := by
  have flags : ∀ m, (putEntry i d s).filter.suspect m = s.filter.suspect m := fun m => by cases m <;> rfl
  have counts : ∀ m, (putEntry i d s).filter.lostCount m = s.filter.lostCount m := fun m => by cases m <;> rfl
  refine ⟨counts n, flags n, counts _, flags _, rfl, ?_⟩
  rw [List.foldl_append, foldl_networkEvents_one, flags, bne_self_eq_false]
  rfl

/-- A path that changes has its event raised, the count of its network set, and the network judged. -/
theorem pathUpdated_of_changed {v' detail : Nat} (d : Entry) (same : v' = v) (place : detail = i * 256 + run) :
    PathUpdated i n true v k run c e s
    (countAndJudge n v' ((raise k (pathNumber n) (some e.cls) detail e.addr (putEntry i d s)).onFilter fun f =>
      { f with counters := c })) := by
  subst same place
  have judged := countJudged n v'
    ((raise k (pathNumber n) (some e.cls) (i * 256 + run) e.addr (putEntry i d s)).onFilter fun f =>
      { f with counters := c })
  generalize countAndJudge n v' _ = x at judged
  have raised := judged.notices
  refine ⟨judged.count, ?_, judged.other.1.trans ?_, judged.other.2.trans ?_, judged.counters, ?_⟩
  · rw [judged.suspect, judged.count]
    cases n <;> rfl
  · cases n <;> rfl
  · cases n <;> rfl
  · rw [raised, List.foldl_append]
    exact congrArg (List.foldl Notices.add _ ·) (networkEvents_congr rfl (by cases n <;> rfl) rfl rfl)

end

/-- The arriving path is PRESENT, and restored where it was LOST (R92). -/
theorem arrivingPath_updated {i : Nat} {e : Entry} {s : State} (p : Uplink) (held : entryOf s i = some e) :
    PathUpdated i p (e.isLost p) (s.filter.lostCount p - 1) .pathRestored 0
      { s.filter.counters with pathsRestored := s.filter.counters.pathsRestored + 1 } e s (arrivingPath i p s) := by
  simp only [arrivingPath, held]
  split
  · next unseen =>
    have kept : e.isLost p = false := by rw [Entry.isLost, unseen]; rfl
    rw [kept]
    exact pathUpdated_of_kept _
  · next present =>
    have kept : e.isLost p = false := by rw [Entry.isLost, present]; rfl
    rw [kept]
    exact pathUpdated_of_kept _
  · next lost =>
    have was : e.isLost p = true := by rw [Entry.isLost, lost]; rfl
    rw [was, lowerLost_eq]
    exact pathUpdated_of_changed _ (congrArg (· - 1) (by cases p <;> rfl)) (Nat.add_zero _).symm

/-- The other path is LOST once it has failed (R93). -/
theorem judgePath_updated {i : Nat} {e : Entry} {s : State} (q : Uplink) (held : entryOf s i = some e) :
    PathUpdated i q (!e.isLost q && e.failed q s.settings.missLimit s.stationTime) (s.filter.lostCount q + 1) .pathLost
      (e.path q).missRun.toNat { s.filter.counters with pathsLost := s.filter.counters.pathsLost + 1 } e s
      (judgePath i q s) := by
  simp only [judgePath, held]
  split
  · next falls =>
    rw [falls.1, falls.2, raiseLost_eq]
    exact pathUpdated_of_changed _ (congrArg (· + 1) (by cases q <;> rfl)) rfl
  · next stays =>
    have same : (!e.isLost q && e.failed q s.settings.missLimit s.stationTime) = false := by simpa using stays
    rw [same]
    exact pathUpdated_refl

/-! ### The entry after a path arrival (R91 to R93) -/

section
variable (e : Entry) (p : Uplink) (n : Nat) (now : Time)

theorem Entry.path_arrived_other : (e.arrived p now).path (other p) = e.path (other p) := by cases p <;> rfl

theorem Entry.isLost_arrived_other : (e.arrived p now).isLost (other p) = e.isLost (other p) := by cases p <;> rfl

theorem Entry.failed_arrived_other : (e.arrived p now).failed (other p) n now = e.failed (other p) n now := by
  cases p <;> rfl

/-- The other path is LOST just where it was or has failed (R93). -/
theorem Entry.path_judged (q : Uplink) : (e.judged q n now).path q =
    { e.path q with state := if e.isLost q || e.failed q n now then .lost else (e.path q).state } := by
  unfold judged
  split
  · next falls =>
    rw [falls.2, Bool.or_true]
    exact e.path_setPath q _
  · next stays =>
    split
    · next lost =>
      have was : e.isLost q = true := by
        cases up : e.isLost q
        · simp [up] at lost stays
          exact absurd lost (by simp [stays])
        · rfl
      have state : (e.path q).state = .lost := by simpa [Entry.isLost] using was
      rw [← state]
    · rfl

theorem Entry.isLost_judged (q : Uplink) : (e.judged q n now).isLost q = (e.isLost q || e.failed q n now) := by
  rw [isLost, path_judged]
  cases lost : e.isLost q || e.failed q n now
  · rw [Bool.or_eq_false_iff] at lost
    exact lost.1
  · rfl

end

/-- What a path arrival on `p` leaves of the entry (R91 to R93). -/
def Entry.afterArrival (e : Entry) (p : Uplink) (missLimit : Nat) (now : Time) : Entry :=
  (e.arrived p now).judged (other p) missLimit now

/-- Whether the other path becomes LOST (R93). -/
def Entry.loses (e : Entry) (q : Uplink) (missLimit : Nat) (now : Time) : Bool :=
  !e.isLost q && e.failed q missLimit now

theorem Entry.afterArrival_loses (e : Entry) (p : Uplink) (n : Nat) (now : Time) :
    ((e.afterArrival p n now).isLost (other p) && !e.isLost (other p)) = e.loses (other p) n now := by
  rw [afterArrival, isLost_judged, isLost_arrived_other, failed_arrived_other, loses]
  cases e.isLost (other p) <;> simp

section
variable {i : Nat} {e : Entry} {s : State}

/-- From `s` to `x` a path arrival on `p` at entry `i`, which is `e`, changed the summary: `restored` and `lost` say
whether path `p` was LOST and whether the other path becomes LOST. -/
structure SummaryUpdated (i : Nat) (p : Uplink) (e : Entry) (restored lost : Bool) (s x : State) : Prop where
  count : x.filter.lostCount p = s.filter.lostCount p - (if restored then 1 else 0)
  otherCount : x.filter.lostCount (other p) = s.filter.lostCount (other p) + (if lost then 1 else 0)
  suspect : x.filter.suspect p =
    if restored then suspectAfter s.settings.suspectThreshold (x.filter.lostCount p) (s.filter.suspect p)
    else s.filter.suspect p
  otherSuspect : x.filter.suspect (other p) =
    if lost then suspectAfter s.settings.suspectThreshold (x.filter.lostCount (other p)) (s.filter.suspect (other p))
    else s.filter.suspect (other p)
  counters : x.filter.counters = { s.filter.counters with
    pathsRestored := s.filter.counters.pathsRestored + (if restored then 1 else 0)
    pathsLost := s.filter.counters.pathsLost + (if lost then 1 else 0) }
  notices : x.notices =
    (([(p, EventKind.pathRestored, 0)].filter fun _ => restored).map (pathEvent i e s.stationTime) ++
      networkEvents [p] s x ++
      ([(other p, EventKind.pathLost, (e.path (other p)).missRun.toNat)].filter fun _ => lost).map
        (pathEvent i e s.stationTime) ++
      networkEvents [other p] s x).foldl Notices.add s.notices

theorem pathArrival_summary (p : Uplink) (held : entryOf s i = some e) :
    SummaryUpdated i p e (e.isLost p) (e.loses (other p) s.settings.missLimit s.stationTime) s (pathArrival i p s) := by
  have first := arrivingPath_updated p held
  have only := arrivingPath_filter i p s
  have middle : entryOf (arrivingPath i p s) i = some (e.arrived p s.stationTime) := by
    rw [entryOf_arrivingPath p held, if_pos rfl]
  have second := judgePath_updated (other p) middle
  rw [only.settings, only.stationTime, Entry.isLost_arrived_other, Entry.failed_arrived_other,
    Entry.path_arrived_other] at second
  change PathUpdated i (other p) (e.loses (other p) s.settings.missLimit s.stationTime) _ _ _ _ _ _
    (pathArrival i p s) at second
  generalize arrivingPath i p s = z at *
  generalize pathArrival i p s = x at *
  have back : other (other p) = p := by cases p <;> rfl
  have count := second.otherCount
  have flag := second.otherSuspect
  rw [back] at count flag
  have event : pathEvent i (e.arrived p s.stationTime) s.stationTime = pathEvent i e s.stationTime := by
    cases p <;> rfl
  refine ⟨?_, ?_, ?_, ?_, ?_, ?_⟩
  · rw [count, first.count]
    cases e.isLost p <;> rfl
  · rw [second.count, first.otherCount]
    cases e.loses (other p) s.settings.missLimit s.stationTime <;> rfl
  · rw [flag, count, first.suspect]
  · rw [second.suspect, first.otherSuspect, only.settings]
  · rw [second.counters, first.counters]
    cases e.isLost p <;> cases e.loses (other p) s.settings.missLimit s.stationTime <;> simp
  · rw [second.notices, first.notices, networkEvents_congr rfl rfl flag count,
      networkEvents_congr only.stationTime first.otherSuspect rfl rfl, only.stationTime, event,
      ← List.foldl_append]
    simp only [List.append_assoc]

end

/-! ### The skew event ahead of a path arrival (R64, R85) -/

theorem raiseSkew_eq (e : Entry) (ev : Option Bool) (s : State) :
    raiseSkew e ev s = { s with notices := (raiseSkew e ev s).notices } := by
  cases ev <;> rfl

theorem raiseSkew_some (e : Entry) (high : Bool) (s : State) : (raiseSkew e (some high) s).notices = s.notices.add
    { kind := if high then .skewHigh else .skewNormal, whr := BitVec.ofNat 8 (skewWhere (e.skewAverage.getD 0))
      cls := BitVec.ofNat 8 (classCode e.cls), detail := BitVec.ofInt 24 (e.skewAverage.getD 0)
      addr := e.addr, time := s.stationTime } := by
  rw [← detail24_ofNat]
  rfl

/-- The screening of a held entry, with the counters and the skew event that it leaves (R64, R85). -/
theorem screenedAt_eq (i : Nat) (t : Tag) (e : Entry) (s : State) : ∃ sc v ev,
    (sc, v, ev) = screenEntry s.settings s.stationTime t (screeningOf e s) ∧
    screenedAt i t e s =
      raiseSkew sc.entry ev ((putEntry i sc.entry s).onFilter fun f => { f with counters := sc.counters }) :=
  ⟨_, _, _, rfl, rfl⟩

/-! ### The statement -/

/-- Settles O49, by the path arrival's two steps, each of which updates one path and has one network judged. -/
theorem pathArrivalsUpdateBothPaths : Obligations.PathArrivalsUpdateBothPaths := by
  refine ⟨?_, ?_, ?_, fun s => judgeNetworks_eq s⟩
  · intro i p e s held
    have summary := pathArrival_summary p held
    have after := entryOf_pathArrival p held
    refine ⟨e.afterArrival p s.settings.missLimit s.stationTime, _, rfl, (after i).trans (if_pos rfl),
      (arrivingPath_filter i p s).trans (judgePath_filter i _ _), fun j differ => (after j).trans (if_neg differ),
      (e.arrived_pathsOnly p _).trans (Entry.judged_pathsOnly _ _ _ _),
      (Entry.path_judged_other _ p _ _).trans (e.path_setPath p _), ?_, summary.count, ?_, ?_, ?_, ?_⟩
    · rw [Entry.afterArrival, Entry.path_judged, Entry.isLost_arrived_other, Entry.failed_arrived_other,
        Entry.path_arrived_other, Entry.failed, Bool.or_assoc]
    · rw [Entry.afterArrival_loses]
      exact summary.otherCount
    · intro n
      by_cases which : n = p
      · subst which
        rw [summary.suspect]
        have count := summary.count
        cases restored : e.isLost n <;> simp_all
      · rw [eq_other_of_ne which, summary.otherSuspect]
        have count := summary.otherCount
        have differ : other p ≠ p := by cases p <;> decide
        cases lost : e.loses (other p) s.settings.missLimit s.stationTime <;> simp_all
    · rw [Entry.afterArrival_loses]
      exact summary.counters
    · rw [Entry.afterArrival_loses]
      exact summary.notices
  · intro i t e s held
    obtain ⟨sc, v, ev, result, written⟩ := screenedAt_eq i t e s
    have entries := entryOf_screenedAt (i := i) (t := t) (e := e) (s := s)
    have screened := screenAt_eq (t := t) held
    rw [← result] at entries screened
    refine ⟨sc, v, ev, screenedAt i t e s, result, screened, (entries i).trans (if_pos rfl),
      fun j differ => (entries j).trans (if_neg differ), ?_, ?_, ?_⟩
    · rw [written, raiseSkew_eq]
      rfl
    · rintro rfl
      rw [written]
      rfl
    · rintro high avg rfl rfl
      rw [written, raiseSkew_some]
      rfl
  · intro n s x either
    have raised := countJudged n (s.filter.lostCount n + 1) s
    have lowered := countJudged n (s.filter.lostCount n - 1) s
    rw [← raiseLost_eq] at raised
    rw [← lowerLost_eq] at lowered
    have judged : ∃ v, CountJudged n v s x := by
      obtain rfl | rfl := either
      · exact ⟨_, raised⟩
      · exact ⟨_, lowered⟩
    obtain ⟨v, judged⟩ := judged
    refine ⟨judged.rest, raised.count, lowered.count, judged.other.1, ?_, judged.other.2, judged.notices_of_same,
      judged.notices_of_changed⟩
    rw [judged.count]
    exact judged.suspect

end Sys2Proof.Machine

/-! SUPPORT. A link that goes down (R108, R109, R150, R151): what a row of releases leaves of the Frame Store and
reports (R32, R36, R37), what an abort and a flush of an uplink leave beside that, and the statement. -/

namespace Sys2Proof.Machine

/-! ### A row of releases (R32, R36, R37) -/

/-- What `n` releases leave of a handle: one in quarantine is kept, one that fails its check is quarantined, another
loses `n` references and is free where none is left. -/
def Handle.less (n : Nat) (r : Handle) : Option Handle :=
  if n = 0 ∨ r.quarantined = true then some r
  else if r.check ≠ 0 then some { r with quarantined := true }
  else if r.refs ≤ n then none
  else some { r with refs := r.refs - n }

theorem Handle.less_zero (r : Handle) : r.less 0 = some r := if_pos (.inl rfl)

theorem Handle.less_of_quarantined {r : Handle} (q : r.quarantined = true) (n : Nat) : r.less n = some r :=
  if_pos (.inr q)

theorem Handle.less_of_failing {r : Handle} {n : Nat} (some : n ≠ 0) (q : r.quarantined = false) (c : r.check ≠ 0) :
    r.less n = .some { r with quarantined := true } := by
  rw [less, if_neg (by simp [some, q]), if_pos c]

theorem Handle.less_of_last {r : Handle} {n : Nat} (some : n ≠ 0) (q : r.quarantined = false) (c : r.check = 0)
    (last : r.refs ≤ n) : r.less n = none := by
  simp [less, some, q, c, last]

theorem Handle.less_of_more {r : Handle} {n : Nat} (q : r.quarantined = false) (c : r.check = 0) (more : n < r.refs) :
    r.less n = some { r with refs := r.refs - n } := by
  unfold less
  split
  · next either =>
    obtain zero | quarantined := either
    · subst zero
      rfl
    · simp [q] at quarantined
  · rw [if_neg (by simp [c]), if_neg (by omega)]

/-- Releases add up. -/
theorem Handle.less_less (m n : Nat) (r : Handle) : (r.less m).bind (less n) = r.less (m + n) := by
  by_cases first : m = 0
  · subst first
    rw [less_zero, Nat.zero_add]
    rfl
  cases q : r.quarantined with
  | true =>
    rw [less_of_quarantined q, less_of_quarantined q]
    exact less_of_quarantined q n
  | false =>
    by_cases c : r.check = 0
    · by_cases last : r.refs ≤ m
      · rw [less_of_last first q c last, less_of_last (by omega) q c (by omega)]
        rfl
      · rw [less_of_more q c (by omega), Option.bind_some]
        by_cases none : n = 0
        · subst none
          exact (less_zero _).trans (less_of_more q c (by omega)).symm
        · by_cases all : r.refs ≤ m + n
          · rw [less_of_last (by omega) q c all]
            exact less_of_last none q c (show r.refs - m ≤ n by omega)
          · rw [less_of_more q c (by omega)]
            refine (less_of_more (r := { r with refs := r.refs - m }) q c (show n < r.refs - m by omega)).trans ?_
            exact congrArg some (congrArg (fun k => { r with refs := k }) (Nat.sub_sub _ _ _))
    · rw [less_of_failing first q c, less_of_failing (by omega) q c]
      exact less_of_quarantined rfl n

/-- The report of a handle that fails its check on a release by an uplink (R36). -/
def checkReport (u : Uplink) (h : Nat) : FaultReport :=
  { kind := .handleCheck, location := h, port := some (uplinkPort u), cls := none }

/-- Whether a block is still recorded, going by the handle that holds it (R28, R32). -/
def blockStays (s x : State) (k : Block) : Bool :=
  match k.owner with
  | .quarantined => true
  | .held h => (handleOf x h).isSome || (handleOf s h).isNone

/-- From `s` to `x` uplink `u` releases the handles of `l`, one reference for each time that it stands there. -/
structure Released (u : Uplink) (l : List Nat) (s x : State) : Prop where
  handles   : ∀ h, handleOf x h = (handleOf s h).bind (Handle.less (l.count h))
  reports   : x.reports = s.reports ++ (l.filter (fails s)).eraseDups.map (checkReport u)
  drops     : x.store.internalDrops = s.store.internalDrops
  canonical : StoreInv s → StoreInv x
  blocks    : l.any (fails s) = false → StoreInv s → ∀ b,
    Tbl.look x.store.blocks b = (Tbl.look s.store.blocks b).filter (blockStays s x)

section
variable {u : Uplink} {l m : List Nat} {s x y : State}

theorem blockStays_refl (k : Block) (same : ∀ h, handleOf x h = handleOf s h) : blockStays s x k = true := by
  unfold blockStays
  split
  · rfl
  · next h _ =>
    rw [same]
    cases handleOf s h <;> rfl

/-- Where handles, blocks and reports are kept nothing is released. -/
theorem Released.of_kept (handles : x.store.handles = s.store.handles) (blocks : x.store.blocks = s.store.blocks)
    (drops : x.store.internalDrops = s.store.internalDrops) (reports : x.reports = s.reports) :
    Released u [] s x := by
  have same : ∀ h, handleOf x h = handleOf s h := fun h => by rw [handleOf, handleOf, handles]
  refine ⟨fun h => ?_, by rw [reports]; exact (List.append_nil _).symm, drops, fun inv => ?_, fun _ _ b => ?_⟩
  · rw [same]
    cases handleOf s h with
    | none => rfl
    | some r => exact r.less_zero.symm
  · exact inv.of_store blocks handles
  · rw [blocks]
    cases Tbl.look s.store.blocks b with
    | none => rfl
    | some k => rw [Option.filter_some, if_pos (blockStays_refl k same)]

/-- A handle that is not released is kept. -/
theorem Released.kept (a : Released u l s x) {h : Nat} (out : h ∉ l) : handleOf x h = handleOf s h := by
  rw [a.handles, List.count_eq_zero_of_not_mem out]
  cases handleOf s h with
  | none => rfl
  | some r => exact r.less_zero

/-- A free handle stays free. -/
theorem Released.free (a : Released u l s x) {h : Nat} (free : handleOf s h = none) : handleOf x h = none := by
  rw [a.handles, free]
  rfl

/-- A handle that fails its check is in quarantine once it is released, and no other comes to fail it. -/
theorem Released.fails_eq (a : Released u l s x) (h : Nat) : fails x h = (fails s h && !decide (h ∈ l)) := by
  by_cases mem : h ∈ l
  · have named : l.count h ≠ 0 := by
      rw [Ne, List.count_eq_zero]
      exact fun out => out mem
    rw [fails, a.handles]
    simp only [mem, decide_true, Bool.not_true, Bool.and_false]
    cases handleOf s h with
    | none => rfl
    | some r =>
      rw [Option.bind_some]
      cases q : r.quarantined with
      | true => simp [Handle.less_of_quarantined q, q]
      | false =>
        by_cases c : r.check = 0
        · by_cases last : r.refs ≤ l.count h
          · rw [Handle.less_of_last named q c last]
            rfl
          · rw [Handle.less_of_more q c (by omega)]
            simp [c]
        · rw [Handle.less_of_failing named q c]
          rfl
  · rw [fails, a.kept mem]
    simp [fails, mem]

/-- A block is recorded after two rows of releases where it is after each. -/
theorem Released.stays_trans (a : Released u l s y) (b : Released u m y x) (k : Block) :
    (blockStays s y k && blockStays y x k) = blockStays s x k := by
  unfold blockStays
  split
  · rfl
  · next h _ =>
    cases first : handleOf s h with
    | none => rw [b.free (a.free first), a.free first]; rfl
    | some r =>
      cases second : handleOf y h with
      | none => rw [b.free second]; rfl
      | some g => simp

theorem Released.trans (a : Released u l s y) (b : Released u m y x) : Released u (l ++ m) s x := by
  refine ⟨fun h => ?_, ?_, ?_, fun inv => b.canonical (a.canonical inv), fun quiet inv block => ?_⟩
  · rw [b.handles, a.handles, Option.bind_assoc, List.count_append]
    exact congrArg _ (funext fun r => Handle.less_less _ _ r)
  · have fresh : m.filter (fails y) = (m.filter (fails s)).removeAll (l.filter (fails s)) := by
      rw [List.removeAll, List.filter_filter]
      refine List.filter_congr fun h _ => ?_
      rw [a.fails_eq]
      cases bad : fails s h <;> simp [bad]
    rw [b.reports, a.reports, List.filter_append, List.eraseDups_append, ← fresh, List.map_append, List.append_assoc]
  · rw [b.drops, a.drops]
  · rw [List.any_append, Bool.or_eq_false_iff] at quiet
    have later : m.any (fails y) = false := by
      rw [List.any_eq_false]
      intro h mem
      rw [a.fails_eq, Bool.eq_false_iff.mpr (List.any_eq_false.mp quiet.2 h mem)]
      simp
    rw [b.blocks later (a.canonical inv), a.blocks quiet.1 inv]
    rw [Option.filter_filter]
    exact congrArg (Option.filter · _) (funext fun k => Released.stays_trans a b k)

theorem isQuarantined_of_some {r : Handle} {h : Nat} (live : handleOf s h = some r) :
    isQuarantined s h = r.quarantined := by
  rw [isQuarantined, live]

theorem release_of_quarantined {p : Option Port} {h : Nat} (q : isQuarantined s h = true) : release p h s = s := by
  obtain ⟨_, e⟩ | ⟨r, live, ⟨_, e⟩ | ⟨not, _⟩ | ⟨not, _⟩ | ⟨not, _⟩⟩ := release_cases p h s
  · exact e
  · exact e
  all_goals
    rw [isQuarantined_of_some live, not] at q
    exact absurd q (by decide)

theorem count_singleton_ne {h n : Nat} (differ : n ≠ h) : [h].count n = 0 :=
  List.count_eq_zero_of_not_mem (by simpa using differ)

/-- A release of one handle, by what it leaves of that handle. -/
theorem Released.of_one {h : Nat} (others : ∀ n, n ≠ h → handleOf x n = handleOf s n)
    (self : handleOf x h = (handleOf s h).bind (Handle.less 1))
    (reports : x.reports = s.reports ++ if fails s h then [checkReport u h] else [])
    (drops : x.store.internalDrops = s.store.internalDrops) (canonical : StoreInv s → StoreInv x)
    (blocks : fails s h = false → StoreInv s → ∀ b,
      Tbl.look x.store.blocks b = (Tbl.look s.store.blocks b).filter (blockStays s x)) : Released u [h] s x := by
  refine ⟨fun n => ?_, ?_, drops, canonical, fun quiet => blocks (by simpa using quiet)⟩
  · by_cases same : n = h
    · subst same
      rw [self, List.count_singleton_self]
    · rw [others n same, count_singleton_ne same]
      cases handleOf s n with
      | none => rfl
      | some r => exact r.less_zero.symm
  · rw [reports]
    cases bad : fails s h <;> simp [bad, List.eraseDups_cons]

theorem fails_of_some {r : Handle} {h : Nat} (live : handleOf s h = some r) :
    fails s h = (!r.quarantined && r.check != 0) := by
  rw [fails, live]
  rfl

/-- Blocks stay where the handles are the same or the block table is the same and no handle leaves. -/
theorem blocks_stay_of_same (blocks : x.store.blocks = s.store.blocks)
    (live : ∀ h, handleOf x h = none → handleOf s h = none) (b : Nat) :
    Tbl.look x.store.blocks b = (Tbl.look s.store.blocks b).filter (blockStays s x) := by
  rw [blocks]
  cases Tbl.look s.store.blocks b with
  | none => rfl
  | some k =>
    have stays : blockStays s x k = true := by
      unfold blockStays
      split
      · rfl
      · next h _ =>
        cases now : handleOf x h with
        | none => rw [live h now]; rfl
        | some r => rfl
    rw [Option.filter_some, if_pos stays]

/-- A release by an uplink (R32, R36, R37). -/
theorem release_released (u : Uplink) (h : Nat) (s : State) : Released u [h] s (release (some (uplinkPort u)) h s) := by
  have others : ∀ n, n ≠ h → handleOf (release (some (uplinkPort u)) h s) n = handleOf s n :=
    fun n differ => handleOf_release_ne _ s differ
  have canonical : StoreInv s → StoreInv (release (some (uplinkPort u)) h s) :=
    fun inv => storeInv_release inv _ h
  obtain ⟨free, e⟩ | ⟨r, live, ⟨q, e⟩ | ⟨q, c, e⟩ | ⟨q, c, last, e⟩ | ⟨q, c, more, e⟩⟩ :=
    release_cases (some (uplinkPort u)) h s <;> rw [e] at others canonical ⊢
  · have quiet : fails s h = false := by rw [fails, free]; rfl
    refine .of_one others (by rw [free]; rfl) (by simp [quiet]) rfl canonical fun _ _ =>
      blocks_stay_of_same rfl fun _ => id
  · have quiet : fails s h = false := by rw [fails_of_some live, q]; rfl
    refine .of_one others ?_ (by simp [quiet]) rfl canonical fun _ _ => blocks_stay_of_same rfl fun _ => id
    rw [live]
    exact (Handle.less_of_quarantined q 1).symm
  · have bad : fails s h = true := by rw [fails_of_some live, q, bne_iff_ne.mpr c]; rfl
    refine .of_one others ?_ (by rw [bad]; rfl) rfl canonical fun quiet => ?_
    · rw [handleOf_quarantineHandle, if_pos rfl, live]
      exact (Handle.less_of_failing Nat.one_ne_zero q c).symm
    · rw [bad] at quiet
      exact absurd quiet (by decide)
  · have quiet : fails s h = false := by simp [fails_of_some live, c]
    refine .of_one others ?_ (by simp [quiet, freeHandle]) (by simp [freeHandle]) canonical fun _ inv b => ?_
    · rw [handleOf_freeHandle, if_pos rfl, live]
      exact (Handle.less_of_last Nat.one_ne_zero q c last).symm
    · rw [look_freeHandle inv]
      refine congrArg (Option.filter · _) (funext fun k => ?_)
      unfold blockStays
      split
      · next owner => rw [owner]; rfl
      · next n owner =>
        rw [owner, handleOf_freeHandle]
        by_cases same : n = h
        · subst same
          simp [live]
        · have differ : (BlockOwner.held n != BlockOwner.held h) = true := by simpa using same
          rw [differ, if_neg same]
          cases handleOf s n <;> rfl
  · have quiet : fails s h = false := by simp [fails_of_some live, c]
    have writes : handleOf (writeHandle h (fun r => { r with refs := r.refs - 1 }) s) h =
        some { r with refs := r.refs - 1 } := by
      rw [handleOf_writeHandle, if_pos rfl, live, ← c]
      rfl
    refine .of_one others ?_ ?_ ?_ canonical fun _ _ => blocks_stay_of_same (writeHandle_blocks _ _ _) fun n now => ?_
    · rw [writes, live]
      exact (Handle.less_of_more q c more).symm
    · simp [quiet, writeHandle, live]
    · simp [writeHandle, live]
    · by_cases same : n = h
      · subst same
        rw [writes] at now
        exact absurd now (by simp)
      · exact (others n same).symm.trans now

theorem Released.isQuarantined_eq (a : Released u l s x) {h : Nat} (holds : fails s h = false) :
    isQuarantined x h = isQuarantined s h := by
  unfold isQuarantined
  by_cases mem : h ∈ l
  · have named : l.count h ≠ 0 := by
      rw [Ne, List.count_eq_zero]
      exact fun out => out mem
    rw [a.handles]
    cases live : handleOf s h with
    | none => rfl
    | some r =>
      rw [Option.bind_some]
      cases q : r.quarantined with
      | true => simp [Handle.less_of_quarantined q, q]
      | false =>
        have c : r.check = 0 := by simpa [fails_of_some live, q] using holds
        by_cases last : r.refs ≤ l.count h
        · rw [Handle.less_of_last named q c last]
          exact q.symm
        · rw [Handle.less_of_more q c (by omega)]
  · rw [a.kept mem]

end

/-! ### What an uplink's abort and flush leave alone -/

/-- From `s` to `x` nothing differs of what an abort and a flush of uplink `u` leave alone: the other uplink with its
counters, the tables, the Notice Queue, Settings, Loader and Fault Unit. -/
structure OtherKept (u : Uplink) (s x : State) : Prop where
  uplink   : x.uplink (other u) = s.uplink (other u)
  port     : x.port (uplinkPort (other u)) = s.port (uplinkPort (other u))
  filter   : x.filter = s.filter
  pairing  : x.pairing = s.pairing
  presence : x.presence = s.presence
  notices  : x.notices = s.notices
  settings : x.settings = s.settings
  loader   : x.loader = s.loader
  faults   : x.faults = s.faults

section
variable {u : Uplink} {s y x : State}

theorem OtherKept.refl (u : Uplink) (s : State) : OtherKept u s s := ⟨rfl, rfl, rfl, rfl, rfl, rfl, rfl, rfl, rfl⟩

theorem OtherKept.trans (a : OtherKept u s y) (b : OtherKept u y x) : OtherKept u s x :=
  ⟨b.uplink.trans a.uplink, b.port.trans a.port, b.filter.trans a.filter, b.pairing.trans a.pairing,
    b.presence.trans a.presence, b.notices.trans a.notices, b.settings.trans a.settings, b.loader.trans a.loader,
    b.faults.trans a.faults⟩

theorem OnlyStorage.otherKept (only : OnlyStorage s x) (u : Uplink) : OtherKept u s x :=
  ⟨only.uplink _, only.port _, only.filter, only.pairing, only.presence, only.notices, only.settings, only.loader,
    only.faults⟩

theorem onUplink_otherKept (u : Uplink) (f : UplinkEgress → UplinkEgress) (s : State) :
    OtherKept u s (s.onUplink u f) := by
  refine ⟨by simp, by simp, ?_, ?_, ?_, ?_, ?_, ?_, ?_⟩ <;> cases u <;> rfl

theorem onPort_otherKept (u : Uplink) (f : PortCounters → PortCounters) (s : State) :
    OtherKept u s (s.onPort (uplinkPort u) f) := by
  refine ⟨by simp, State.onPort_port_other _ _ _ _ (by cases u <;> decide), ?_, ?_, ?_, ?_, ?_, ?_, ?_⟩ <;>
    cases u <;> rfl

end

/-! ### An abort (R150) -/

/-- From `s` to `x` uplink `u`'s transmission, if there is one, is aborted. -/
structure Aborted (u : Uplink) (s x : State) : Prop where
  released : Released u ((s.uplink u).tx.map fun t => t.handle).toList s x
  kept     : OtherKept u s x
  uplink   : x.uplink u = { s.uplink u with tx := none, sent := (x.uplink u).sent }
  port     : x.port (uplinkPort u) = { s.port (uplinkPort u) with
    transmitAborts := (s.port (uplinkPort u)).transmitAborts + (if (s.uplink u).tx.isSome then 1 else 0) }
  drops    : x.store.quarantineDrops = s.store.quarantineDrops

theorem release_quarantineDrops (p : Option Port) (h : Nat) (s : State) :
    (release p h s).store.quarantineDrops = s.store.quarantineDrops := by
  obtain ⟨_, e⟩ | ⟨r, live, ⟨_, e⟩ | ⟨_, _, e⟩ | ⟨_, _, _, e⟩ | ⟨_, _, _, e⟩⟩ := release_cases p h s <;> rw [e]
  · rfl
  · simp [freeHandle]
  · simp [writeHandle, live]

theorem Released.onUplink {u : Uplink} {l : List Nat} {s x : State} (a : Released u l s x) (v : Uplink)
    (f : UplinkEgress → UplinkEgress) : Released u l s (x.onUplink v f) := by
  have kept : Released u [] x (x.onUplink v f) := .of_kept (by simp) (by simp) (by simp) (by simp)
  have both := a.trans kept
  rwa [List.append_nil] at both

theorem abortCopy_aborted (u : Uplink) (s : State) : Aborted u s (abortCopy u s) := by
  unfold abortCopy
  split
  · next idle =>
    refine ⟨?_, .refl u s, ?_, ?_, rfl⟩
    · rw [idle]
      exact .of_kept rfl rfl rfl rfl
    · rw [← idle]
    · rw [idle]
      simp
  · next t sends =>
    generalize sent : (s.useFree.onUplink u fun e => { e with
        tx := none, sent := e.sent ++ [abortedOctets t.wire.octets (octetsOut t.wire s.freeUses)] }) = z
    have used : OtherKept u s s.useFree := ⟨by cases u <;> rfl, by cases u <;> rfl, rfl, rfl, rfl, rfl, rfl, rfl, rfl⟩
    have stopped : OtherKept u s z := sent ▸ used.trans (onUplink_otherKept u _ _)
    have storage : z.store = s.store := by rw [← sent, State.onUplink_store]; rfl
    have reports : z.reports = s.reports := by rw [← sent, State.onUplink_reports]; rfl
    have uplink : z.uplink u = { s.uplink u with tx := none, sent := (z.uplink u).sent } := by
      rw [← sent]
      cases u <;> rfl
    have port : z.port (uplinkPort u) = s.port (uplinkPort u) := by
      rw [← sent]
      cases u <;> rfl
    have only := release_storage (some (uplinkPort u)) t.handle z
    have nothing : Released u [] s z := .of_kept (by rw [storage]) (by rw [storage]) (by rw [storage]) reports
    have released := nothing.trans (release_released u t.handle z)
    refine ⟨?_, (stopped.trans (only.otherKept u)).trans (onPort_otherKept u _ _), ?_, ?_, ?_⟩
    · have counted : Released u [] (release (some (uplinkPort u)) t.handle z)
          ((releaseSent (uplinkPort u) t.handle z).onPort (uplinkPort u) fun c =>
            { c with transmitAborts := c.transmitAborts + 1 }) :=
        .of_kept (by simp [releaseSent]) (by simp [releaseSent]) (by simp [releaseSent]) (by simp [releaseSent])
      rw [sends]
      exact released.trans counted
    · rw [State.onPort_uplink, releaseSent, only.uplink]
      exact uplink
    · rw [State.onPort_port, releaseSent, only.port, port, sends]
      rfl
    · rw [State.onPort_store, releaseSent, release_quarantineDrops, storage]

/-! ### A flush (R151) -/

/-- From `s` to `x` the queue entries `l` of uplink `u` are removed by a flush. -/
structure EntriesFlushed (u : Uplink) (l : List QueueEntry) (s x : State) : Prop where
  released : Released u (l.map QueueEntry.handle) s x
  kept     : OtherKept u s x
  uplink   : x.uplink u = { s.uplink u with flushDrops := (x.uplink u).flushDrops }
  port     : x.port (uplinkPort u) = s.port (uplinkPort u)
  counted  : (x.uplink u).flushDrops + x.store.quarantineDrops =
    (s.uplink u).flushDrops + s.store.quarantineDrops + BitVec.ofNat 32 l.length
  drops    : (l.any fun e => fails s e.handle) = false → x.store.quarantineDrops = s.store.quarantineDrops +
    BitVec.ofNat 32 (l.countP fun e => isQuarantined s e.handle)

theorem EntriesFlushed.refl (u : Uplink) (s : State) : EntriesFlushed u [] s s :=
  ⟨.of_kept rfl rfl rfl rfl, .refl u s, rfl, rfl, by simp, fun _ => by simp⟩

/-- The quarantine drops of a flush, by what stood in quarantine before the releases that come first (R37). -/
theorem EntriesFlushed.drops_after {u : Uplink} {first : List Nat} {l : List QueueEntry} {s y x : State}
    (a : Released u first s y) (b : EntriesFlushed u l y x) (holds : ∀ e ∈ l, fails s e.handle = false) :
    x.store.quarantineDrops = y.store.quarantineDrops +
      BitVec.ofNat 32 (l.countP fun e => isQuarantined s e.handle) := by
  have later : (l.any fun e => fails y e.handle) = false := by
    rw [List.any_eq_false]
    intro e mem
    rw [a.fails_eq, holds e mem]
    simp
  have same : (l.countP fun e => isQuarantined y e.handle) = l.countP fun e => isQuarantined s e.handle :=
    List.countP_congr fun e mem => by rw [a.isQuarantined_eq (holds e mem)]
  rw [b.drops later, same]

theorem EntriesFlushed.cons {u : Uplink} {e : QueueEntry} {l : List QueueEntry} {s y x : State}
    (a : EntriesFlushed u [e] s y) (b : EntriesFlushed u l y x) : EntriesFlushed u (e :: l) s x := by
  refine ⟨a.released.trans b.released, a.kept.trans b.kept, ?_, b.port.trans a.port, ?_, fun quiet => ?_⟩
  · rw [b.uplink, a.uplink]
  · rw [b.counted, a.counted, add_assoc, ← BitVec.ofNat_add, ← List.length_append]
    rfl
  · rw [List.any_cons, Bool.or_eq_false_iff] at quiet
    have holds : ∀ g ∈ l, fails s g.handle = false := fun g mem =>
      Bool.eq_false_iff.mpr (List.any_eq_false.mp quiet.2 g mem)
    rw [b.drops_after a.released holds, a.drops (by simpa using quiet.1), add_assoc, ← BitVec.ofNat_add,
      ← List.countP_append]
    rfl

theorem flushQueueEntry_flushed (u : Uplink) (s : State) (e : QueueEntry) :
    EntriesFlushed u [e] s (flushQueueEntry u s e) := by
  have released := release_released u e.handle s
  have only := release_storage (some (uplinkPort u)) e.handle s
  have drops := release_quarantineDrops (some (uplinkPort u)) e.handle s
  unfold flushQueueEntry
  split
  · next q =>
    rw [release_of_quarantined q] at released
    have counted : Released u [] s (countQuarantineDrop s) := .of_kept rfl rfl rfl rfl
    have only := countQuarantineDrop_storage s
    refine ⟨released.trans counted, only.otherKept u, ?_, only.port u, ?_, fun _ => ?_⟩
    · rw [only.uplink]
    · rw [only.uplink, add_assoc]
      rfl
    · rw [List.countP_singleton, if_pos q]
      rfl
  · next free =>
    refine ⟨released.onUplink u _, (only.otherKept u).trans (onUplink_otherKept u _ _), ?_, ?_, ?_, fun _ => ?_⟩
    · rw [State.onUplink_uplink, only.uplink]
    · rw [State.onUplink_port, only.port]
    · rw [State.onUplink_uplink, State.onUplink_store, only.uplink, drops]
      simp only [List.length_singleton]
      bv_omega
    · rw [State.onUplink_store, drops, List.countP_singleton, if_neg free]
      simp

theorem flushEntries_flushed (u : Uplink) (l : List QueueEntry) (s : State) :
    EntriesFlushed u l s (l.foldl (flushQueueEntry u) s) := by
  induction l generalizing s with
  | nil => exact .refl u s
  | cons e l rest => exact (flushQueueEntry_flushed u s e).cons (rest _)

/-! ### A link that goes down (R108, R109) -/

/-- The handles that an uplink releases are those that it names. -/
theorem UplinkEgress.count_released (e : UplinkEgress) (h : Nat) : e.released.count h = e.naming h := by
  have sends : e.emptied.tx = e.tx := rfl
  rw [released, List.count_append, ← e.naming_emptied h, naming, sends]
  simp only [emptied, Queue.naming, List.countP_nil, allEntries]
  cases e.tx with
  | none => simp
  | some t => simp [List.count_singleton]

/-- What an abort and a flush of uplink `u` come to, by the row of their releases and what they count. -/
theorem flushed_of_released {u : Uplink} {s x : State} (released : Released u (s.uplink u).released s x)
    (counted : (x.uplink u).flushDrops + x.store.quarantineDrops = (s.uplink u).flushDrops + s.store.quarantineDrops +
      BitVec.ofNat 32 (s.uplink u).allEntries.length)
    (drops : (s.uplink u).released.any (fails s) = false → x.store.quarantineDrops = s.store.quarantineDrops +
      BitVec.ofNat 32 ((s.uplink u).allEntries.countP fun e => isQuarantined s e.handle)) : Flushed u s x := by
  refine ⟨fun h kept => ?_, fun h r n named some live => ?_, released.reports, ?_, counted, fun quiet =>
    ⟨drops quiet, fun inv b => released.blocks quiet inv b⟩⟩
  · obtain out | free := kept
    · rw [← UplinkEgress.count_released, List.count_eq_zero] at out
      exact released.kept out
    · rw [released.free free, free]
  · rw [released.handles, live, Option.bind_some, UplinkEgress.count_released, ← named, Handle.less]
    simp only [some, false_or]
  · show x.store = ⟨_, _, _, s.store.internalDrops⟩
    rw [← released.drops]

/-- The state in which a link's fall has been raised and counted, before its abort and flush (R108). -/
def linkFallen (u : Uplink) (s : State) : State :=
  (raise .linkDown (pathNumber u) none 0 0 (s.onUplink u fun e => { e with linkUp := false })).onPort (uplinkPort u)
    fun c => { c with linkDowns := c.linkDowns + 1 }

theorem linkGoesDown_of_up {u : Uplink} {s : State} (up : (s.uplink u).linkUp = true) :
    linkGoesDown u s = flushUplink u (abortCopy u (linkFallen u s)) := if_pos up

/-- What LINK_STATE_DOWN leaves of an uplink that was UP, beside the frames it held (R108, R109, R150, R151). -/
structure WentDown (u : Uplink) (s x : State) : Prop where
  flushed : Flushed u s x
  uplink  : x.uplink u = { (s.uplink u).emptied with
    linkUp := false, phy := false, tx := none, sent := (x.uplink u).sent, flushDrops := (x.uplink u).flushDrops }
  port    : x.port (uplinkPort u) = { s.port (uplinkPort u) with
    linkDowns := (s.port (uplinkPort u)).linkDowns + 1
    transmitAborts := (s.port (uplinkPort u)).transmitAborts + (if (s.uplink u).tx.isSome then 1 else 0) }
  kept    : OtherKept u
    (s.onNotices fun n => n.add { kind := .linkDown, whr := BitVec.ofNat 8 (pathNumber u), cls := 0xFF, detail := 0,
                                  addr := 0, time := s.stationTime }) x
  bay     : ∀ q, x.bay.queue q = s.bay.queue q

theorem followPhy_wentDown {u : Uplink} {s : State} (up : (s.uplink u).linkUp = true) :
    WentDown u s (followPhy u (setPhy u false s)) := by
  have down : followPhy u (setPhy u false s) = linkGoesDown u (setPhy u false s) := by
    simp [followPhy, setPhy]
  have fallen : ((setPhy u false s).uplink u).linkUp = true := by
    rw [setPhy, State.onUplink_uplink]
    exact up
  have bay := followPhy_bayKept u (setPhy u false s)
  have raised : ∀ q, (setPhy u false s).bay.queue q = s.bay.queue q := fun q => by rw [setPhy, State.onUplink_bay]
  rw [down, linkGoesDown_of_up fallen] at bay ⊢
  have kept : OtherKept u (s.onNotices fun n => n.add
      { kind := .linkDown, whr := BitVec.ofNat 8 (pathNumber u), cls := 0xFF, detail := 0, addr := 0,
        time := s.stationTime }) (linkFallen u (setPhy u false s)) := by
    cases u <;> exact ⟨rfl, rfl, rfl, rfl, rfl, rfl, rfl, rfl, rfl⟩
  have uplink : (linkFallen u (setPhy u false s)).uplink u = { s.uplink u with linkUp := false, phy := false } := by
    cases u <;> rfl
  have port : (linkFallen u (setPhy u false s)).port (uplinkPort u) =
      { s.port (uplinkPort u) with linkDowns := (s.port (uplinkPort u)).linkDowns + 1 } := by
    cases u <;> rfl
  have store : (linkFallen u (setPhy u false s)).store = s.store := by cases u <;> rfl
  have reports : (linkFallen u (setPhy u false s)).reports = s.reports := by cases u <;> rfl
  have aborted := abortCopy_aborted u (linkFallen u (setPhy u false s))
  generalize linkFallen u (setPhy u false s) = z at *
  generalize abortCopy u z = y at *
  have flushed := flushEntries_flushed u (y.uplink u).allEntries (y.onUplink u UplinkEgress.emptied)
  change EntriesFlushed u _ _ (flushUplink u y) at flushed
  generalize flushUplink u y = x at *
  have entries : (y.uplink u).allEntries = (s.uplink u).allEntries := by rw [aborted.uplink, uplink]; rfl
  have emptied : ((y.onUplink u UplinkEgress.emptied).uplink u).flushDrops = (s.uplink u).flushDrops := by
    rw [State.onUplink_uplink, aborted.uplink, uplink]
    rfl
  rw [entries] at flushed
  have fell : Released u [] s z := .of_kept (by rw [store]) (by rw [store]) (by rw [store]) reports
  have first := (fell.trans aborted.released).onUplink u UplinkEgress.emptied
  rw [uplink, List.nil_append] at first
  refine ⟨flushed_of_released ?_ ?_ ?_, ?_, ?_, ?_, fun q => (bay.1 q).trans (raised q)⟩
  · exact first.trans flushed.released
  · rw [flushed.counted, emptied, State.onUplink_store, aborted.drops, store]
  · intro quiet
    rw [UplinkEgress.released, List.any_append, Bool.or_eq_false_iff, List.any_map] at quiet
    have holds : ∀ e ∈ (s.uplink u).allEntries, fails s e.handle = false := fun e mem =>
      Bool.eq_false_iff.mpr (List.any_eq_false.mp quiet.2 e mem)
    rw [flushed.drops_after first holds, State.onUplink_store, aborted.drops, store]
  · rw [flushed.uplink, State.onUplink_uplink, aborted.uplink, uplink]
    rfl
  · rw [flushed.port, State.onUplink_port, aborted.port, port, uplink]
  · exact ((kept.trans aborted.kept).trans (onUplink_otherKept u _ _)).trans flushed.kept

/-- Settles O15: a link that falls is an abort and a flush, each a row of releases. -/
theorem linkIndications : Obligations.LinkIndications := by
  intro u s
  refine ⟨fun serving up => ?_, fun serving down => ?_, fun serving down => ?_, fun serving up => ?_, fun held => ?_⟩
  · have went := followPhy_wentDown up
    refine ⟨followPhy u (setPhy u false s), handledTo_of_eq (exec_linkStateDown u serving), ?_⟩
    generalize followPhy u (setPhy u false s) = x at *
    have kept := went.kept
    rw [went.uplink]
    refine ⟨rfl, rfl, rfl, fun q => by cases q <;> exact ⟨rfl, rfl, rfl, rfl⟩, rfl, rfl, rfl, rfl, went.port,
      kept.notices, went.flushed, kept.port, kept.uplink, went.bay, kept.filter, kept.pairing, kept.presence,
      kept.settings, kept.loader, kept.faults⟩
  · have stays : followPhy u (setPhy u false s) = s.onUplink u fun e => { e with phy := false } := by
      simp [followPhy, setPhy, linkGoesDown, down]
    rw [← stays]
    exact handledTo_of_eq (exec_linkStateDown u serving)
  · have rises : followPhy u (setPhy u true s) =
        ((s.onUplink u fun e => { e with phy := true, linkUp := true }).onNotices fun n =>
          n.add { kind := .linkUp, whr := BitVec.ofNat 8 (pathNumber u), cls := 0xFF, detail := 0, addr := 0,
                  time := s.stationTime }) := by
      simp only [followPhy, setPhy, linkGoesUp, State.onUplink_uplink, down, if_true]
      cases u <;> rfl
    rw [← rises]
    exact handledTo_of_eq (exec_linkStateUp u serving)
  · have stays : followPhy u (setPhy u true s) = s.onUplink u fun e => { e with phy := true } := by
      simp [followPhy, setPhy, linkGoesUp, up]
    rw [← stays]
    exact handledTo_of_eq (exec_linkStateUp u serving)
  · constructor
    · rw [exec, execLinkStateDown, whenServing, setPhy_serving, held]
      rfl
    · rw [exec, execLinkStateUp, whenServing, setPhy_serving, held]
      rfl

end Sys2Proof.Machine

/-! SUPPORT. The presence frame (R8): its octets, and the status copy field by field. -/

namespace Sys2Proof.Machine

/-! ### Numbers as octets -/

/-- Octets of a number do not read what stands above them. -/
theorem beOctets_of_high (n a b : Nat) : beOctets n (a * 2 ^ (8 * n) + b) = beOctets n b := by
  induction n generalizing a with
  | zero => rfl
  | succ n rest =>
    have shifted : a * 2 ^ (8 * (n + 1)) + b = a * 2 ^ 8 * 2 ^ (8 * n) + b := by ring
    have head : (a * 2 ^ 8 * 2 ^ (8 * n) + b) >>> (8 * n) = a * 2 ^ 8 + b >>> (8 * n) := by
      rw [Nat.shiftRight_eq_div_pow, Nat.shiftRight_eq_div_pow, Nat.add_comm, Nat.add_mul_div_right _ _ (by positivity),
        Nat.add_comm]
    rw [shifted, beOctets, beOctets, head, rest]
    refine congrArg (· :: _) (BitVec.eq_of_toNat_eq ?_)
    simp only [BitVec.toNat_ofNat]
    omega

/-- A number put together from two is spelt as the one and then the other. -/
theorem beOctets_append (m n a : Nat) {b : Nat} (fits : b < 2 ^ (8 * n)) :
    beOctets (m + n) (a * 2 ^ (8 * n) + b) = beOctets m a ++ beOctets n b := by
  induction m with
  | zero =>
    rw [Nat.zero_add, beOctets_of_high]
    rfl
  | succ m rest =>
    have head : (a * 2 ^ (8 * n) + b) >>> (8 * (m + n)) = a >>> (8 * m) := by
      rw [Nat.mul_add, Nat.add_comm (8 * m), Nat.shiftRight_add, Nat.shiftRight_eq_div_pow _ (8 * n), Nat.add_comm,
        Nat.add_mul_div_right _ _ (by positivity), Nat.div_eq_of_lt fits, Nat.zero_add]
    rw [Nat.add_right_comm, beOctets, head, rest, beOctets, List.cons_append]

theorem beOctets_one (a : Nat) : beOctets 1 a = [BitVec.ofNat 8 a] := by simp [beOctets]

/-! ### The status copy (R8) -/

/-- The number that the first octet of a status copy spells. -/
def statusFlags (s : State) : Nat :=
  boolBit s.u1.linkUp 7 + boolBit s.u2.linkUp 6 + boolBit s.filter.suspect1 5 + boolBit s.filter.suspect2 4 +
    boolBit s.faults.primary.isSome 3 + 2 * partCode s.loader.part

theorem boolBit_eq (b : Bool) (k : Nat) : boolBit b k = 2 ^ k * b.toNat := by cases b <;> simp [boolBit]

theorem partCode_le (p : PartState) : partCode p ≤ 2 := by cases p <;> decide

/-- A bit of an octet, by the octet's number. -/
theorem getLsbD_of_toNat {o : Octet} {k : Nat} {b : Bool} (bit : o.toNat / 2 ^ k % 2 = b.toNat) : o.getLsbD k = b := by
  rw [BitVec.getLsbD, Nat.testBit_eq_decide_div_mod_eq, bit]
  cases b <;> rfl

theorem statusFlags_eq (s : State) : statusFlags s = 128 * s.u1.linkUp.toNat + 64 * s.u2.linkUp.toNat +
    32 * s.filter.suspect1.toNat + 16 * s.filter.suspect2.toNat + 8 * s.faults.primary.isSome.toNat +
    2 * partCode s.loader.part := by
  simp only [statusFlags, boolBit_eq]
  rfl

theorem statusFlags_lt (s : State) : statusFlags s < 256 := by
  have code := partCode_le s.loader.part
  have l1 := s.u1.linkUp.toNat_le
  have l2 := s.u2.linkUp.toNat_le
  have n1 := s.filter.suspect1.toNat_le
  have n2 := s.filter.suspect2.toNat_le
  have f := s.faults.primary.isSome.toNat_le
  rw [statusFlags_eq]
  omega

/-- Each flag of a status copy's first octet reads back. -/
theorem statusFlags_read {s : State} {o : Octet} (spells : o = BitVec.ofNat 8 (statusFlags s)) :
    o.getLsbD 7 = s.u1.linkUp ∧ o.getLsbD 6 = s.u2.linkUp ∧ o.getLsbD 5 = s.filter.suspect1 ∧
    o.getLsbD 4 = s.filter.suspect2 ∧ o.getLsbD 3 = s.faults.primary.isSome ∧
    (o.extractLsb' 1 2).toNat = partCode s.loader.part ∧ o.getLsbD 0 = false := by
  have number : o.toNat = statusFlags s := by rw [spells, BitVec.toNat_ofNat, Nat.mod_eq_of_lt (statusFlags_lt s)]
  rw [statusFlags_eq] at number
  have code := partCode_le s.loader.part
  have l1 := s.u1.linkUp.toNat_le
  have l2 := s.u2.linkUp.toNat_le
  have n1 := s.filter.suspect1.toNat_le
  have n2 := s.filter.suspect2.toNat_le
  have f := s.faults.primary.isSome.toNat_le
  refine ⟨getLsbD_of_toNat (by omega), getLsbD_of_toNat (by omega), getLsbD_of_toNat (by omega),
    getLsbD_of_toNat (by omega), getLsbD_of_toNat (by omega), ?_, getLsbD_of_toNat ?_⟩
  · rw [BitVec.extractLsb'_toNat, Nat.shiftRight_eq_div_pow]
    omega
  · rw [Bool.toNat_false]
    omega

/-- For counts within their fields a status copy is its flags and then the four counts. -/
theorem statusCopyOf_octets {s : State} (single1 : s.filter.single1 < 65536) (single2 : s.filter.single2 < 65536)
    (origins : s.pairing.originInUse < 256) (sources : s.filter.entriesInUse < 65536) :
    beOctets 8 (statusCopyOf s).toNat = BitVec.ofNat 8 (statusFlags s) :: (beOctets 2 s.filter.single1 ++
      beOctets 2 s.filter.single2 ++ beOctets 1 s.pairing.originInUse ++ beOctets 2 s.filter.entriesInUse) := by
  have flags := statusFlags_lt s
  have number : statusCopyOf s = BitVec.ofNat 64 ((((statusFlags s * 2 ^ 16 + s.filter.single1) * 2 ^ 16 +
      s.filter.single2) * 2 ^ 8 + s.pairing.originInUse) * 2 ^ 16 + s.filter.entriesInUse) := by
    rw [statusCopyOf, statusFlags]
  have fourth := beOctets_append 6 2 (((statusFlags s * 2 ^ 16 + s.filter.single1) * 2 ^ 16 + s.filter.single2) *
    2 ^ 8 + s.pairing.originInUse) sources
  have third := beOctets_append 5 1 ((statusFlags s * 2 ^ 16 + s.filter.single1) * 2 ^ 16 + s.filter.single2) origins
  have second := beOctets_append 3 2 (statusFlags s * 2 ^ 16 + s.filter.single1) single2
  have first := beOctets_append 1 2 (statusFlags s) single1
  simp only [Nat.reduceAdd, Nat.reduceMul] at first second third fourth
  rw [number, BitVec.toNat_ofNat, Nat.mod_eq_of_lt (by omega), fourth, third, second, first, beOctets_one]
  rfl

theorem presenceOctets_length (s : State) : (presenceOctets s).length = 58 := by
  simp [presenceOctets, presenceFrame]

/-- A presence frame's ten zeros and its FCS (R6, R8). -/
theorem presenceOctets_eq (s : State) : presenceOctets s = withFcs (addrOctets s.settings.presenceGroup ++
    addrOctets s.loader.stationAddress ++ beOctets 2 s.settings.presenceMarker.toNat ++
    addrOctets s.loader.stationAddress ++ beOctets 8 (statusCopyOf s).toNat ++ beOctets 8 (statusCopyOf s).toNat ++
    beOctets 8 (statusCopyOf s).toNat ++ List.replicate 10 0) := by
  simp [presenceOctets, presenceFrame, sealFrame, padTo]

end Sys2Proof.Machine

/-! SUPPORT. The building of a presence frame (R101, R126): its copies under injection, what else the expiry leaves, and
the statement. -/

namespace Sys2Proof.Machine

/-! ### The copies of a frame, under injection (R123, R133 to R136) -/

/-- The copies of a frame that stands stored and numbered in `z`, which has the uplinks and the Injection Control of
`s` (R119, R123, R133). -/
theorem pairedCopies_of_placeCopies {p : Option Port} {c : TClass} {h : Nat} {f : List Octet} {seq : BitVec 16}
    {epoch : BitVec 3} {r : Handle} {s z x : State} (room : ∀ u, RoomFor c (s.uplink u))
    (uplink : ∀ u, z.uplink u = s.uplink u) (injection : z.pairing.injection = s.pairing.injection)
    (counted : z.pairing.counters.injectedCopies = s.pairing.counters.injectedCopies) (live : handleOf z h = some r)
    (calm : r.quarantined = false) (check : r.check = 0) (cls : r.cls = c)
    (tag : r.tag = some (stampFields seq epoch c s.settings)) (octets : storedFrame z r = f)
    (x_eq : placeCopies p h c true z = x) :
    PairedCopies s x c h f seq epoch ∧ ∀ n, n ≠ h → handleOf x n = handleOf z n := by
  have link1 : z.u1 = s.u1 := uplink .u1
  have link2 : z.u2 = s.u2 := uplink .u2
  obtain ⟨u1, u2, pairing, others, held, -, -⟩ := placeCopies_of_room (hit := injectionMatches s c)
    (k1 := injectedKind s (injectionMatches s c) .u1) (k2 := injectedKind s (injectionMatches s c) .u2)
    (fun u => by rw [uplink]; exact room u) (by rw [injectionMatches, injection, link1, link2]; rfl)
    (by rw [injectedKind, injection]; rfl) (by rw [injectedKind, injection]; rfl) x_eq
  rw [link1] at u1
  rw [link2] at u2
  rw [link1, link2] at pairing held
  rw [Pairing.copied_eq] at pairing
  have spent := congrArg Pairing.injection pairing
  obtain ⟨refs, blocks⟩ := held r live calm check
  refine ⟨⟨_, _, fun acts => ?_, fun rests => ?_, copyMade_of_copied u1, copyMade_of_copied u2, ?_,
    fun n copies => ⟨fun none => ?_, fun some => ?_⟩⟩, others⟩
  · rw [(injects_iff s c).mp acts] at spent ⊢
    exact ⟨injectedKind_true s .u1, injectedKind_true s .u2, by
      rw [spent]; simp only [Pairing.spend_injection, injection]⟩
  · have missed : injectionMatches s c = false := Bool.eq_false_iff.mpr fun hit => rests ((injects_iff s c).mpr hit)
    rw [missed] at spent ⊢
    exact ⟨rfl, rfl, by rw [spent]; simp only [Pairing.spend_false, injection]⟩
  · rw [pairing, ← counted]
  · rw [UplinkEgress.copies_toNat, UplinkEgress.copies_toNat, ← copies, none] at refs
    exact refs
  · rw [UplinkEgress.copies_toNat, UplinkEgress.copies_toNat, ← copies] at refs blocks
    exact ⟨_, refs.trans (if_neg some.ne'), (storedFrame_congr (blocks some) rfl).trans octets, rfl, cls, tag⟩

theorem placeCopy_noEvent (p : Option Port) (h : Nat) (c : TClass) (k : Option InjectKind) (u : Uplink) (s : State) :
    (placeCopy p h c k u s).notices = s.notices := by
  have released := (release_storage p h s).notices
  have offered : ∀ q e, e.handle = h → (offerUplink p u q e s).notices = s.notices := by
    intro q e named
    unfold offerUplink
    split
    · rw [State.onUplink_notices]
    · rw [State.onUplink_notices, named, released]
  unfold placeCopy
  split
  · split
    · exact offered _ _ rfl
    · exact released
    · exact offered _ _ rfl
    · exact offered _ _ rfl
  · exact released

/-- The copies of a frame raise no event. -/
theorem placeCopies_noEvent (p : Option Port) (h : Nat) (c : TClass) (b : Bool) (s : State) :
    (placeCopies p h c b s).notices = s.notices := by
  rw [placeCopies, placeCopy_noEvent, placeCopy_noEvent, (setRefs_storage h 2 _).notices, spendInjection_eq,
    State.onPairing_notices]

/-! ### The frame stored and numbered (R101, R126) -/

/-- Presence Built counts one (R101). -/
def countBuilt (s : State) : State :=
  s.onFilter fun f => f.onCounters fun c => { c with presenceBuilt := c.presenceBuilt + 1 }

/-- A presence frame stored and its building counted (R101). -/
def presenceStored (s : State) : State := countBuilt (storeFrame (presenceOctets s) .presence none s)

theorem storePresence_of_room {s : State} (blocks : 0 < freeBlocks s) (handles : 0 < freeHandles s) :
    storePresence s = pairOwnFrame none (lowestHandle s) .presence true (presenceStored s) := by
  have room : HasRoom (presenceOctets s) s := by
    rw [HasRoom, presenceOctets_length]
    exact ⟨blocks, handles⟩
  rw [storePresence, admitBuilt_of_room .presence room]
  rfl

/-- The frame stored, stamped from entry 0 `e` and counted. -/
def presenceStamped (e : OriginEntry) (s : State) : State := countBuilt (ownStamped e (presenceOctets s) .presence s)

theorem writeHandle_countBuilt (h : Nat) (f : Handle → Handle) (s : State) :
    writeHandle h f (countBuilt s) = countBuilt (writeHandle h f s) := by
  have same : handleOf (countBuilt s) h = handleOf s h := rfl
  rw [writeHandle, writeHandle, same]
  split <;> rfl

theorem anyLinkUp_presenceStored (s : State) : anyLinkUp (presenceStored s) = anyLinkUp s := by
  have kept := storeFrame_storage (presenceOctets s) .presence none s
  rw [anyLinkUp, anyLinkUp, ← kept.u1, ← kept.u2]
  rfl

theorem originOf_presenceStored (i : Nat) (s : State) : originOf (presenceStored s) i = originOf s i := by
  have kept := storeFrame_storage (presenceOctets s) .presence none s
  rw [originOf, originOf, ← kept.pairing]
  rfl

/-- With a link UP, storage and entry 0's Check holding, the frame's copies go out (R101, R126). -/
theorem storePresence_stamped {e : OriginEntry} {s : State} (up : anyLinkUp s = true) (blocks : 0 < freeBlocks s)
    (handles : 0 < freeHandles s) (zero : originOf s 0 = some e) (holds : e.check = 0) :
    storePresence s = placeCopies none (lowestHandle s) .presence true (presenceStamped e s) := by
  have kept := storeFrame_storage (presenceOctets s) .presence none s
  have up' : anyLinkUp (presenceStored s) = true := (anyLinkUp_presenceStored s).trans up
  have zero' : originOf (presenceStored s) 0 = some e := (originOf_presenceStored 0 s).trans zero
  have time : (presenceStored s).stationTime = s.stationTime := kept.stationTime
  have settings : (presenceStored s).settings = s.settings := kept.settings
  rw [storePresence_of_room blocks handles, pairOwnFrame, if_neg (by simp [up']), stampZero_of_holding zero' holds,
    time, settings, presenceStored, writeHandle_countBuilt]
  rfl

/-- The presence frame of a state with a link UP, storage, a holding entry 0 and room in the Timing queues goes out
as the Injection Control has it, and nothing is raised (R101, R123, R133). -/
theorem storePresence_copies {e : OriginEntry} {s : State} (up : anyLinkUp s = true) (blocks : 0 < freeBlocks s)
    (handles : 0 < freeHandles s) (zero : originOf s 0 = some e) (holds : e.check = 0)
    (room : ∀ u, (s.uplink u).linkUp = true → (s.uplink u).timing.entries.length < 64) :
    PairedCopies s (storePresence s) .presence (lowestHandle s) (presenceOctets s) e.next.presence e.epoch ∧
      ∀ n, n ≠ lowestHandle s → handleOf (storePresence s) n = handleOf s n := by
  have stored : HasRoom (presenceOctets s) s := by
    rw [HasRoom, presenceOctets_length]
    exact ⟨blocks, handles⟩
  have pairing : (presenceStamped e s).pairing = _ := ownStamped_pairing (e := e) (f := presenceOctets s)
    (c := .presence) (s := s)
  obtain ⟨copies, others⟩ := pairedCopies_of_placeCopies (c := .presence) (z := presenceStamped e s)
    (r := ownHandle e (presenceOctets s) .presence s) (seq := e.next.presence) (epoch := e.epoch)
    (f := presenceOctets s) (s := s) room
    (fun u => (State.onFilter_uplink _ _ _).trans (ownStamped_uplink u)) (by rw [pairing]) (by rw [pairing])
    handleOf_ownStamped rfl rfl rfl rfl
    ((storedFrame_congr ownStamped_blocks rfl).trans (storedFrame_storeFrame .presence none stored))
    (storePresence_stamped up blocks handles zero holds).symm
  refine ⟨copies, fun n differ => (others n differ).trans ?_⟩
  have written : handleOf (presenceStamped e s) n = handleOf (writeHandle (lowestHandle s) (fun r =>
      { r with tag := some (stampFields (e.next.get .presence) e.epoch .presence s.settings) })
    (storeFrame (presenceOctets s) .presence none s)) n := rfl
  rw [written, handleOf_writeHandle, if_neg differ, handleOf_storeFrame, if_neg differ]

/-- Entry 0 hands out one class-4 sequence (R121, R126). -/
theorem storePresence_origin {e : OriginEntry} {s : State} (up : anyLinkUp s = true) (blocks : 0 < freeBlocks s)
    (handles : 0 < freeHandles s) (zero : originOf s 0 = some e) (holds : e.check = 0) :
    originOf (storePresence s) 0 = some (e.stamped .presence s.stationTime) := by
  have pairing : (presenceStamped e s).pairing = _ := ownStamped_pairing (e := e) (f := presenceOctets s)
    (c := .presence) (s := s)
  rw [storePresence_stamped up blocks handles zero holds, originOf, (placeCopies_sameOrigins _ _ _ _ _).entries,
    pairing, Tbl.look_put_self, OriginEntry.rewrite_check (e := e.stamped .presence s.stationTime) holds]

theorem storePresence_notices {e : OriginEntry} {s : State} (up : anyLinkUp s = true) (blocks : 0 < freeBlocks s)
    (handles : 0 < freeHandles s) (zero : originOf s 0 = some e) (holds : e.check = 0) :
    (storePresence s).notices = s.notices := by
  rw [storePresence_stamped up blocks handles zero holds, placeCopies_noEvent]
  exact ((storeFrame_storage _ _ _ _).trans (writeHandle_storage _ _ _)).notices

/-- With storage the building is counted, whatever becomes of the frame (R101). -/
theorem storePresence_filter {s : State} (blocks : 0 < freeBlocks s) (handles : 0 < freeHandles s) :
    (storePresence s).filter = (countBuilt s).filter := by
  rw [storePresence_of_room blocks handles, (pairOwnFrame_reply _ _ _ _ _).filter, presenceStored, countBuilt,
    State.onFilter_filter, (storeFrame_storage _ _ _ _).filter]
  rfl

/-- What the building of a frame leaves alone. -/
theorem storePresence_kept (s : State) :
    (storePresence s).settings = s.settings ∧ (storePresence s).loader = s.loader ∧
    (storePresence s).filter.entries = s.filter.entries ∧ (storePresence s).presence = s.presence := by
  by_cases room : HasRoom (presenceOctets s) s
  · have kept := storeFrame_storage (presenceOctets s) .presence none s
    rw [HasRoom, presenceOctets_length] at room
    have paired := pairOwnFrame_reply none (lowestHandle s) .presence true (presenceStored s)
    have entries : (storeFrame (presenceOctets s) .presence none s).filter.entries = s.filter.entries := by
      rw [kept.filter]
    rw [storePresence_of_room room.1 room.2]
    exact ⟨paired.settings.trans kept.settings, paired.loader.trans kept.loader,
      (congrArg Filter.entries paired.filter).trans entries,
      paired.presence.trans kept.presence⟩
  · rw [storePresence, admitBuilt_of_no_room .presence room]
    exact ⟨rfl, rfl, rfl, rfl⟩

/-! ### The expiry (R101, R106) -/

theorem buildPresence_of_linked {s : State} (up : anyLinkUp s = true) :
    buildPresence s = storePresence (rearmOwn s) := by
  have up' : anyLinkUp (rearmOwn s) = true := up
  rw [buildPresence, if_neg (by simp [up'])]

theorem buildPresence_of_unlinked {s : State} (down : anyLinkUp s = false) :
    buildPresence s = (rearmOwn s).onFilter fun f =>
      f.onCounters fun c => { c with presenceSkipped := c.presenceSkipped + 1 } := if_pos down

theorem buildPresence_kept (s : State) :
    (buildPresence s).settings = s.settings ∧ (buildPresence s).loader = s.loader ∧
    (buildPresence s).filter.entries = s.filter.entries ∧ (buildPresence s).presence = (rearmOwn s).presence := by
  cases up : anyLinkUp s with
  | true =>
    rw [buildPresence_of_linked up]
    exact storePresence_kept (rearmOwn s)
  | false =>
    rw [buildPresence_of_unlinked up]
    exact ⟨rfl, rfl, rfl, rfl⟩

/-- A flag stays Raised while its Last Seen is not older than 4 Presence Intervals (R106). -/
theorem stillRaised_iff (now : Time) (interval : Nat) (raised : Bool) (seen : Option Time) :
    stillRaised now interval raised seen = true ↔
      raised = true ∧ ∀ a, seen = some a → age now a ≤ 4 * interval * 1000 := by
  unfold stillRaised
  cases seen <;> simp

theorem rearmed_of_presence {s x : State} {t : Timer}
    (presence : x.presence = { (rearmOwn s).presence with timer := t }) :
    Rearmed s x := by
  intro u
  have own : x.presence.own u = (s.presence.own u).rearm s.stationTime s.settings.presenceInterval := by
    rw [presence]
    cases u <;> rfl
  rw [own]
  exact ⟨rfl, rfl, stillRaised_iff _ _ _ _, stillRaised_iff _ _ _ _⟩

/-- A presence frame reads the settings, the Loader, the links, the summary, Primary and the count of Origin entries in
use (R8). -/
theorem presenceOctets_congr {s x : State} (settings : x.settings = s.settings) (loader : x.loader = s.loader)
    (u1 : x.u1 = s.u1) (u2 : x.u2 = s.u2) (filter : x.filter = s.filter) (faults : x.faults = s.faults)
    (origins : x.pairing.originInUse = s.pairing.originInUse) : presenceOctets x = presenceOctets s := by
  simp only [presenceOctets, statusCopyOf, settings, loader, u1, u2, filter, faults, origins]

theorem presenceOctets_rearmOwn (s : State) : presenceOctets (rearmOwn s) = presenceOctets s :=
  presenceOctets_congr rfl rfl rfl rfl rfl rfl rfl

/-- Entry 0 mended before a presence frame is stored, or after, alike (R116). -/
theorem originCheckFails_presenceStored (s : State) :
    originCheckFails 0 none (some .presence) (presenceStored s) =
      presenceStored (originCheckFails 0 none (some .presence) s) := by
  have octets : presenceOctets (originCheckFails 0 none (some .presence) s) = presenceOctets s :=
    presenceOctets_congr rfl rfl rfl rfl rfl rfl rfl
  rw [presenceStored, presenceStored, octets, ← originCheckFails_zero_storeFrame]
  rfl

/-- A failing entry 0 may be mended before the expiry as well as in it (R116, R126). -/
theorem buildPresence_of_failing {e : OriginEntry} {s : State} (up : anyLinkUp s = true) (blocks : 0 < freeBlocks s)
    (handles : 0 < freeHandles s) (zero : originOf s 0 = some e) (bad : e.check ≠ 0) :
    buildPresence s = buildPresence (originCheckFails 0 none (some .presence) s) := by
  have up' : anyLinkUp (presenceStored (rearmOwn s)) = true := (anyLinkUp_presenceStored (rearmOwn s)).trans up
  have zero' : originOf (presenceStored (rearmOwn s)) 0 = some e := (originOf_presenceStored 0 (rearmOwn s)).trans zero
  have mended : anyLinkUp (originCheckFails 0 none (some .presence) s) = true := up
  have rearmed : rearmOwn (originCheckFails 0 none (some .presence) s) =
      originCheckFails 0 none (some .presence) (rearmOwn s) := rfl
  rw [buildPresence_of_linked up, buildPresence_of_linked mended, rearmed,
    storePresence_of_room (s := rearmOwn s) blocks handles,
    storePresence_of_room (s := originCheckFails 0 none (some .presence) (rearmOwn s)) blocks handles,
    pairOwnFrame_of_failing zero' bad up', originCheckFails_presenceStored]
  rfl

/-- Settles O13, by the storing, the numbering and the copies of the frame, and the status copy's fields. -/
theorem presenceTimerBuildsOneFrame : Obligations.PresenceTimerBuildsOneFrame := by
  refine ⟨fun s => ⟨fun high runs => ?_, fun e high runs up blocks handles zero bad => ?_, fun stopped => ?_⟩,
    fun s single1 single2 origins sources => ?_⟩
  · obtain ⟨settings, loader, entries, presence⟩ := buildPresence_kept s
    refine ⟨startPresenceTimer (buildPresence s), handledTo_of_eq (exec_presenceTimerExpiry high runs),
      congrArg (fun st : Settings => some (st.presenceInterval * 1000)) settings, settings, loader, entries,
      rearmed_of_presence (t := some ((buildPresence s).settings.presenceInterval * 1000)) (by rw [← presence]; rfl),
      fun down => ?_, fun up blocks handles => ?_⟩
    · rw [buildPresence_of_unlinked down]
      exact ⟨rfl, rfl, rfl, rfl⟩
    · rw [buildPresence_of_linked up]
      refine ⟨congrArg Filter.counters (storePresence_filter (s := rearmOwn s) blocks handles), fun e zero holds =>
        ⟨storePresence_origin (s := rearmOwn s) up blocks handles zero holds, fun _ room => ?_⟩⟩
      obtain ⟨copies, others⟩ := storePresence_copies (s := rearmOwn s) up blocks handles zero holds room
      rw [presenceOctets_rearmOwn] at copies
      exact ⟨lowestHandle s, lowestHandle_free handles, others,
        storePresence_notices (s := rearmOwn s) up blocks handles zero holds, copies⟩
  · refine ⟨originCheckFails 0 none (some .presence) s, originFails_zero none (some .presence) s, ?_⟩
    rw [exec_presenceTimerExpiry high runs, buildPresence_of_failing up blocks handles zero bad]
    exact (exec_presenceTimerExpiry (s := originCheckFails 0 none (some .presence) s) high runs).symm
  · simp [exec, execPresenceTimerExpiry, whileRunning, stopped]
  · obtain ⟨l1, l2, n1, n2, f, part, zero⟩ := statusFlags_read (s := s) rfl
    have octets := presenceOctets_eq s
    rw [statusCopyOf_octets single1 single2 origins sources] at octets
    refine ⟨_, _, rfl, l1, l2, n1, n2, f, part.trans ?_, zero, octets, presenceOctets_length s⟩
    cases s.loader.part <;> rfl

end Sys2Proof.Machine

/-! SUPPORT. The Origin Table's form (R113, R114, R117) and each operation of the Pairing Unit on it: no operation gives
two entries one address, and entry 0 stays PINNED with the station address. -/

namespace Sys2Proof.Machine

/-! ### Several records freed -/

section
variable {α : Type}

theorem Tbl.look_foldl_del (l : List Nat) (t : Tbl α) (k : Nat) :
    Tbl.look (l.foldl Tbl.del t) k = if k ∈ l then none else Tbl.look t k := by
  induction l generalizing t with
  | nil => simp
  | cons j l ih =>
    rw [List.foldl_cons, ih, Tbl.look_del]
    by_cases same : k = j <;> simp [same]

theorem Tbl.wf_foldl_del (l : List Nat) {t : Tbl α} (form : Tbl.wf t = true) : Tbl.wf (l.foldl Tbl.del t) = true := by
  induction l generalizing t with
  | nil => exact form
  | cons j l ih => exact ih (Tbl.wf_del t j form)

theorem Tbl.below_foldl_del {n : Nat} (l : List Nat) {t : Tbl α} (bound : Tbl.below n t = true) :
    Tbl.below n (l.foldl Tbl.del t) = true := by
  induction l generalizing t with
  | nil => exact bound
  | cons j l ih => exact ih (Tbl.below_del t j bound)

end

/-! ### The form, with or without entry 0 -/

/-- The Origin Table's form (R113, R114, R117): entry 0, where it is there, is PINNED with the station address, and
with `zero` it is there. Before the end of LOADING it is not (R138). -/
structure OriginForm (zero : Prop) (s : State) : Prop where
  wf     : Tbl.wf s.pairing.entries = true
  below  : Tbl.below 64 s.pairing.entries = true
  unique : ∀ {i j d e}, originOf s i = some d → originOf s j = some e → d.addr = e.addr → i = j
  own    : ∀ {e}, originOf s 0 = some e → e.state = .pinned ∧ e.addr = s.loader.stationAddress
  there  : zero → (originOf s 0).isSome = true

/-- From `s` to `t` the Origin Table's entries, the part state and the station address are the same. -/
structure OriginsStand (s t : State) : Prop where
  entries : t.pairing.entries = s.pairing.entries
  part    : t.loader.part = s.loader.part
  station : t.loader.stationAddress = s.loader.stationAddress

/-- From `s` to `t` the part state is the same, and the Origin Table keeps its form. -/
structure KeepsOrigins (zero : Prop) (s t : State) : Prop where
  part : t.loader.part = s.loader.part
  form : OriginForm zero s → OriginForm zero t

section
variable {zero : Prop} {i : Nat} {d e : OriginEntry} {s t v : State}

theorem OriginInv.form (inv : OriginInv s) (serves : s.loader.part ≠ .loading) : OriginForm True s := by
  obtain ⟨wf, below, unique, -, own⟩ := inv
  obtain ⟨e, held, pinned, station⟩ := own serves
  refine ⟨wf, below, fun {i j d e} => unique i j d e, fun {d} there => ?_, fun _ => by rw [held]; rfl⟩
  exact Option.some.inj (held.symm.trans there) ▸ ⟨pinned, station⟩

theorem OriginForm.inv (form : OriginForm True s) (serves : s.loader.part ≠ .loading) : OriginInv s := by
  obtain ⟨e, held⟩ := Option.isSome_iff_exists.mp (form.there trivial)
  exact ⟨form.wf, form.below, fun i j d e => form.unique, fun loading => absurd loading serves,
    fun _ => ⟨e, held, form.own held⟩⟩

theorem OriginForm.of_empty (empty : s.pairing.entries = []) : OriginForm False s := by
  have free : ∀ i, originOf s i = none := fun i => by rw [originOf, empty]; rfl
  exact ⟨by rw [empty]; rfl, by rw [empty]; rfl, fun {i _ _ _} there => absurd there (by simp [free]),
    fun there => absurd there (by simp [free]), False.elim⟩

theorem OriginInv.wf (inv : OriginInv s) : Tbl.wf s.pairing.entries = true := inv.1

theorem OriginInv.lt (inv : OriginInv s) (held : originOf s i = some e) : i < 64 := Tbl.lt_of_look inv.2.1 held

/-- In LOADING the Origin Table holds nothing (R138). -/
theorem OriginInv.empty (inv : OriginInv s) (loading : s.loader.part = .loading) : s.pairing.entries = [] := by
  obtain ⟨-, -, -, empty, -⟩ := inv
  exact empty loading

theorem originInv_of_empty (empty : s.pairing.entries = []) (loading : s.loader.part = .loading) : OriginInv s :=
  have form := OriginForm.of_empty empty
  ⟨form.wf, form.below, fun _ _ _ _ => form.unique, fun _ => empty, fun serves => absurd loading serves⟩

theorem OriginsStand.refl (s : State) : OriginsStand s s := ⟨rfl, rfl, rfl⟩

theorem OriginsStand.of_eq (pairing : t.pairing = s.pairing) (loader : t.loader = s.loader) : OriginsStand s t :=
  ⟨by rw [pairing], by rw [loader], by rw [loader]⟩

theorem OriginsStand.trans (a : OriginsStand s t) (b : OriginsStand t v) : OriginsStand s v :=
  ⟨b.entries.trans a.entries, b.part.trans a.part, b.station.trans a.station⟩

theorem OriginsStand.foldl {α : Type} {f : State → α → State} (each : ∀ s a, OriginsStand s (f s a))
    (l : List α) (s : State) : OriginsStand s (l.foldl f s) := by
  induction l generalizing s with
  | nil => exact .refl s
  | cons a l rest => exact (each s a).trans (rest _)

theorem SameTables.originsStand (same : SameTables s t) (loader : t.loader = s.loader) : OriginsStand s t :=
  ⟨same.origins, by rw [loader], by rw [loader]⟩

theorem OnlyEgress.originsStand (only : OnlyEgress s t) : OriginsStand s t := .of_eq only.pairing only.loader

theorem OnlyStorage.originsStand (only : OnlyStorage s t) : OriginsStand s t := only.egress.originsStand

theorem OnlyFilter.originsStand (only : OnlyFilter s t) : OriginsStand s t := .of_eq only.pairing only.loader

theorem OriginForm.of_stands (form : OriginForm zero s) (same : OriginsStand s t) : OriginForm zero t := by
  have entry : ∀ i, originOf t i = originOf s i := fun i => by rw [originOf, same.entries]; rfl
  refine ⟨same.entries ▸ form.wf, same.entries ▸ form.below, fun {i j d e} hi hj => ?_, fun {e} held => ?_,
    fun z => ?_⟩
  · rw [entry] at hi hj
    exact form.unique hi hj
  · rw [entry] at held
    exact same.station ▸ form.own held
  · rw [entry]
    exact form.there z

theorem OriginsStand.keeps (same : OriginsStand s t) : KeepsOrigins zero s t :=
  ⟨same.part, fun form => form.of_stands same⟩

theorem OriginsStand.keeps_inv (same : OriginsStand s t) (inv : OriginInv s) : OriginInv t := by
  by_cases loading : s.loader.part = .loading
  · exact originInv_of_empty (same.entries.trans (inv.empty loading)) (same.part.trans loading)
  · exact ((inv.form loading).of_stands same).inv (same.part ▸ loading)

theorem KeepsOrigins.refl (s : State) : KeepsOrigins zero s s := (OriginsStand.refl s).keeps

theorem KeepsOrigins.trans (a : KeepsOrigins zero s t) (b : KeepsOrigins zero t v) : KeepsOrigins zero s v :=
  ⟨b.part.trans a.part, fun form => b.form (a.form form)⟩

theorem KeepsOrigins.then_stand (a : KeepsOrigins zero s t) (b : OriginsStand t v) : KeepsOrigins zero s v :=
  a.trans b.keeps

theorem KeepsOrigins.foldl {α : Type} {f : State → α → State} (each : ∀ s a, KeepsOrigins zero s (f s a))
    (l : List α) (s : State) : KeepsOrigins zero s (l.foldl f s) := by
  induction l generalizing s with
  | nil => exact .refl s
  | cons a l rest => exact (each s a).trans (rest _)

/-- Where the part serves, what keeps the form keeps the invariant. -/
theorem KeepsOrigins.keeps_inv (kept : KeepsOrigins True s t) (serves : s.loader.part ≠ .loading)
    (inv : OriginInv s) : OriginInv t := (kept.form (inv.form serves)).inv (kept.part ▸ serves)

/-! ### One entry written or freed -/

/-- An entry written with an address that no other entry holds. -/
theorem OriginForm.of_put (form : OriginForm zero s) (low : i < 64)
    (entries : t.pairing.entries = Tbl.put s.pairing.entries i d)
    (station : t.loader.stationAddress = s.loader.stationAddress)
    (alone : ∀ j e, originOf s j = some e → e.addr = d.addr → j = i)
    (own : i = 0 → d.state = .pinned ∧ d.addr = s.loader.stationAddress) : OriginForm zero t := by
  have entry : ∀ j, originOf t j = if j = i then some d else originOf s j := fun j => by
    rw [originOf, entries]
    exact Tbl.look_put _ _ _ _
  refine ⟨entries ▸ Tbl.wf_put _ _ _ form.wf, entries ▸ Tbl.below_put _ _ _ low form.below,
    fun {j k g h} hj hk same => ?_, fun {g} held => ?_, fun z => ?_⟩
  · rw [entry] at hj hk
    split at hj <;> split at hk
    · next hi hi' => exact hi.trans hi'.symm
    · next hi _ => exact hi.trans (alone k h hk (same.symm.trans (by rw [Option.some.inj hj]))).symm
    · next hi => exact (alone j g hj (same.trans (by rw [Option.some.inj hk]))).trans hi.symm
    · exact form.unique hj hk same
  · rw [station]
    rw [entry] at held
    split at held
    · next first => exact Option.some.inj held ▸ own first.symm
    · exact form.own held
  · rw [entry]
    split
    · rfl
    · exact form.there z

/-- An entry other than entry 0 freed. -/
theorem OriginForm.of_del (form : OriginForm zero s) (other : i ≠ 0)
    (entries : t.pairing.entries = Tbl.del s.pairing.entries i)
    (station : t.loader.stationAddress = s.loader.stationAddress) : OriginForm zero t := by
  have entry : ∀ j, originOf t j = if j = i then none else originOf s j := fun j => by
    rw [originOf, entries]
    exact Tbl.look_del _ _ _
  have kept : ∀ {j g}, originOf t j = some g → originOf s j = some g := fun {j g} held => by
    rw [entry] at held
    split at held
    · cases held
    · exact held
  refine ⟨entries ▸ Tbl.wf_del _ _ form.wf, entries ▸ Tbl.below_del _ _ form.below,
    fun hj hk same => form.unique (kept hj) (kept hk) same, fun held => station ▸ form.own (kept held), fun z => ?_⟩
  rw [entry, if_neg other.symm]
  exact form.there z

/-- An entry written with the address it had, and PINNED where it was. -/
theorem putOrigin_keepsOrigins (held : originOf s i = some e) (addr : d.addr = e.addr)
    (pinned : e.state = .pinned → d.state = .pinned) : KeepsOrigins zero s (putOrigin i d s) where
  part := rfl
  form form := by
    refine form.of_put (d := { d with check := 0 }) (Tbl.lt_of_look form.below held) rfl rfl
      (fun j g there same => form.unique there held (same.trans addr)) fun first => ?_
    obtain ⟨state, station⟩ := form.own (first ▸ held)
    exact ⟨pinned state, addr.trans station⟩

theorem freeOrigin_lt (found : freeOrigin s = some i) : i < 64 := by
  obtain ⟨-, -, high⟩ := Tbl.lowestFree_spec _ _ _ _ _ (List.mem_of_mem_head? (Option.mem_def.mpr found))
  exact high

/-- A new address takes a FREE entry (R114). -/
theorem createFree_form {a : Address} {st : OriginState} (form : OriginForm zero s) (found : freeOrigin s = some i)
    (unheld : ∀ j e, originOf s j = some e → e.addr ≠ a) : OriginForm zero (createOrigin i st a s) := by
  refine form.of_put (d := newOrigin st a s.pairing.epochCounter s.stationTime) (freeOrigin_lt found) rfl rfl
    (fun j e there same => absurd same (unheld j e there)) fun first => ?_
  have low := (freeOrigin_free found).2
  omega

/-- Entry 0 rebuilt takes the address it had (R114, R116). -/
theorem rebuildZero_keepsOrigins (held : originOf s 0 = some e) : KeepsOrigins zero s (rebuildZero s) where
  part := rfl
  form form := form.of_put (d := newOrigin .pinned s.loader.stationAddress s.pairing.epochCounter s.stationTime)
    (by omega) rfl rfl (fun _ _ there same => form.unique there held (same.trans (form.own held).2.symm))
    fun _ => ⟨rfl, rfl⟩

/-! ### Lookups (R116, R117) -/

theorem originCheckFails_keepsOrigins (held : originOf s i = some e) (p : Option Port) (c : Option TClass) :
    KeepsOrigins zero s (originCheckFails i p c s) := by
  have reported : OriginsStand s (report .originCheck i p c s) := .of_eq rfl rfl
  unfold originCheckFails
  split
  · next first => exact reported.keeps.trans (rebuildZero_keepsOrigins (e := e) (first ▸ held))
  · next other => exact ⟨rfl, fun form => form.of_del other rfl rfl⟩

theorem verifyOrigin_keepsOrigins (i : Nat) (p : Option Port) (c : Option TClass) (s : State) :
    KeepsOrigins zero s (verifyOrigin i p c s).2 := by
  unfold verifyOrigin
  split
  · exact .refl s
  · next held =>
    split
    · exact .refl s
    · exact originCheckFails_keepsOrigins held p c

theorem lookupOrigin_keepsOrigins (p : Option Port) (c : Option TClass) (a : Address) (s : State) :
    KeepsOrigins zero s (lookupOrigin p c a s).2 := by
  unfold lookupOrigin
  split
  · exact .refl s
  · exact verifyOrigin_keepsOrigins _ p c s

theorem findOrigin_some {a : Address} (form : Tbl.wf s.pairing.entries = true) (found : findOrigin s a = some i) :
    ∃ e, originOf s i = some e ∧ e.addr = a := by
  obtain ⟨⟨j, e⟩, first, rfl⟩ := Option.map_eq_some_iff.mp found
  exact ⟨e, Tbl.look_of_mem form (List.mem_of_find?_eq_some first), by simpa using List.find?_some first⟩

theorem findOrigin_none {a : Address} (missed : findOrigin s a = none) (j : Nat) (e : OriginEntry)
    (there : originOf s j = some e) : e.addr ≠ a := by
  rw [findOrigin, Option.map_eq_none_iff, List.find?_eq_none] at missed
  simpa using missed _ (Tbl.mem_of_look there)

/-- After a lookup that goes on with no entry, no entry holds the address: none did, or the one that did has failed its
Check and is FREE (R116, R117). -/
theorem lookupOrigin_missed {p : Option Port} {c : Option TClass} {a : Address} (form : OriginForm zero s)
    (missed : lookupOrigin p c a s = (none, t)) (j : Nat) (g : OriginEntry) (there : originOf t j = some g) :
    g.addr ≠ a := by
  unfold lookupOrigin at missed
  split at missed
  · next unfound =>
    obtain ⟨-, rfl⟩ := Prod.mk.inj missed
    exact findOrigin_none unfound j g there
  · next i found =>
    obtain ⟨e, held, addr⟩ := findOrigin_some form.wf found
    simp only [verifyOrigin, held] at missed
    split at missed
    · cases missed
    · obtain ⟨stopped, rfl⟩ := Prod.mk.inj missed
      have other : i ≠ 0 := fun first => by simp [first] at stopped
      obtain ⟨-, ⟨others, freed, -⟩, -⟩ := originFails_originCheckFails i p c s
      intro same
      by_cases self : j = i
      · rw [self, (freed other).1] at there
        cases there
      · rw [others j self] at there
        exact self (form.unique there held (same.trans addr.symm))

/-- After a lookup that goes on with no entry the address may be given to a FREE one (R117, R128). -/
theorem KeepsOrigins.then_create {a : Address} {st : OriginState} {p : Option Port} {c : Option TClass}
    (missed : lookupOrigin p c a s = (none, t)) (found : freeOrigin t = some i) :
    KeepsOrigins zero s (createOrigin i st a t) := by
  have looked := lookupOrigin_keepsOrigins (zero := zero) p c a s
  rw [missed] at looked
  exact ⟨looked.part, fun form => createFree_form (looked.form form) found (lookupOrigin_missed form missed)⟩

theorem touchOrigin_keepsOrigins (i : Nat) (s : State) : KeepsOrigins zero s (touchOrigin i s) := by
  unfold touchOrigin
  split
  · exact .refl s
  · next held => exact putOrigin_keepsOrigins held rfl id

theorem senderOf_keepsOrigins (c : TClass) (a : Address) (s : State) : KeepsOrigins zero s (senderOf c a s).2 := by
  have looked := lookupOrigin_keepsOrigins (zero := zero) (some .b) (some c) a s
  unfold senderOf
  split
  · next found =>
    rw [found] at looked
    exact looked.trans (touchOrigin_keepsOrigins _ _)
  · next missed =>
    rw [missed] at looked
    split
    · next free => exact (KeepsOrigins.then_create missed free).then_stand ⟨rfl, rfl, rfl⟩
    · exact looked

/-! ### Stamping, aging, pins and removal (R121 to R131) -/

theorem stamp_keepsOrigins (n : Numbering) (h : Nat) (c : TClass) (s : State) :
    KeepsOrigins zero s (stamp n h c s) := by
  cases n with
  | entry i =>
    cases held : originOf s i with
    | none =>
      simp only [stamp, held]
      exact .refl s
    | some e =>
      rw [stamp_entry held]
      have written := writeTag_storage h (stampFields (e.next.get c) e.epoch c s.settings) s
      have still : originOf (writeTag h (stampFields (e.next.get c) e.epoch c s.settings) s) i = some e := by
        rwa [originOf, written.pairing]
      exact written.originsStand.keeps.trans (putOrigin_keepsOrigins still rfl id)
  | overflow => exact (writeHandle_storage h _ s).originsStand.keeps.then_stand ⟨rfl, rfl, rfl⟩

theorem prepareZero_keepsOrigins (p : Option Port) (c : TClass) (s : State) : KeepsOrigins zero s (prepareZero p c s) :=
  (verifyOrigin_keepsOrigins 0 p (some c) s).trans (touchOrigin_keepsOrigins 0 _)

theorem dropOrigin_entries (i : Nat) (s : State) : (dropOrigin i s).pairing.entries = Tbl.del s.pairing.entries i := by
  unfold dropOrigin
  split
  · next free => exact (Tbl.del_of_free free).symm
  · rfl

theorem dropOrigin_keepsOrigins (other : i ≠ 0) : KeepsOrigins zero s (dropOrigin i s) := by
  have loader := (dropOrigin_pairing i s).loader
  exact ⟨by rw [loader], fun form => form.of_del other (dropOrigin_entries i s) (by rw [loader])⟩

/-- A LEARNED entry is aged out, and so is never entry 0 (R127). -/
theorem ageOrigin_keepsOrigins (i : Nat) (s : State) : KeepsOrigins zero s (ageOrigin i s) := by
  cases held : originOf s i with
  | none =>
    simp only [ageOrigin, held]
    exact .refl s
  | some e =>
    cases aged : e.aged s.stationTime s.settings.originAge with
    | false =>
      rw [ageOrigin_of_stays held aged]
      exact putOrigin_keepsOrigins held rfl id
    | true =>
      rw [ageOrigin_of_aged held aged]
      refine ⟨(dropOrigin_pairing i s).loader ▸ rfl, fun form => ?_⟩
      have other : i ≠ 0 := fun first => by simp [OriginEntry.aged, (form.own (first ▸ held)).1] at aged
      exact ((dropOrigin_keepsOrigins other).form form).of_stands ⟨rfl, rfl, rfl⟩

theorem visitOrigin_keepsOrigins (i : Nat) (s : State) : KeepsOrigins zero s (visitOrigin i s) := by
  have verified := verifyOrigin_keepsOrigins (zero := zero) i none none s
  unfold visitOrigin
  split
  · next found =>
    rw [found] at verified
    exact verified.trans (ageOrigin_keepsOrigins _ _)
  · next missed => rwa [missed] at verified

theorem pinOrigin_keepsOrigins (p : Option Port) (a : Address) (s : State) :
    KeepsOrigins zero s (pinOrigin p a s).2 := by
  have looked := lookupOrigin_keepsOrigins (zero := zero) p none a s
  unfold pinOrigin
  split
  · next found =>
    rw [found] at looked
    split
    · exact looked
    · next d held =>
      split
      · have pinned := putOrigin_keepsOrigins (zero := zero) (d := { d with state := .pinned }) held rfl fun _ => rfl
        exact (looked.trans pinned).then_stand ⟨rfl, rfl, rfl⟩
      · exact looked
  · next missed =>
    rw [missed] at looked
    split
    · next free => exact .then_create missed free
    · exact looked

theorem removeOrigin_keepsOrigins (p : Port) (a : Address) (s : State) :
    KeepsOrigins zero s (removeOrigin p a s).2 := by
  have looked := lookupOrigin_keepsOrigins (zero := zero) (some p) none a s
  unfold removeOrigin
  split
  · next missed => rwa [missed] at looked
  · next found =>
    rw [found] at looked
    dsimp only
    split
    · exact looked
    · next other => exact (looked.trans (dropOrigin_keepsOrigins other)).then_stand ⟨rfl, rfl, rfl⟩

/-! ### Entry 0 takes the station address (R114, R131) -/

/-- Several entries freed one after the other. -/
theorem entries_foldl_del {f : State → Nat → State}
    (each : ∀ s i, (f s i).pairing.entries = Tbl.del s.pairing.entries i) (l : List Nat) (s : State) :
    (l.foldl f s).pairing.entries = l.foldl Tbl.del s.pairing.entries := by
  induction l generalizing s with
  | nil => rfl
  | cons i l rest => rw [List.foldl_cons, rest, each, List.foldl_cons]

theorem loader_foldl {f : State → Nat → State} (each : ∀ s i, (f s i).loader = s.loader) (l : List Nat)
    (s : State) : (l.foldl f s).loader = s.loader := by
  induction l generalizing s with
  | nil => rfl
  | cons i l rest => exact (rest _).trans (each s i)

theorem mem_othersHolding {a : Address} (held : originOf s i = some e) (addr : e.addr = a) (other : i ≠ 0) :
    i ∈ othersHolding s a :=
  List.mem_map.mpr ⟨(i, e), List.mem_filter.mpr ⟨Tbl.mem_of_look held, by simp [addr, other]⟩, rfl⟩

theorem zero_notMem_othersHolding (s : State) (a : Address) : 0 ∉ othersHolding s a := by
  simp [othersHolding]

/-- Entry 0 takes the station address, and the entries that held it are freed. -/
theorem OriginForm.of_claimed {a : Address} (form : OriginForm zero s)
    (entries : t.pairing.entries = (othersHolding s a).foldl Tbl.del (Tbl.put s.pairing.entries 0 d))
    (pinned : d.state = .pinned) (addr : d.addr = a) (station : t.loader.stationAddress = a) : OriginForm True t := by
  have entry : ∀ j, originOf t j =
      if j ∈ othersHolding s a then none else if j = 0 then some d else originOf s j := fun j => by
    rw [originOf, entries, Tbl.look_foldl_del, Tbl.look_put]
    rfl
  have first : originOf t 0 = some d := by
    rw [entry, if_neg (zero_notMem_othersHolding s a), if_pos rfl]
  have other {j g} (differ : j ≠ 0) (held : originOf t j = some g) : originOf s j = some g ∧ g.addr ≠ a := by
    rw [entry, if_neg differ] at held
    split at held
    · cases held
    · next kept => exact ⟨held, fun same => kept (mem_othersHolding held same differ)⟩
  refine ⟨entries ▸ Tbl.wf_foldl_del _ (Tbl.wf_put _ _ _ form.wf),
    entries ▸ Tbl.below_foldl_del _ (Tbl.below_put _ _ _ (by omega) form.below), fun {j k g h} hj hk same => ?_,
    fun held => ?_, fun _ => by rw [first]; rfl⟩
  · by_cases j0 : j = 0 <;> by_cases k0 : k = 0
    · exact j0.trans k0.symm
    · rw [j0, first] at hj
      exact absurd (same.symm.trans (by rw [← Option.some.inj hj, addr])) (other k0 hk).2
    · rw [k0, first] at hk
      exact absurd (same.trans (by rw [← Option.some.inj hk, addr])) (other j0 hj).2
    · exact form.unique (other j0 hj).1 (other k0 hk).1 same
  · exact Option.some.inj (first.symm.trans held) ▸ ⟨pinned, addr.trans station.symm⟩

/-- The creation of entry 0 at the end of LOADING (R114). -/
theorem createZero_form (form : OriginForm zero s) : OriginForm True (createZero s) := by
  refine form.of_claimed (d := newOrigin .pinned s.loader.stationAddress s.pairing.epochCounter s.stationTime)
    (a := s.loader.stationAddress) (entries_foldl_del (fun s i => dropOrigin_entries i s) _ _) rfl rfl ?_
  rw [createZero, loader_foldl fun s i => (dropOrigin_pairing i s).loader]
  rfl

/-- A change of the station address at a RELOAD (R131). -/
theorem changeStation_keepsOrigins (a : Address) (s : State) : KeepsOrigins True s (changeStation a s) := by
  unfold changeStation
  split
  · exact .refl s
  · have loader := loader_foldl (f := fun s i => countOriginRemoved (dropOrigin i s))
      (fun s i => (dropOrigin_pairing i s).loader) (othersHolding s a)
    have entries := entries_foldl_del (f := fun s i => countOriginRemoved (dropOrigin i s))
      (fun s i => dropOrigin_entries i s) (othersHolding s a)
    have moved : (readdressZero a (s.onLoader fun l => { l with stationAddress := a })).loader =
        { s.loader with stationAddress := a } := by
      unfold readdressZero
      split <;> rfl
    refine ⟨by rw [loader, moved], fun form => ?_⟩
    obtain ⟨e, held⟩ := Option.isSome_iff_exists.mp (form.there trivial)
    refine form.of_claimed (d := { e with addr := a, check := 0 }) (a := a) ?_ (form.own held).1 rfl
      (by rw [loader, moved])
    have held' : originOf (s.onLoader fun l => { l with stationAddress := a }) 0 = some e := held
    rw [entries]
    simp only [readdressZero, held']
    rfl

end

end Sys2Proof.Machine

/-! SUPPORT. The operations that leave the Origin Table and the station address as they are, and those of the Pairing
Unit and the Agent that keep the table's form (R119 to R126, R170 to R181). -/

namespace Sys2Proof.Machine

section
variable {zero : Prop} {s t : State} {r : Request}

/-! ### One part of the state -/

theorem onPort_originsStand (p : Port) (f : PortCounters → PortCounters) (s : State) :
    OriginsStand s (s.onPort p f) := .of_eq (State.onPort_pairing s p f) (State.onPort_loader s p f)

theorem onUplink_originsStand (u : Uplink) (f : UplinkEgress → UplinkEgress) (s : State) :
    OriginsStand s (s.onUplink u f) := (onUplink_egress u f s).originsStand

theorem onSettings_originsStand (f : Settings → Settings) (s : State) : OriginsStand s (s.onSettings f) :=
  .of_eq rfl rfl

theorem pairingCounters_originsStand (f : PairingCounters → PairingCounters) (s : State) :
    OriginsStand s (s.onPairing fun p => p.onCounters f) := ⟨rfl, rfl, rfl⟩

theorem finish_originsStand (s : State) : OriginsStand s (finish s) := (finish_egress s).originsStand

theorem freeHandle_originsStand (h : Nat) (s : State) : OriginsStand s (freeHandle h s) :=
  (freeHandle_storage h s).originsStand

theorem offerBay_originsStand (p : Option Port) (q : BayQueue) (h : Nat) (s : State) :
    OriginsStand s (offerBay p q h (setRefs h 1 s)).2 :=
  (setRefs_storage h 1 s).originsStand.trans (offerBay_egress p q h _).originsStand

/-- A frame received and stored. -/
theorem admitReceived_originsStand {f : List Octet} {c : TClass} {g : Option TagFields} {h : Nat}
    (taken : admitReceived f c g s = some (h, t)) : OriginsStand s t := by
  unfold admitReceived offerStorage at taken
  split at taken
  · obtain ⟨rfl, rfl⟩ := Prod.mk.inj (Option.some.inj taken)
    exact (storeFrame_storage _ _ _ s).originsStand
  · cases taken

/-! ### Frames paired and the part's own (R119 to R126) -/

theorem placeCopies_originsStand (p : Option Port) (h : Nat) (c : TClass) (b : Bool) (s : State) :
    OriginsStand s (placeCopies p h c b s) :=
  (placeCopies_sameTables p h c b s).originsStand (placeCopies_reply p h c b s).loader

theorem noLinkDrop_originsStand (h : Nat) (s : State) : OriginsStand s (noLinkDrop h s) :=
  (noLinkDrop_sameTables h s).originsStand (noLinkDrop_reply h s).loader

theorem unpairedFrame_originsStand (h : Nat) (s : State) : OriginsStand s (unpairedFrame h s) := by
  have forwarded : ∀ u, OriginsStand s (forwardUnpaired u h s) := fun u =>
    ((setRefs_storage h 1 s).originsStand.trans (offerUplink_egress (some .b) u _ _ _).originsStand).trans
      (pairingCounters_originsStand _ _)
  unfold unpairedFrame
  split
  · exact forwarded .u1
  · split
    · exact forwarded .u2
    · exact noLinkDrop_originsStand h s

theorem pairSteps_keepsOrigins (n : Numbering) (h : Nat) (c : TClass) (paired : Bool) (s : State) :
    KeepsOrigins zero s (pairSteps n h c paired s) := by
  unfold pairSteps
  split
  · exact (unpairedFrame_originsStand h s).keeps
  · split
    · exact ((freeHandle_originsStand h s).trans (pairingCounters_originsStand _ _)).keeps
    · split
      · exact (noLinkDrop_originsStand h s).keeps
      · exact (stamp_keepsOrigins n h c s).then_stand
          ((pairingCounters_originsStand _ _).trans (placeCopies_originsStand (some .b) h c true _))

theorem pairBayFrame_keepsOrigins (h : Nat) (a : Address) (c : TClass) (paired : Bool) (s : State) :
    KeepsOrigins zero s (pairBayFrame h a c paired s) :=
  (senderOf_keepsOrigins c a s).trans (pairSteps_keepsOrigins _ h c paired _)

theorem pairOwnFrame_keepsOrigins (p : Option Port) (h : Nat) (c : TClass) (b : Bool) (s : State) :
    KeepsOrigins zero s (pairOwnFrame p h c b s) := by
  unfold pairOwnFrame
  split
  · exact (noLinkDrop_originsStand h s).keeps
  · exact ((prepareZero_keepsOrigins p c s).trans (stamp_keepsOrigins _ h c _)).then_stand
      (placeCopies_originsStand p h c b _)

theorem buildPresence_keepsOrigins (s : State) : KeepsOrigins zero s (buildPresence s) := by
  have armed : OriginsStand s (rearmOwn s) := .of_eq rfl rfl
  refine armed.keeps.trans ?_
  have built := (admitBuilt_storage (presenceOctets (rearmOwn s)) .presence (rearmOwn s)).originsStand
  unfold buildPresence storePresence
  dsimp only
  split
  · exact (onFilter_filter _ _).originsStand.keeps
  · split
    · next refused =>
      rw [refused] at built
      exact built.keeps
    · next stored =>
      rw [stored] at built
      exact (built.trans (onFilter_filter _ _).originsStand).keeps.trans
        (pairOwnFrame_keepsOrigins none _ .presence true _)

theorem sendReply_keepsOrigins (code : Octet) (r : Request) (a : Answer) (s : State) :
    KeepsOrigins zero s (sendReply code r a s) := by
  have counted : OriginsStand s (countReply s) := .of_eq rfl rfl
  refine counted.keeps.trans ?_
  have built := (admitBuilt_storage (replyOctets code r a s) (if r.port = .b then .general else .timing)
    (countReply s)).originsStand
  unfold sendReply deliver
  split
  · next refused =>
    rw [countReply, refused] at built
    exact built.keeps
  · next stored =>
    rw [countReply, stored] at built
    split
    · exact (built.trans (offerBay_originsStand _ _ _ _)).keeps
    · exact built.keeps.trans (pairOwnFrame_keepsOrigins _ _ _ _ _)

/-! ### Settings written (R173, R175) -/

theorem judgeNetworks_originsStand (s : State) : OriginsStand s (judgeNetworks s) :=
  ((judgeNetwork_filter .u2 s).trans (judgeNetwork_filter .u1 _)).originsStand

theorem pauseSettingWritten_originsStand (s : State) : OriginsStand s (pauseSettingWritten s) := by
  unfold pauseSettingWritten
  split
  · exact (pauseTest_storage s).originsStand
  · split
    · exact (releasePause_storage s).originsStand
    · exact .refl s

theorem honorPauseWritten_originsStand (s : State) : OriginsStand s (honorPauseWritten s) := by
  unfold honorPauseWritten
  split
  · exact .refl s
  · exact .of_eq rfl rfl

theorem epochSeedWritten_originsStand (s : State) : OriginsStand s (epochSeedWritten s) := ⟨rfl, rfl, rfl⟩

theorem settingAction_originsStand (n : SettingName) (s : State) : OriginsStand s (settingAction n s) := by
  unfold settingAction
  split
  · exact judgeNetworks_originsStand s
  · exact pauseSettingWritten_originsStand s
  · exact pauseSettingWritten_originsStand s
  · exact pauseSettingWritten_originsStand s
  · exact honorPauseWritten_originsStand s
  · exact epochSeedWritten_originsStand s
  · exact .refl s

theorem allActions_originsStand (s : State) : OriginsStand s (allActions s) :=
  ((judgeNetworks_originsStand s).trans (pauseSettingWritten_originsStand _)).trans
    ((honorPauseWritten_originsStand _).trans (epochSeedWritten_originsStand _))

/-! ### Each kind of request but RESET (R173 to R180) -/

theorem shaped_keepsOrigins {objectOk shapeOk : Bool} {go : State × Option Answer}
    (served : KeepsOrigins zero s go.1) : KeepsOrigins zero s (shaped r objectOk shapeOk s go).1 := by
  unfold shaped
  split
  · exact .refl s
  · split
    · exact .refl s
    · exact served

theorem serveRead_state (r : Request) (s : State) : (serveRead r s).1 = s := by
  unfold serveRead
  split
  · rfl
  · split
    · rfl
    · split <;> rfl

theorem serveWrite_keepsOrigins : KeepsOrigins zero s (serveWrite r s).1 := by
  unfold serveWrite
  split
  · refine shaped_keepsOrigins ?_
    unfold writeSetting
    split
    · exact .refl s
    · exact ((onSettings_originsStand _ s).trans (settingAction_originsStand _ _)).keeps
  · split
    · exact .refl s
    · refine shaped_keepsOrigins ?_
      unfold writeClassifier
      split
      · dsimp only
        exact (onSettings_originsStand _ s).keeps
      · exact .refl s

theorem serveEntryRead_keepsOrigins : KeepsOrigins zero s (serveEntryRead r s).1 := by
  refine shaped_keepsOrigins ?_
  split
  · unfold readEntryAt
    split
    · exact .refl s
    · split
      · exact .refl s
      · split
        · exact .refl s
        · exact (entryCheckFails_filter _ _ _ s).originsStand.keeps
  · unfold readEntryOf
    split
    · exact .refl s
    · next a c _ =>
      have looked := (lookupKey_filter (some r.port) a c s).originsStand.keeps (zero := zero)
      split
      · next e => rwa [e] at looked
      · next e =>
        rw [e] at looked
        split <;> exact looked

theorem serveEntryPin_keepsOrigins : KeepsOrigins zero s (serveEntryPin r s).1 := by
  refine shaped_keepsOrigins ?_
  split
  · next a c limit _ _ _ =>
    have pinned := (pinKey_filter (some r.port) a c limit s).originsStand.keeps (zero := zero)
    split <;> next e => rwa [e] at pinned
  · exact .refl s

theorem serveEntryUnpin_keepsOrigins : KeepsOrigins zero s (serveEntryUnpin r s).1 := by
  refine shaped_keepsOrigins ?_
  split
  · exact .refl s
  · next a c _ =>
    have unpinned := (unpinKey_filter r.port a c s).originsStand.keeps (zero := zero)
    split <;> next e => rwa [e] at unpinned

theorem serveEntryRemove_keepsOrigins : KeepsOrigins zero s (serveEntryRemove r s).1 := by
  refine shaped_keepsOrigins ?_
  split
  · exact .refl s
  · next a c _ =>
    have removed := (removeKey_filter r.port a c s).originsStand.keeps (zero := zero)
    split <;> next e => rwa [e] at removed

theorem serveOriginRead_keepsOrigins : KeepsOrigins zero s (serveOriginRead r s).1 := by
  refine shaped_keepsOrigins ?_
  split
  · unfold readOriginAt
    split
    · exact .refl s
    · exact verifyOrigin_keepsOrigins _ _ _ s
  · unfold readOriginOf
    split
    · exact .refl s
    · next a _ =>
      have looked := lookupOrigin_keepsOrigins (zero := zero) (some r.port) none a s
      split <;> next e => rwa [e] at looked

theorem serveOriginPin_keepsOrigins : KeepsOrigins zero s (serveOriginPin r s).1 := by
  refine shaped_keepsOrigins ?_
  split
  · exact .refl s
  · next a _ =>
    have pinned := pinOrigin_keepsOrigins (zero := zero) (some r.port) a s
    split <;> next e => rwa [e] at pinned

theorem serveOriginRemove_keepsOrigins : KeepsOrigins zero s (serveOriginRemove r s).1 := by
  refine shaped_keepsOrigins ?_
  split
  · exact .refl s
  · next a _ =>
    have removed := removeOrigin_keepsOrigins (zero := zero) r.port a s
    split
    · next e => rwa [e] at removed
    · next e =>
      rw [e] at removed
      split <;> exact removed

theorem stageSlots_originsStand (u : Uplink) (c : SlotCounts) (s : State) : OriginsStand s (stageSlots u c s) :=
  onUplink_originsStand u _ s

theorem serveSlotStage_keepsOrigins : KeepsOrigins zero s (serveSlotStage r s).1 := by
  refine shaped_keepsOrigins ?_
  split
  · exact .refl s
  · split
    · exact .refl s
    · split
      · exact .refl s
      · exact (stageSlots_originsStand _ _ s).keeps

theorem serveSlotApply_keepsOrigins : KeepsOrigins zero s (serveSlotApply r s).1 := by
  refine shaped_keepsOrigins ?_
  split
  · exact .refl s
  · dsimp only
    exact (onUplink_originsStand _ _ s).keeps

theorem serveInject_keepsOrigins : KeepsOrigins zero s (serveInject r s).1 := by
  refine shaped_keepsOrigins ?_
  split
  · exact .refl s
  · exact OriginsStand.keeps ⟨rfl, rfl, rfl⟩

theorem serveFaultAck_keepsOrigins : KeepsOrigins zero s (serveFaultAck r s).1 := by
  refine shaped_keepsOrigins ?_
  have acked : OriginsStand s (acknowledge s).2 := by
    unfold acknowledge
    split <;> exact .of_eq rfl rfl
  split <;> next e => exact (e ▸ acked).keeps

theorem clearGroup_originsStand {g : Nat} {f : State → State} (found : clearGroup g = some f) (s : State) :
    OriginsStand s (f s) := by
  unfold clearGroup at found
  split at found
  case h_6 => cases found
  all_goals
    obtain rfl := Option.some.inj found
    exact ⟨rfl, rfl, rfl⟩

theorem serveClearCounters_keepsOrigins : KeepsOrigins zero s (serveClearCounters r s).1 := by
  refine shaped_keepsOrigins ?_
  split
  · exact .refl s
  · next f found => exact (clearGroup_originsStand found s).keeps

theorem serveReload_keepsOrigins : KeepsOrigins zero s (serveReload r s).1 := by
  refine shaped_keepsOrigins ?_
  split
  · exact .refl s
  · exact OriginsStand.keeps ⟨rfl, rfl, rfl⟩

theorem serveKind_keepsOrigins {k : ReqKind} (kind : k ≠ .reset) (r : Request) (s : State) :
    KeepsOrigins zero s (serveKind k r s).1 := by
  cases k with
  | read => exact (serveRead_state r s).symm ▸ .refl s
  | write => exact serveWrite_keepsOrigins
  | entryRead => exact serveEntryRead_keepsOrigins
  | entryPin => exact serveEntryPin_keepsOrigins
  | entryUnpin => exact serveEntryUnpin_keepsOrigins
  | entryRemove => exact serveEntryRemove_keepsOrigins
  | originRead => exact serveOriginRead_keepsOrigins
  | originPin => exact serveOriginPin_keepsOrigins
  | originRemove => exact serveOriginRemove_keepsOrigins
  | slotStage => exact serveSlotStage_keepsOrigins
  | slotApply => exact serveSlotApply_keepsOrigins
  | inject => exact serveInject_keepsOrigins
  | faultAck => exact serveFaultAck_keepsOrigins
  | clearCounters => exact serveClearCounters_keepsOrigins
  | flushTable => exact shaped_keepsOrigins (flushTable_filter s).originsStand.keeps
  | reload => exact serveReload_keepsOrigins
  | reset => exact absurd rfl kind

/-! ### RESET, and a request served (R170, R180, R181, R191, R193) -/

/-- A request served keeps the Origin Table's form, or it is an engine reset, which is not answered (R191). -/
def ServedOrigins (s : State) (p : State × Option Answer) : Prop :=
  KeepsOrigins True s p.1 ∨ (p.1.pairing.entries = [] ∧ p.1.loader.part = .loading ∧ p.2 = none)

theorem portReset_originsStand (u : Uplink) (s : State) : OriginsStand s (portReset u s) :=
  (portReset_sameTables u s).originsStand (portReset_loader u s)

theorem serveReset_servedOrigins (r : Request) (s : State) : ServedOrigins s (serveReset r s) := by
  unfold serveReset shaped
  split
  · exact .inl (.refl s)
  · split
    · exact .inl (.refl s)
    · split
      · exact .inl (portReset_originsStand .u1 s).keeps
      · exact .inl (portReset_originsStand .u2 s).keeps
      · exact .inr ⟨rfl, rfl, rfl⟩
      · exact .inl (.refl s)

theorem judgeRequest_servedOrigins (k : ReqKind) (r : Request) (s : State) : ServedOrigins s (judgeRequest k r s) := by
  unfold judgeRequest
  split
  · exact .inl (.refl s)
  · split
    · refine .inl ?_
      dsimp only
      exact (onPort_originsStand _ _ s).keeps
    · exact .inl (.refl s)
    · split
      · exact .inl (.refl s)
      · by_cases kind : k = .reset
        · exact kind ▸ serveReset_servedOrigins r s
        · exact .inl (serveKind_keepsOrigins kind r s)

theorem serve_originInv (k : ReqKind) (r : Request) (serves : s.loader.part ≠ .loading) (inv : OriginInv s) :
    OriginInv (serve k r s) := by
  unfold serve
  obtain kept | ⟨empty, loading, silent⟩ := judgeRequest_servedOrigins k r s
  · split
    · next unanswered =>
      rw [unanswered] at kept
      exact kept.keeps_inv serves inv
    · next answered =>
      rw [answered] at kept
      exact (kept.trans (sendReply_keepsOrigins _ r _ _)).keeps_inv serves inv
  · split
    · next unanswered =>
      rw [unanswered] at empty loading
      exact originInv_of_empty empty loading
    · next answered =>
      rw [answered] at silent
      cases silent

theorem serveFrame_originInv (p : Port) (h : Nat) (w : Walk) (f : List Octet) (serves : s.loader.part ≠ .loading)
    (inv : OriginInv s) : OriginInv (serveFrame p h w f s) := by
  have served : OriginInv (serveBody p (sourceOf f) (w.body f) s) := by
    unfold serveBody
    split
    · exact (onPort_originsStand _ _ s).keeps_inv inv
    · split
      · exact (sendReply_keepsOrigins _ _ _ s).keeps_inv serves inv
      · exact serve_originInv _ _ serves inv
  unfold serveFrame endRequest
  split
  · exact served
  · exact (freeHandle_originsStand h _).keeps_inv served

end

end Sys2Proof.Machine

/-! SUPPORT. Every step keeps the Origin Table's form: the Loader, the Intakes, the clock and each command (R17 to R26,
R56, R100, R163, R184 to R192). -/

namespace Sys2Proof.Machine

section
variable {zero : Prop} {s t : State}

/-! ### The Loader (R188 to R192) -/

theorem onLoader_originsStand {f : Loader → Loader} (part : (f s.loader).part = s.loader.part)
    (station : (f s.loader).stationAddress = s.loader.stationAddress) : OriginsStand s (s.onLoader f) :=
  ⟨rfl, part, station⟩

theorem skipRecord_originsStand (s : State) : OriginsStand s (skipRecord s) := ⟨rfl, rfl, rfl⟩

theorem settingRecord_originsStand (s : State) (r : ImageRecord) : OriginsStand s (settingRecord s r) := by
  unfold settingRecord applySetting
  split
  · split
    · exact skipRecord_originsStand s
    · split
      · exact skipRecord_originsStand s
      · exact onSettings_originsStand _ s
  · exact .refl s

theorem applySettings_originsStand (l : List ImageRecord) (s : State) : OriginsStand s (applySettings l s) :=
  ((onSettings_originsStand _ s).trans (.foldl settingRecord_originsStand l _)).trans (allActions_originsStand _)

theorem imageStation_originsStand (l : List ImageRecord) (s : State) : OriginsStand s (imageStation l s).2 := by
  have one : ∀ (p : Option Address × State) (r : ImageRecord), OriginsStand p.2 (stationRecord p r).2 := fun p r => by
    unfold stationRecord
    split
    · split
      · exact .refl _
      · exact skipRecord_originsStand _
    · exact .refl _
  have all : ∀ p : Option Address × State, OriginsStand p.2 (l.foldl stationRecord p).2 := by
    induction l with
    | nil => exact fun p => .refl _
    | cons r l rest => exact fun p => (one p r).trans (rest _)
  have read := all (none, s)
  unfold imageStation
  split <;> next e => rwa [e] at read

theorem originPinRecord_keepsOrigins (s : State) (r : ImageRecord) : KeepsOrigins zero s (originPinRecord s r) := by
  unfold originPinRecord
  split
  · next a =>
    have pinned := pinOrigin_keepsOrigins (zero := zero) none a s
    split
    · next e => rwa [e] at pinned
    · next e =>
      rw [e] at pinned
      exact pinned.then_stand (skipRecord_originsStand _)
  · exact .refl s

theorem sourcePinRecord_originsStand (s : State) (r : ImageRecord) : OriginsStand s (sourcePinRecord s r) := by
  unfold sourcePinRecord
  split
  · next a c limit =>
    split
    · exact skipRecord_originsStand s
    · next k _ =>
      have pinned := (pinKey_filter none a k limit s).originsStand
      split
      · next e => rwa [e] at pinned
      · next e =>
        rw [e] at pinned
        exact pinned.trans (skipRecord_originsStand _)
  · exact .refl s

theorem classifierRecord_originsStand (s : State) (r : ImageRecord) : OriginsStand s (classifierRecord s r) := by
  unfold classifierRecord
  split
  · split
    · exact onSettings_originsStand _ s
    · exact skipRecord_originsStand s
  · exact .refl s

theorem slotsRecord_originsStand {put : Uplink → SlotCounts → State → State}
    (puts : ∀ u c s, OriginsStand s (put u c s)) (s : State) (r : ImageRecord) :
    OriginsStand s (slotsRecord put s r) := by
  unfold slotsRecord
  split
  · split
    · exact skipRecord_originsStand s
    · exact puts _ _ s
  · exact .refl s

theorem setImageStatus_originsStand (i : ImageStatus) (s : State) : OriginsStand s (setImageStatus i s) :=
  onLoader_originsStand rfl rfl

theorem captureReport_originsStand (r : FaultReport) (s : State) : OriginsStand s (captureReport r s) := by
  unfold captureReport
  dsimp only
  split <;> exact .of_eq rfl rfl

theorem setUpOverflow_originsStand (s : State) : OriginsStand s (setUpOverflow s) := ⟨rfl, rfl, rfl⟩

/-- The station address of an image, its pins, and entry 0 that takes its address from what they have left (R114,
R131, R188). -/
theorem applyImage_form (l : List ImageRecord) (empty : s.pairing.entries = []) : OriginForm True (applyImage l s) := by
  have settings := (applySettings_originsStand l s).trans (imageStation_originsStand l _)
  have unpinned : OriginForm False
      (setStation (imageStation l (applySettings l s)).1 (imageStation l (applySettings l s)).2) :=
    .of_empty (settings.entries.trans empty)
  have slots : ∀ u c v, OriginsStand v (loadSlots u c v) := fun u c v => onUplink_originsStand u _ v
  have pinned := createZero_form ((KeepsOrigins.foldl originPinRecord_keepsOrigins l _).form unpinned)
  exact pinned.of_stands ((((setUpOverflow_originsStand _).trans (.foldl sourcePinRecord_originsStand l _)).trans
    (.foldl classifierRecord_originsStand l _)).trans (.foldl (slotsRecord_originsStand slots) l _))

theorem applyDefaults_form (empty : s.pairing.entries = []) : OriginForm True (applyDefaults s) := by
  have settings := (onSettings_originsStand (fun st => Settings.defaults s.loader.straps st.classifier) s).trans
    (allActions_originsStand _)
  have blank : OriginForm False
      (setStation (defaultStationAddress s.loader.straps) (allActions (defaultSettings s))) :=
    .of_empty (settings.entries.trans empty)
  exact (createZero_form blank).of_stands (setUpOverflow_originsStand _)

/-- A load leaves the Origin Table with entry 0 (R114, R188, R189). -/
theorem applyLoad_form (o : ImageOutcome) (empty : s.pairing.entries = []) : OriginForm True (applyLoad o s) := by
  unfold applyLoad
  split
  · exact (applyImage_form _ empty).of_stands (setImageStatus_originsStand _ _)
  · exact (applyDefaults_form empty).of_stands (setImageStatus_originsStand _ _)
  · exact (applyDefaults_form empty).of_stands
      ((captureReport_originsStand _ _).trans (setImageStatus_originsStand _ _))

theorem announceReset_loader (s : State) : (announceReset s).loader = s.loader := by
  unfold announceReset
  split <;> rfl

theorem followPhy_originsStand (u : Uplink) (s : State) : OriginsStand s (followPhy u s) :=
  (followPhy_sameTables u s).originsStand (followPhy_loader u s)

/-- From a table with entry 0 the part enters QUIET, where the invariant asks for that entry (R190). -/
theorem enterQuiet_originInv (form : OriginForm True s) : OriginInv (enterQuiet s) := by
  have loader : (enterQuiet s).loader.part = .quiet ∧
      (enterQuiet s).loader.stationAddress = s.loader.stationAddress := by
    rw [enterQuiet, followPhy_loader, followPhy_loader, State.onFilter_loader, State.onLoader_loader,
      announceReset_loader]
    exact ⟨rfl, rfl⟩
  obtain ⟨part, station⟩ := loader
  have entries := (enterQuiet_sameTables s).origins
  have quiet : OriginForm True (s.onLoader fun l => { l with part := .quiet }) :=
    ⟨form.wf, form.below, form.unique, form.own, form.there⟩
  exact (quiet.of_stands ⟨entries, part, station⟩).inv (by rw [part]; decide)

/-- The entry to RUN out of QUIET (R100, R190). -/
theorem enterRun_originInv (quiet : s.loader.part = .quiet) (inv : OriginInv s) : OriginInv (enterRun s) := by
  have form := inv.form (by rw [quiet]; decide)
  have run : OriginForm True (s.onLoader fun l => { l with part := .run, quietTimer := none }) :=
    ⟨form.wf, form.below, form.unique, form.own, form.there⟩
  have entered : KeepsOrigins True (s.onLoader fun l => { l with part := .run, quietTimer := none }) (enterRun s) :=
    (buildPresence_keepsOrigins _).then_stand (.of_eq rfl rfl)
  exact (entered.form run).inv (by rw [entered.part]; exact PartState.noConfusion)

theorem stageReload_originsStand (l : List ImageRecord) (s : State) : OriginsStand s (stageReload l s) :=
  (((stageSlots_originsStand .u1 _ s).trans (stageSlots_originsStand .u2 _ _)).trans
    (.foldl (slotsRecord_originsStand stageSlots_originsStand) l _)).trans (.of_eq rfl rfl)

theorem reloadImage_keepsOrigins (l : List ImageRecord) (s : State) : KeepsOrigins True s (reloadImage l s) := by
  have settings := (applySettings_originsStand l s).trans (imageStation_originsStand l _)
  have pinned := (settings.keeps.trans (changeStation_keepsOrigins (imageStation l (applySettings l s)).1 _)).trans
    (.foldl originPinRecord_keepsOrigins l _)
  exact pinned.then_stand (((OriginsStand.foldl sourcePinRecord_originsStand l _).trans
    (.foldl classifierRecord_originsStand l _)).trans (stageReload_originsStand l _))

theorem applyReload_keepsOrigins (o : ImageOutcome) (s : State) : KeepsOrigins True s (applyReload o s) := by
  refine .trans (t := s.onLoader fun l => { l with reloadRunning := false, recordsSkipped := 0 })
    (onLoader_originsStand rfl rfl).keeps ?_
  have defaults : ∀ v, OriginsStand v (allActions (defaultSettings v)) := fun v =>
    (onSettings_originsStand _ v).trans (allActions_originsStand _)
  unfold applyReload
  dsimp only
  split
  · exact (reloadImage_keepsOrigins _ _).then_stand (setImageStatus_originsStand _ _)
  · exact ((defaults _).trans (setImageStatus_originsStand _ _)).keeps
  · exact (((defaults _).trans (captureReport_originsStand _ _)).trans (setImageStatus_originsStand _ _)).keeps

/-- A fault report taken may reset the engine, which leaves the Origin Table empty (R163, R191). -/
theorem takeReport_originInv (r : FaultReport) (inv : OriginInv s) : OriginInv (takeReport r s) := by
  unfold takeReport
  split
  · exact originInv_of_empty rfl rfl
  · exact (captureReport_originsStand r s).keeps_inv inv

/-! ### The Intakes (R17 to R26) -/

theorem routeVerdict_originInv (u : Uplink) (h i : Nat) (v : Verdict) (g : Tag) (w : Walk) (f : List Octet)
    (serves : s.loader.part ≠ .loading) (inv : OriginInv s) : OriginInv (routeVerdict u h i v g w f s) := by
  unfold routeVerdict
  split
  · exact (freeHandle_originsStand h s).keeps_inv inv
  · split
    · exact ((readPresenceBody_filter i w f s).originsStand.trans (freeHandle_originsStand h _)).keeps_inv inv
    · split
      · split
        · exact serveFrame_originInv _ h w f serves inv
        · exact ((onPort_originsStand _ _ s).trans (freeHandle_originsStand h _)).keeps_inv inv
      · exact (offerBay_originsStand _ _ h s).keeps_inv inv

theorem routeTagged_originInv (u : Uplink) (g : Tag) (w : Walk) (f : List Octet) (serves : s.loader.part ≠ .loading)
    (inv : OriginInv s) : OriginInv (routeTagged u g w f s) := by
  unfold routeTagged
  split
  · exact (onPort_originsStand _ _ s).keeps_inv inv
  · next h v taken =>
    have screened := (admitReceived_originsStand taken).trans (screen_filter g (sourceOf f) v).originsStand
    exact routeVerdict_originInv u h _ _ g w f (screened.part ▸ serves) (screened.keeps_inv inv)

theorem routeUntagged_originsStand (u : Uplink) (w : Walk) (f : List Octet) (s : State) :
    OriginsStand s (routeUntagged u w f s) := by
  unfold routeUntagged
  split
  · exact onPort_originsStand _ _ s
  · split
    · exact onPort_originsStand _ _ s
    · split
      · exact onPort_originsStand _ _ s
      · next taken => exact (admitReceived_originsStand taken).trans (offerBay_originsStand _ _ _ _)

theorem uplinkRouting_originInv (u : Uplink) (g : Option Tag) (w : Walk) (f : List Octet) (inv : OriginInv s) :
    OriginInv (uplinkRouting u g w f s) := by
  unfold uplinkRouting
  split
  · exact (onPort_originsStand _ _ s).keeps_inv inv
  · split
    · exact inv
    · next serves =>
      split
      · exact routeTagged_originInv u _ w f serves inv
      · exact (routeUntagged_originsStand u w f s).keeps_inv inv

theorem takeOwnPresence_originsStand (u : Uplink) (g : Tag) (s : State) : OriginsStand s (takeOwnPresence u g s) := by
  refine (takeOwnPresence_sameTables u g s).originsStand ?_
  unfold takeOwnPresence ownPresence
  dsimp only
  split
  · exact State.onPort_loader _ _ _
  · split <;> split <;> exact State.onPort_loader _ _ _

theorem uplinkIntake_originInv (u : Uplink) (f : List Octet) (inv : OriginInv s) : OriginInv (uplinkIntake u f s) := by
  have counted : OriginInv (countReceived (uplinkPort u) s) := (onPort_originsStand _ _ s).keeps_inv inv
  unfold uplinkIntake uplinkTests uplinkBody uplinkTagTests
  dsimp only
  split
  · exact (onPort_originsStand _ _ _).keeps_inv counted
  · split
    · exact (onPort_originsStand _ _ _).keeps_inv counted
    · split
      · exact (onPort_originsStand _ _ _).keeps_inv counted
      · split
        · split
          · exact (onPort_originsStand _ _ _).keeps_inv counted
          · split
            · exact (takeOwnPresence_originsStand u _ _).keeps_inv counted
            · split
              · exact (onPort_originsStand _ _ _).keeps_inv counted
              · exact uplinkRouting_originInv u _ _ f counted
        · exact uplinkRouting_originInv u none _ f counted

theorem routeBay_originInv (w : Walk) (f : List Octet) (serves : s.loader.part ≠ .loading) (inv : OriginInv s) :
    OriginInv (routeBay w f s) := by
  unfold routeBay bayRequest bayFrame
  split
  · split
    · split
      · exact (onPort_originsStand _ _ s).keeps_inv inv
      · next taken =>
        have stored := admitReceived_originsStand taken
        exact serveFrame_originInv .b _ w f (stored.part ▸ serves) (stored.keeps_inv inv)
    · exact (onPort_originsStand _ _ s).keeps_inv inv
  · split
    · exact (onPort_originsStand _ _ s).keeps_inv inv
    · next taken =>
      exact ((admitReceived_originsStand taken).keeps.trans (pairBayFrame_keepsOrigins _ _ _ _ _)).keeps_inv serves inv

theorem honorPause_originsStand (w : Walk) (f : List Octet) (s : State) : OriginsStand s (honorPause w f s) := by
  unfold honorPause
  dsimp only
  split
  · exact (onPort_originsStand _ _ s).trans (takeQuanta_storage _ _).originsStand
  · exact onPort_originsStand _ _ s

theorem bayIntake_originInv (f : List Octet) (inv : OriginInv s) : OriginInv (bayIntake f s) := by
  have counted : OriginInv (countReceived .b s) := (onPort_originsStand _ _ s).keeps_inv inv
  unfold bayIntake bayTests
  split
  · exact (onPort_originsStand _ _ _).keeps_inv counted
  · split
    · exact (onPort_originsStand _ _ _).keeps_inv counted
    · split
      · exact (onPort_originsStand _ _ _).keeps_inv counted
      · split
        · exact counted
        · next serves =>
          split
          · exact (honorPause_originsStand _ f _).keeps_inv counted
          · exact routeBay_originInv _ f serves counted

/-! ### The scanner and the clock -/

/-- The scanner may also run in LOADING, where it finds no Origin entry (R56, R127). -/
theorem visitOrigin_originInv (i : Nat) (inv : OriginInv s) : OriginInv (visitOrigin i s) := by
  by_cases loading : s.loader.part = .loading
  · have free : originOf s i = none := by
      rw [originOf, inv.empty loading]
      rfl
    rwa [visitOrigin_of_free free]
  · exact (visitOrigin_keepsOrigins i s).keeps_inv loading inv

theorem scanTables_originInv (inv : OriginInv s) : OriginInv (scanTables s) := by
  have armed := onFilter_filter (fun f => { f with scanTimer := some 500 }) s
  have visited := (armed.trans (visitBucket_filter _)).originsStand
  exact (onFilter_filter _ _).originsStand.keeps_inv (visitOrigin_originInv _ (visited.keeps_inv inv))

theorem idle_originInv (inv : OriginInv s) : OriginInv (idle s) := by
  unfold idle
  split
  · exact inv
  · split
    · exact (finish_originsStand _).keeps_inv (takeReport_originInv _ inv)
    · exact OriginsStand.keeps_inv ⟨rfl, rfl, rfl⟩ inv

/-! ### Commands -/

theorem outOfReset_originInv (inv : OriginInv s) (kept : OriginInv t) : OriginInv (outOfReset s (finish t)) := by
  unfold outOfReset
  split
  · exact (finish_originsStand t).keeps_inv kept
  · exact inv

theorem whenServing_originInv (inv : OriginInv s) (kept : s.loader.part ≠ .loading → OriginInv t) :
    OriginInv (whenServing s (finish t)) := by
  unfold whenServing
  split
  · next serving => exact (finish_originsStand t).keeps_inv (kept (part_of_serving serving))
  · exact inv

theorem whileRunning_originInv {timer : Timer} (inv : OriginInv s) (kept : timer.isSome = true → OriginInv t) :
    OriginInv (whileRunning timer s (finish t)) := by
  unfold whileRunning
  split
  · next runs => exact outOfReset_originInv inv (kept runs)
  · exact inv

theorem request_originInv (k : ReqKind) (r : Request) (inv : OriginInv s) :
    OriginInv (whenServing s (finish (serve k r s))) :=
  whenServing_originInv inv fun serves => serve_originInv k r serves inv

/-- An indication of a PHY, and the link state that follows it (R108). -/
theorem link_originInv (u : Uplink) (up : Bool) (inv : OriginInv s) :
    OriginInv (whenServing (setPhy u up s) (finish (followPhy u (setPhy u up s)))) := by
  have noted := (onUplink_originsStand u (fun e => { e with phy := up }) s).keeps_inv inv
  exact whenServing_originInv noted fun _ => (followPhy_originsStand u _).keeps_inv noted

/-- The release from chip reset finds the part in LOADING (R185). -/
theorem releaseReset_originInv (straps : Straps) (loading : s.loader.part = .loading) (inv : OriginInv s) :
    OriginInv (releaseReset straps s) := originInv_of_empty (inv.empty loading) rfl

/-- Every command keeps the Origin Table's invariant. -/
theorem exec_originInv (part : PartInv s) (inv : OriginInv s) (c : Instr) (next : exec c s = .next t) :
    OriginInv t := by
  obtain ⟨-, held, quiet, run⟩ := part
  have aside : ∀ {v : State}, v.pairing = s.pairing → v.loader = s.loader → OriginInv v :=
    fun pairing loader => (OriginsStand.of_eq pairing loader).keeps_inv inv
  cases c <;> obtain rfl := Host.Outcome.next.inj next
  case chipReset => exact originInv_of_empty rfl rfl
  case chipResetRelease straps =>
    split
    · exact inv
    · next low => exact releaseReset_originInv straps (held (by simpa using low)) inv
  case uplinkArrival u f => exact outOfReset_originInv inv (uplinkIntake_originInv u f inv)
  case bayArrival f => exact outOfReset_originInv inv (bayIntake_originInv f inv)
  case linkStateDown u => exact link_originInv u false inv
  case linkStateUp u => exact link_originInv u true inv
  case pauseRefreshTimerExpiry =>
    have refreshed := (onPause_storage (fun p => { p with refresh := some (refreshTime s) }) s).trans
      (makePausePending_storage 65535 _)
    exact whileRunning_originInv inv fun _ => refreshed.originsStand.keeps_inv inv
  case receivedPauseTimerExpiry => exact whileRunning_originInv inv fun _ => aside rfl rfl
  case tableScannerTimerExpiry => exact whileRunning_originInv inv fun _ => scanTables_originInv inv
  case presenceTimerExpiry =>
    refine whileRunning_originInv inv fun runs => ?_
    exact ((buildPresence_keepsOrigins s).then_stand (.of_eq rfl rfl)).keeps_inv (by rw [run runs]; decide) inv
  case noticeTimerExpiry => exact whileRunning_originInv inv fun _ => aside rfl rfl
  case quietTimerExpiry => exact whileRunning_originInv inv fun runs => enterRun_originInv (quiet runs) inv
  case loadEnd eeprom =>
    split
    · next loading =>
      exact outOfReset_originInv inv (enterQuiet_originInv (applyLoad_form _ (inv.empty loading)))
    · exact inv
  case reloadEnd eeprom =>
    split
    · exact whenServing_originInv inv fun serves => (applyReload_keepsOrigins _ s).keeps_inv serves inv
    · exact inv
  case uplinkTransmissionComplete u =>
    split
    · exact outOfReset_originInv inv (((((onUplink_originsStand u _ s).trans
        (release_storage _ _ _).originsStand).trans (onPort_originsStand _ _ _)).keeps_inv inv))
    · exact inv
  case bayTransmissionComplete =>
    split
    · exact outOfReset_originInv inv (((((onBay_storage _ s).trans (release_storage _ _ _)).trans
        (onPortB_storage _ _)).trans (startPause_storage _)).originsStand.keeps_inv inv)
    · exact inv
  case pauseFrameComplete =>
    split
    · exact outOfReset_originInv inv (((onBay_storage _ s).trans (startPause_storage _)).originsStand.keeps_inv inv)
    · exact inv
  case faultReport r => exact outOfReset_originInv inv (takeReport_originInv r (aside rfl rfl))
  case read r => exact request_originInv .read r inv
  case write r => exact request_originInv .write r inv
  case entryRead r => exact request_originInv .entryRead r inv
  case entryPin r => exact request_originInv .entryPin r inv
  case entryUnpin r => exact request_originInv .entryUnpin r inv
  case entryRemove r => exact request_originInv .entryRemove r inv
  case originRead r => exact request_originInv .originRead r inv
  case originPin r => exact request_originInv .originPin r inv
  case originRemove r => exact request_originInv .originRemove r inv
  case slotStage r => exact request_originInv .slotStage r inv
  case slotApply r => exact request_originInv .slotApply r inv
  case inject r => exact request_originInv .inject r inv
  case faultAck r => exact request_originInv .faultAck r inv
  case clearCounters r => exact request_originInv .clearCounters r inv
  case flushTable r => exact request_originInv .flushTable r inv
  case reload r => exact request_originInv .reload r inv
  case resetPort r => exact request_originInv .reset r inv
  case resetEngine r => exact request_originInv .reset r inv

end

/-- Settles O58: where the part serves, each operation keeps the table's form with entry 0; in LOADING the table is
empty, and a load makes entry 0 before the part enters QUIET. -/
theorem originTableKeepsItsForm : Obligations.OriginTableKeepsItsForm := by
  unfold Obligations.OriginTableKeepsItsForm
  intro s t part inv next
  unfold step at next
  split at next
  · next c rest _ =>
    have taken : OriginsStand s { s with pending := rest } := .of_eq rfl rfl
    exact exec_originInv (s := { s with pending := rest }) part (taken.keeps_inv inv) c next
  · obtain rfl := Host.Outcome.next.inj next
    exact idle_originInv inv

end Sys2Proof.Machine

/-! SUPPORT. ORIGIN-READ, ORIGIN-PIN and ORIGIN-REMOVE (R114 to R117, R128 to R130, R177): what the lookup of an address
goes on with, what a pin and a removal make of it, and the answers. -/

namespace Sys2Proof.Machine

section
variable {i : Nat} {e : OriginEntry} {a : Address} {p : Option Port} {q : Port} {c : Option TClass} {r : Request}
  {s t : State}

/-! ### The lookup of an address (R116, R117) -/

theorem verifyOrigin_of_free (free : originOf s i = none) : verifyOrigin i p c s = (none, s) := by
  simp only [verifyOrigin, free]

theorem verifyOrigin_of_holding (held : originOf s i = some e) (holds : e.check = 0) :
    verifyOrigin i p c s = (some i, s) := by
  simp only [verifyOrigin, held, holds, if_true]

theorem verifyOrigin_of_failing (held : originOf s i = some e) (bad : e.check ≠ 0) :
    verifyOrigin i p c s = (if i = 0 then some 0 else none, originCheckFails i p c s) := by
  simp only [verifyOrigin, held, bad, if_false]

theorem lookupOrigin_of_verified (inv : OriginInv s) (held : originOf s i = some e) (addr : e.addr = a)
    (holds : e.check = 0) : lookupOrigin p c a s = (some i, s) := by
  simp only [lookupOrigin, findOrigin_of_held inv.wf held addr (inv.unique held addr),
    verifyOrigin_of_holding held holds]

theorem lookupOrigin_of_mended (inv : OriginInv s) (held : originOf s i = some e) (addr : e.addr = a)
    (bad : e.check ≠ 0) :
    lookupOrigin p c a s = (if i = 0 then some 0 else none, originCheckFails i p c s) := by
  simp only [lookupOrigin, findOrigin_of_held inv.wf held addr (inv.unique held addr),
    verifyOrigin_of_failing held bad]

theorem lookupOrigin_of_absent (absent : ∀ i e, (i, e) ∈ s.pairing.entries → e.addr ≠ a) :
    lookupOrigin p c a s = (none, s) := by
  have unfound : findOrigin s a = none := by
    rw [findOrigin, Option.map_eq_none_iff, List.find?_eq_none]
    exact fun m there => by simpa using absent m.1 m.2 there
  simp only [lookupOrigin, unfound]

/-- Below a FREE entry, or there, stands the lowest FREE one (R114). -/
theorem lowest_free_origin (low : 1 ≤ i) (free : originOf s i = none) : ∃ k, 1 ≤ k ∧ k ≤ i ∧ originOf s k = none ∧
    ∀ j, 1 ≤ j → j < k → (originOf s j).isSome = true := by
  classical
  have some_free : ∃ k, 1 ≤ k ∧ originOf s k = none := ⟨i, low, free⟩
  obtain ⟨first, clear⟩ := Nat.find_spec some_free
  refine ⟨Nat.find some_free, first, Nat.find_min' some_free ⟨low, free⟩, clear, fun j lo hi => ?_⟩
  exact Option.isSome_iff_ne_none.mpr fun none => Nat.find_min some_free hi ⟨lo, none⟩

/-! ### Pins and removal (R128, R129) -/

theorem pinOrigin_of_learned (found : lookupOrigin p none a s = (some i, s)) (held : originOf s i = some e)
    (learned : e.state = .learned) : pinOrigin p a s =
      (some i, (putOrigin i { e with state := .pinned } s).onPairing fun n =>
        { n with originPinned := n.originPinned + 1 }) := by
  simp only [pinOrigin, found, held, learned, if_true]

theorem pinOrigin_of_pinned (found : lookupOrigin p none a s = (some i, t)) (held : originOf t i = some e)
    (pinned : e.state = .pinned) : pinOrigin p a s = (some i, t) := by
  simp [pinOrigin, found, held, pinned]

theorem pinOrigin_of_room (missed : lookupOrigin p none a s = (none, t)) (free : freeOrigin t = some i) :
    pinOrigin p a s = (some i, createOrigin i .pinned a t) := by
  simp only [pinOrigin, missed, free]

theorem pinOrigin_of_full (missed : lookupOrigin p none a s = (none, t)) (full : freeOrigin t = none) :
    pinOrigin p a s = (none, t) := by
  simp only [pinOrigin, missed, full]

theorem removeOrigin_of_missed (missed : lookupOrigin (some q) none a s = (none, t)) :
    removeOrigin q a s = (none, t) := by
  simp only [removeOrigin, missed]

theorem removeOrigin_of_zero (found : lookupOrigin (some q) none a s = (some 0, t)) :
    removeOrigin q a s = (some 0, t) := by
  simp only [removeOrigin, found, if_true]

theorem removeOrigin_of_other (found : lookupOrigin (some q) none a s = (some i, s)) (other : i ≠ 0) :
    removeOrigin q a s = (some i, countOriginRemoved (dropOrigin i s)) := by
  simp only [removeOrigin, found, other, if_false]

/-! ### The answers (R177) -/

theorem originReply_of_free (free : originOf s i = none) : originReply i s = okIndex i [0] := by
  simp only [originReply, free]

theorem originReply_of_held (held : originOf s i = some e) :
    originReply i s = okIndex i (originVals e s.stationTime) := by
  simp only [originReply, held]

/-- ORIGIN-READ by index (R130). -/
theorem originRead_at (admissible : Admissible .originRead r s) (object : r.object = 0) (count : r.count = 0)
    {a : Answer} (read : readOriginAt r s = (t, some a)) : AnsweredFrom (exec (.originRead r) s) 0x07 r a t := by
  refine answeredFrom_of_served (k := .originRead) admissible (Eq.trans ?_ read)
  rw [serveKind, serveOriginRead, shaped_of_fits (by simp [object]) (by simp [count]), if_pos count]

/-- Within the table the entry is verified, and what stands there then is returned (R116, R130). -/
theorem originRead_within (admissible : Admissible .originRead r s) (object : r.object = 0) (count : r.count = 0)
    {o : Option Nat} (within : r.index.toNat ≤ 63)
    (verified : verifyOrigin r.index.toNat (some r.port) none s = (o, t)) :
    AnsweredFrom (exec (.originRead r) s) 0x07 r (originReply r.index.toNat t) t :=
  originRead_at admissible object count (by rw [readOriginAt, if_neg (by omega), verified])

variable (object : r.object = 0) (count : r.count = 2) (key : addrOfValues (carried r) = some a)
include object count key

/-- ORIGIN-READ by address, the lookup ending without an entry (R130). -/
theorem originRead_of_missed (admissible : Admissible .originRead r s)
    (missed : lookupOrigin (some r.port) none a s = (none, t)) :
    AnsweredFrom (exec (.originRead r) s) 0x07 r (refuse r .notFound) t := by
  refine answeredFrom_of_served (k := .originRead) admissible ?_
  rw [serveKind, serveOriginRead, shaped_of_fits (by simp [object]) (by simp [count]), if_neg (by simp [count])]
  simp only [readOriginOf, key, missed]

/-- ORIGIN-READ by address, the lookup going on with an entry (R130). -/
theorem originRead_of_found (admissible : Admissible .originRead r s)
    (found : lookupOrigin (some r.port) none a s = (some i, t)) (held : originOf t i = some e) :
    AnsweredFrom (exec (.originRead r) s) 0x07 r (okIndex i (originVals e t.stationTime)) t := by
  refine answeredFrom_of_served (k := .originRead) admissible ?_
  rw [serveKind, serveOriginRead, shaped_of_fits (by simp [object]) (by simp [count]), if_neg (by simp [count])]
  simp only [readOriginOf, key, found, originReply_of_held held]

theorem originPin_of_pinned (admissible : Admissible .originPin r s)
    (pinned : pinOrigin (some r.port) a s = (some i, t)) :
    AnsweredFrom (exec (.originPin r) s) 0x08 r (okIndex i []) t := by
  refine answeredFrom_of_served (k := .originPin) admissible ?_
  rw [serveKind, serveOriginPin, shaped_of_fits (by simp [object]) (by simp [count])]
  simp only [key, pinned]

theorem originPin_of_full (admissible : Admissible .originPin r s) (full : pinOrigin (some r.port) a s = (none, t)) :
    AnsweredFrom (exec (.originPin r) s) 0x08 r (refuse r .tableFull) t := by
  refine answeredFrom_of_served (k := .originPin) admissible ?_
  rw [serveKind, serveOriginPin, shaped_of_fits (by simp [object]) (by simp [count])]
  simp only [key, full]

theorem originRemove_of_missed (admissible : Admissible .originRemove r s)
    (missed : lookupOrigin (some r.port) none a s = (none, t)) :
    AnsweredFrom (exec (.originRemove r) s) 0x09 r (refuse r .notFound) t := by
  refine answeredFrom_of_served (k := .originRemove) admissible ?_
  rw [serveKind, serveOriginRemove, shaped_of_fits (by simp [object]) (by simp [count])]
  simp only [key, removeOrigin_of_missed missed]

theorem originRemove_of_zero (admissible : Admissible .originRemove r s)
    (found : lookupOrigin (some r.port) none a s = (some 0, t)) :
    AnsweredFrom (exec (.originRemove r) s) 0x09 r (refuse r .denied) t := by
  refine answeredFrom_of_served (k := .originRemove) admissible ?_
  rw [serveKind, serveOriginRemove, shaped_of_fits (by simp [object]) (by simp [count])]
  simp only [key, removeOrigin_of_zero found, if_true]

theorem originRemove_of_other (admissible : Admissible .originRemove r s)
    (found : lookupOrigin (some r.port) none a s = (some i, s)) (other : i ≠ 0) :
    AnsweredFrom (exec (.originRemove r) s) 0x09 r (okIndex i []) (countOriginRemoved (dropOrigin i s)) := by
  refine answeredFrom_of_served (k := .originRemove) admissible ?_
  rw [serveKind, serveOriginRemove, shaped_of_fits (by simp [object]) (by simp [count])]
  simp only [key, removeOrigin_of_other found other, other, if_false]

/-! ### Requests on an entry that holds its Check -/

/-- ORIGIN-PIN of an address held: a LEARNED entry becomes PINNED (R128). -/
theorem originPin_of_held (admissible : Admissible .originPin r s)
    (found : lookupOrigin (some r.port) none a s = (some i, s)) (held : originOf s i = some e) (holds : e.check = 0) :
    ∃ x, AnsweredFrom (exec (.originPin r) s) 0x08 r (okIndex i []) x ∧ OnlyPairing s x ∧
      (e.state = .pinned → x = s) ∧
      (e.state = .learned → originOf x i = some { e with state := .pinned } ∧
        x.pairing.originPinned = s.pairing.originPinned + 1 ∧
        x.pairing.epochCounter = s.pairing.epochCounter) ∧
      (∀ j, j ≠ i → originOf x j = originOf s j) := by
  cases state : e.state with
  | pinned =>
    exact ⟨s, originPin_of_pinned object count key admissible (pinOrigin_of_pinned found held state), .refl s,
      fun _ => rfl, nofun, fun _ _ => rfl⟩
  | learned =>
    refine ⟨_, originPin_of_pinned object count key admissible (pinOrigin_of_learned found held state),
      (putOrigin_pairing i _ s).trans (onPairing_pairing _ _), nofun, fun _ => ⟨?_, rfl, rfl⟩, fun j differ => ?_⟩
    · refine (originOf_putOrigin i i _ s).trans ((if_pos rfl).trans ?_)
      rw [← holds]
    · exact (originOf_putOrigin i j _ s).trans (if_neg differ)

/-- ORIGIN-REMOVE of an address that another entry than entry 0 holds (R129). -/
theorem originRemove_of_held (admissible : Admissible .originRemove r s)
    (found : lookupOrigin (some r.port) none a s = (some i, s)) (held : originOf s i = some e) (other : i ≠ 0) :
    ∃ x, AnsweredFrom (exec (.originRemove r) s) 0x09 r (okIndex i []) x ∧ OnlyPairing s x ∧
      originOf x i = none ∧ (∀ j, j ≠ i → originOf x j = originOf s j) ∧
      x.pairing.originInUse = s.pairing.originInUse - 1 ∧
      x.pairing.counters = { s.pairing.counters with originRemoved := s.pairing.counters.originRemoved + 1 } := by
  have entry (j : Nat) : originOf (countOriginRemoved (dropOrigin i s)) j = if j = i then none else originOf s j := by
    refine Eq.trans ?_ (Tbl.look_del s.pairing.entries i j)
    rw [← dropOrigin_entries i s]
    rfl
  refine ⟨_, originRemove_of_other object count key admissible found other,
    (dropOrigin_pairing i s).trans (onPairing_pairing _ _), (entry i).trans (if_pos rfl),
    fun j differ => (entry j).trans (if_neg differ), ?_⟩
  simp only [dropOrigin, held]
  exact ⟨rfl, rfl⟩

end

/-! ### The statements -/

/-- Settles O36: the lookup ends without an entry, and a pin takes the lowest FREE one. -/
theorem originRequestsOnAnUnknownAddress : Obligations.OriginRequestsOnAnUnknownAddress := by
  unfold Obligations.OriginRequestsOnAnUnknownAddress
  intro a r s object count key absent
  have missed : lookupOrigin (some r.port) none a s = (none, s) := lookupOrigin_of_absent absent
  refine ⟨fun admissible => originRead_of_missed object count key admissible missed,
    fun admissible => originRemove_of_missed object count key admissible missed,
    fun admissible => ⟨?_, fun taken => ?_⟩⟩
  · intro i low high free taken
    refine ⟨_, originPin_of_pinned object count key admissible
      (pinOrigin_of_room missed (freeOrigin_of_lowest low high free taken)), createOrigin_pairing _ _ _ s,
      Tbl.look_put_self _ _ _, fun j differ => Tbl.look_put_ne _ _ differ, rfl, rfl, rfl⟩
  · exact originPin_of_full object count key admissible (pinOrigin_of_full missed (freeOrigin_of_full taken))

/-- Settles O35: a request by address goes on with the entry that its lookup has verified, with entry 0 rebuilt, or,
where the entry has failed its Check, as for an address that no entry holds; a read by index with what stands at the
index once that is verified. -/
theorem originRequestsOnOneAddress : Obligations.OriginRequestsOnOneAddress := by
  unfold Obligations.OriginRequestsOnOneAddress
  refine ⟨fun i e r s object count inv key held holds => ?_, fun i e r s object count inv key held bad => ?_,
    fun r s admissible object count => ?_⟩
  · have found : lookupOrigin (some r.port) none e.addr s = (some i, s) := lookupOrigin_of_verified inv held rfl holds
    refine ⟨fun admissible => originRead_of_found object count key admissible found held,
      fun admissible => originPin_of_held object count key admissible found held holds,
      fun admissible => ⟨fun first => ?_,
        fun other => originRemove_of_held object count key admissible found held other⟩⟩
    subst first
    exact originRemove_of_zero object count key admissible found
  · have looked : lookupOrigin (some r.port) none e.addr s = _ := lookupOrigin_of_mended inv held rfl bad
    have mended := originFails_originCheckFails i (some r.port) none s
    have ⟨only, ⟨_, freed, rebuilt⟩, _⟩ := mended
    refine ⟨_, mended, fun other => ?_, fun first => ?_⟩
    · rw [if_neg other] at looked
      obtain ⟨free, pairing⟩ := freed other
      have bound := inv.lt held
      obtain ⟨k, low, high, lowest, taken⟩ := lowest_free_origin (by omega) free
      have pinned := pinOrigin_of_room looked (freeOrigin_of_lowest low (by omega) lowest taken)
      have created : originOf (createOrigin k .pinned e.addr (originCheckFails i (some r.port) none s)) k = some _ :=
        Tbl.look_put_self _ _ _
      have epoch := congrArg Pairing.epochCounter pairing
      have counters := congrArg Pairing.counters pairing
      rw [epoch, only.stationTime] at created
      refine ⟨fun admissible => originRead_of_missed object count key admissible looked,
        fun admissible => originRemove_of_missed object count key admissible looked,
        fun admissible => ⟨k, _, low, high, lowest, taken, originPin_of_pinned object count key admissible pinned,
          createOrigin_pairing _ _ _ _, rfl, created, fun j differ => Tbl.look_put_ne _ _ differ, rfl, rfl,
          congrArg (· + 1) epoch, counters⟩⟩
    · subst first
      rw [if_pos rfl] at looked
      obtain ⟨zero, -⟩ := rebuilt rfl
      refine ⟨fun d there admissible => ?_, fun admissible => originPin_of_pinned object count key admissible
        (pinOrigin_of_pinned looked zero rfl),
        fun admissible => originRemove_of_zero object count key admissible looked⟩
      rw [← only.stationTime]
      exact originRead_of_found object count key admissible looked there
  · refine ⟨fun beyond => originRead_at admissible object count (if_pos beyond), fun within free => ?_,
      fun e within held => ⟨fun holds => ?_, fun bad => ?_⟩⟩
    · have read := originRead_within admissible object count within (verifyOrigin_of_free free)
      rwa [originReply_of_free free] at read
    · have read := originRead_within admissible object count within (verifyOrigin_of_holding held holds)
      rwa [originReply_of_held held] at read
    · have mended := originFails_originCheckFails r.index.toNat (some r.port) none s
      have read := originRead_within admissible object count within (verifyOrigin_of_failing held bad)
      have ⟨only, ⟨_, freed, _⟩, _⟩ := mended
      refine ⟨_, mended, fun other => ?_, fun d first there => ?_⟩
      · rwa [originReply_of_free (freed other).1] at read
      · rw [first] at read only ⊢
        rwa [originReply_of_held (first ▸ there), only.stationTime] at read

end Sys2Proof.Machine
